-- ==== Sys2Proof/Word.lean ====
section
/-! DEFINITION. Word.lean: the word types of the part (bytes on the links, the 32-bit counters) and their plainest arithmetic.
Quantities that the manual counts (positions, flows, times, per mille) are integers, not words (00_scope.md 6.1, 6.2). -/
namespace Sys2Proof

/-- One byte on a link (chapter 12). -/
abbrev Byte := BitVec 8

/-- A CRC-16 register (R173). -/
abbrev Word16 := BitVec 16

/-- A 32-bit counter or tag: time stamps, event serials, arrival stamps, layout tags, CRC-32 (R61, R167, R168, R186). -/
abbrev Word32 := BitVec 32

/-- Ceiling division of naturals (00_scope.md 6.2); only ever used with a positive divisor. -/
def divUp (a b : Nat) : Nat := (a + b - 1) / b

/-- Floor division of integers, toward minus infinity (00_scope.md 6.2). -/
def divDown (a b : Int) : Int := Int.fdiv a b

end Sys2Proof
end

