-- ==== Sys2Proof/Syntax.lean ====
section
/-! DEFINITION. Syntax.lean: the commands the part takes (one constructor of `Instr` per row of spec/opcode_table.json)
and the data their operands carry: stations, modes and the records of a layout (chapters 1, 3, 4, 7, 10, 12, 13). -/
namespace Sys2Proof

/-- A sparse table of indexed records, in strictly rising index order; an index that is not listed is absent. -/
abbrev Table (α : Type) := List (Nat × α)

/-- The two stations (R172). -/
inductive Station
  | bridge
  | stand
deriving DecidableEq, Repr

/-- The operating mode (R156). -/
inductive Mode
  | harbour
  | sea
  | maintenance
deriving DecidableEq, Repr

/-- The two regions of a layout (R183); `struct` is STRUCTURE. -/
inductive Region
  | tuning
  | struct
deriving DecidableEq, Repr

/-- The role of a LOCK point (R2). -/
inductive Role
  | visorLock
  | stowageLock
  | cleat
  | flap
  | other
deriving DecidableEq, Repr

/-- The direction of a lock or group drive (R48, R110). -/
inductive LockDir
  | engage
  | retract
deriving DecidableEq, Repr

/-- The direction of an axis: OPEN (`opening`) or CLOSE (`closing`) (R48, R88). -/
inductive AxisDir
  | opening
  | closing
deriving DecidableEq, Repr

/-- A group's failure policy (R10). -/
inductive Policy
  | stopGroup
  | carryOn
deriving DecidableEq, Repr

/-- The static part of a LOCK record, in the field order of R2. -/
structure LockDef where
  role         : Role
  engagedIn    : Nat
  retractedIn  : Nat
  engageCoil   : Nat
  retractCoil  : Nat
  flow         : Nat
  travelLimit  : Nat
deriving DecidableEq, Repr

/-- One transducer of an axis (R4). -/
structure Transducer where
  input       : Nat
  closedCount : Nat
  openCount   : Nat
deriving DecidableEq, Repr

/-- The float coil of an axis with its float window (R6). -/
structure FloatDef where
  coil : Nat
  low  : Nat
  high : Nat
deriving DecidableEq, Repr

/-- The tip-load input of an axis (R6). -/
structure TipDef where
  input     : Nat
  fullScale : Nat
  landing   : Nat
  liftOff   : Nat
deriving DecidableEq, Repr

/-- One travel window of an axis (R7). -/
structure Window where
  enabled : Bool
  start   : Nat
  range   : Nat
  level   : Nat
  protect : Bool
deriving DecidableEq, Repr

/-- The static part of an AXIS record without its travel windows: the fields of R4, R5 and R6, in their order. -/
structure AxisDef where
  transA      : Transducer
  transB      : Option Transducer
  travel      : Nat
  endBand     : Nat
  skewLimit   : Nat
  openOut     : Nat
  closeOut    : Nat
  qFull       : Nat
  vMin        : Nat
  vOpen       : Nat
  vClose      : Nat
  approach    : Nat
  inPos       : Nat
  settle      : Nat
  stallDelta  : Nat
  stallWindow : Nat
  limitOpen   : Nat
  limitClose  : Nat
  float       : Option FloatDef
  tip         : Option TipDef
deriving DecidableEq, Repr

/-- What a PUT_POINT record carries when its presence flag is set (R185): the kind, then R2, or R4, R5 and R6. -/
inductive PointBody
  | lock (d : LockDef)
  | axis (d : AxisDef)
deriving DecidableEq, Repr

/-- The static part of one present record of the Point Table (R1); an AXIS record also holds its travel windows (R7). -/
inductive PointDef
  | lock (d : LockDef)
  | axis (d : AxisDef) (windows : List Window)
deriving DecidableEq, Repr

/-- A group of lock points (R10). -/
structure GroupDef where
  members    : List Nat
  policy     : Policy
  retryLimit : Nat
  backOff    : Nat
deriving DecidableEq, Repr

/-- The requirement of one term of a layout condition (R39). -/
inductive Requirement
  | engaged
  | retracted
  | atClosed
  | atOpen
  | atLeast (x : Nat)
  | atMost (x : Nat)
deriving DecidableEq, Repr

/-- One term of a layout condition (R39). -/
structure Term where
  point : Nat
  req   : Requirement
deriving DecidableEq, Repr

/-- A subject and direction of the permissive table (R48). -/
inductive Subject
  | group (g : Nat) (d : LockDir)
  | axis (p : Nat) (d : AxisDir)
deriving DecidableEq, Repr

/-- One entry of the permissive table (R48). The two sets are lists of condition ids. -/
structure PermEntry where
  subject : Subject
  require : List Nat
  forbid  : List Nat
deriving DecidableEq, Repr

/-- An operation definition (R109). -/
structure OpDef where
  name    : List Byte
  modes   : List Mode
  list    : Nat
  reverse : Option Nat
deriving DecidableEq, Repr

/-- When a step may issue (R110). -/
inductive Join
  | afterAll
  | withPrevious
deriving DecidableEq, Repr

/-- What the operation does when a step fails (R110). -/
inductive OnFail
  | hold
  | reverse
deriving DecidableEq, Repr

/-- The target of a MOVE_AXIS step (R110). -/
inductive Target
  | closedEnd
  | openEnd
  | position (x : Nat)
deriving DecidableEq, Repr

/-- The kind of a step with its operands (R110). -/
inductive StepKind
  | driveGroup (group : Nat) (dir : LockDir)
  | moveAxis (point : Nat) (target : Target) (landing : Bool)
  | floatAxis (point : Nat)
  | wait (cond : Nat) (want : Bool) (limit : Nat)
  | pause (time : Nat)
  | call (list : Nat)
deriving DecidableEq, Repr

/-- One step of a step list (R110). -/
structure Step where
  kind   : StepKind
  join   : Join
  onFail : OnFail
deriving DecidableEq, Repr

/-- The static fields of a pump record (R54). -/
structure PumpDef where
  capacity  : Nat
  startTime : Nat
deriving DecidableEq, Repr

/-- The header record: the closure designation (R154), then the DECK_CLEAR and LINKSPAN_READY inputs (R38, R185). -/
structure Header where
  visorCond : Nat
  innerCond : Nat
  deckClear : Option Nat
  linkspan  : Option Nat
deriving DecidableEq, Repr

/-- The part-wide tuning record, in the order of R183: K, flow wait limit, idle time, the five vessel tuning values
of R41, and the debounce times (ms) of the three input classes of R18. -/
structure Tuning where
  travelPromotion : Nat
  flowWait        : Nat
  idleTime        : Nat
  heelLimit       : Nat
  pitchLimit      : Nat
  attitudeHyst    : Nat
  windLimit       : Nat
  windHyst        : Nat
  debSensor       : Nat
  debGeneral      : Nat
  debFeedback     : Nat
deriving DecidableEq, Repr

/-- A layout: the records of both regions (chapter 13). -/
structure Layout where
  header      : Option Header := none
  tuning      : Option Tuning := none
  pumps       : Table PumpDef := []
  points      : Table PointDef := []
  groups      : Table GroupDef := []
  conditions  : Table (List Term) := []
  permissives : Table PermEntry := []
  operations  : Table OpDef := []
  lists       : Table (List Step) := []
deriving DecidableEq, Repr

/-- The record part of a PUT: absent, present with its fields, or present with a named value outside its list, which
is answered as a field outside its own range (R175, R185). -/
inductive Given (α : Type)
  | absent
  | present (a : α)
  | outOfList
deriving DecidableEq, Repr

/-- A discrete input: one of the 96 field inputs, or the running feedback terminal of a pump (R18). -/
inductive DiscreteInput
  | field (i : Nat)
  | feedback (pump : Nat)
deriving DecidableEq, Repr

/-- A link's bit rate (R172). -/
inductive BitRate
  | r57600
  | r115200
deriving DecidableEq, Repr

/-- A link's line mode (R172). -/
inductive LineMode
  | multiDrop
  | pointToPoint
deriving DecidableEq, Repr

/-- The six strap pins as SLI reads them at POR and at XRST (R172). -/
structure Straps where
  address    : BitVec 2
  bridgeRate : BitRate
  standRate  : BitRate
  bridgeLine : LineMode
  standLine  : LineMode
deriving DecidableEq, Repr

/-- What ACK_ALARM names: ALL, or one (kind, subject) pair with the kind as its code (R165). -/
inductive AckWhat
  | all
  | pair (kind : Nat) (subject : Nat)
deriving DecidableEq, Repr

/-- The commands: one constructor per row of spec/opcode_table.json. A record command carries the station it comes
from and its RUN flag (R172, R175); an argument the rule of the kind may answer BAD_VALUE is carried as the code the
record holds. COIL_FAULT_STUCK carries the outputs found stuck at one reading, in the order taken (R146);
DEBOUNCED_VALUE_CHANGE the changes of one sample instant (R19); DISCRETE_SAMPLE the inputs whose raw level is on. -/
inductive Instr
  | powerOnReset (straps : Straps)
  | xrst
  | xrstRelease (straps : Straps)
  | startupCheckEnd
  | estopFirstReport (openA openB : Bool)
  | timeStampTick
  | debouncedValueChange (changes : List (DiscreteInput × Bool))
  | analogFilteredValue (input : Nat) (count : Nat)
  | recoveryTimerExpiry (input : Nat)
  | conflictTimerExpiry (point : Nat)
  | stalenessTimerExpiry
  | startTimerExpiry (pump : Nat)
  | runDownTimerExpiry (pump : Nat)
  | idleTimerExpiry
  | flowWaitExpiry (motion : Nat)
  | memberTravelTimeout (motion : Nat) (point : Nat)
  | backOffExpiry (motion : Nat) (point : Nat)
  | controlInterval (motion : Nat)
  | stallWindowEnd (motion : Nat)
  | axisTravelTimeout (motion : Nat)
  | settleEnd (motion : Nat)
  | liftOffTimerExpiry (point : Nat)
  | waitStepExpiry (slot : Nat)
  | pauseExpiry (slot : Nat)
  | jogDurationExpiry
  | jogAxisCheck
  | coilFaultOpen (out : Nat)
  | coilFaultShort (out : Nat)
  | coilFaultStuck (outs : List Nat)
  | darkPulse (out : Nat) (milliamps : Nat)
  | propFaultOpen (out : Nat)
  | propFaultShort (out : Nat)
  | estopChannelChange (second : Bool) (opened : Bool)
  | discrepancyTimerExpiry
  | silenceTimerExpiry (link : Station)
  | holdToRunExpiry
  | interByteGap (link : Station)
  | requestFrame (link : Station) (bytes : List Byte)
  | badRecord (st : Station) (kind : Byte)
  | status (st : Station) (run : Bool)
  | claimControl (st : Station) (run : Bool) (tag : Word32)
  | releaseControl (st : Station) (run : Bool)
  | holdToRun (st : Station) (run : Bool)
  | setMode (st : Station) (run : Bool) (mode : Nat)
  | consent (st : Station) (run : Bool) (on : Bool)
  | vesselState (st : Station) (run : Bool) (heel pitch wind : Int)
  | startOperation (st : Station) (run : Bool) (op : Nat)
  | stop (st : Station) (run : Bool)
  | resume (st : Station) (run : Bool)
  | reverse (st : Station) (run : Bool)
  | abort (st : Station) (run : Bool)
  | jog (st : Station) (run : Bool) (point : Nat) (dir : Nat) (duration : Nat)
  | clearFaultPoint (st : Station) (run : Bool) (point : Nat)
  | clearFaultPump (st : Station) (run : Bool) (pump : Nat)
  | resetEstop (st : Station) (run : Bool)
  | readPoint (st : Station) (run : Bool) (point : Nat)
  | readConditions (st : Station) (run : Bool)
  | readOperation (st : Station) (run : Bool)
  | readPumps (st : Station) (run : Bool)
  | readAlarms (st : Station) (run : Bool) (position : Nat)
  | ackAlarm (st : Station) (run : Bool) (what : AckWhat)
  | seekEvents (st : Station) (run : Bool) (choice : Nat) (n : Nat)
  | readEvents (st : Station) (run : Bool)
  | layoutOpen (st : Station) (run : Bool) (region : Nat)
  | layoutDiscard (st : Station) (run : Bool)
  | layoutCommit (st : Station) (run : Bool)
  | layoutWriteEnd
  | putHeader (st : Station) (run : Bool) (h : Option Header)
  | putPump (st : Station) (run : Bool) (index : Nat) (r : Given PumpDef)
  | putPoint (st : Station) (run : Bool) (index : Nat) (r : Given PointBody)
  | putWindow (st : Station) (run : Bool) (axis : Nat) (position : Nat) (r : Given Window)
  | putGroup (st : Station) (run : Bool) (index : Nat) (r : Given GroupDef)
  | putCondition (st : Station) (run : Bool) (index : Nat) (r : Given (List Term))
  | putPermissive (st : Station) (run : Bool) (index : Nat) (r : Given PermEntry)
  | putOperation (st : Station) (run : Bool) (index : Nat) (r : Given OpDef)
  | listBegin (st : Station) (run : Bool) (list : Nat) (present : Option Bool)
  | putStep (st : Station) (run : Bool) (step : Option Step)
  | putTuning (st : Station) (run : Bool) (t : Tuning)
  | getHeader (st : Station) (run : Bool)
  | getPump (st : Station) (run : Bool) (index : Nat)
  | getPoint (st : Station) (run : Bool) (index : Nat)
  | getWindow (st : Station) (run : Bool) (axis : Nat) (position : Nat)
  | getGroup (st : Station) (run : Bool) (index : Nat)
  | getCondition (st : Station) (run : Bool) (index : Nat)
  | getPermissive (st : Station) (run : Bool) (index : Nat)
  | getOperation (st : Station) (run : Bool) (index : Nat)
  | getListBegin (st : Station) (run : Bool) (list : Nat)
  | getStep (st : Station) (run : Bool) (list : Nat) (index : Nat)
  | getTuning (st : Station) (run : Bool)
  | discreteSample (on : List DiscreteInput)
  | receivedByte (link : Station) (b : Byte)
deriving DecidableEq, Repr

end Sys2Proof
end

