-- ==== Sys2Proof/Config.lean ====
section
/-! DEFINITION. Config.lean: the fixed constants the manual gives the part, and the free values it leaves open. -/
namespace Sys2Proof.Config

/-- The channel range of analog inputs [700, 4050] (R22). -/
def channelLow : Nat := 700
def channelHigh : Nat := 4050

/-- The overtravel margin beyond either end, in decidegrees (R28). -/
def overtravel : Int := 50

/-- Timer lengths in tenths of a second: conflict timer (R26), recovery timer (R22), staleness timer (R43), run-down
timer (R54), lift-off timer (R107), discrepancy timer (R151), silence timer (R179), hold-to-run timer (R180). -/
def conflictTime : Nat := 10
def recoveryTime : Nat := 10
def stalenessTime : Nat := 50
def runDownTime : Nat := 10
def liftOffTime : Nat := 20
def discrepancyTime : Nat := 2
def silenceTime : Nat := 30
def holdToRunTime : Nat := 4

/-- The sampling period of discrete inputs in milliseconds (R18). -/
def samplePeriod : Nat := 5

/-- Coil stuck threshold in milliamperes (chapter 9, section 9.7). -/
def stuckThreshold : Nat := 40

/-- The least command at which the open check of a proportional output applies (R148). -/
def propOpenFloor : Nat := 50

/-- List sizes: alarm list (R164), event list (R168), in-flight list (R118), request list (R61), list stack (R111),
steps of a list and of a layout (R110), records of a frame (R174), entries of one READ_ reply (R166, R170). -/
def alarmMax : Nat := 32
def eventMax : Nat := 128
def inFlightMax : Nat := 6
def requestMax : Nat := 8
def stackMax : Nat := 4
def listMax : Nat := 32
def stepsMax : Nat := 256
def frameRecordsMax : Nat := 8
def readMax : Nat := 8
def bodyMax : Nat := 240

/-- OVERFLOW clears at the first removal that leaves this many alarm entries or fewer (R164). -/
def overflowRelease : Nat := 24

/-- The motion id of the jog (R112, R138). -/
def jogMotion : Nat := 7

/-- The widening of a float window's clear band (R106). -/
def clearBand : Nat := 10

/-- DESIGN CHOICE (assumption 2): how many internal reports one step may settle before the rest is left for the next step.
The manual gives no such bound; no walk of a layout that passed the commit checks comes near it. -/
def settleFuel : Nat := 4096

/-- FREE VALUE (assumption 5): the travel promotion K that READ_PUMPS reports while no layout is active. R70 reports K in
every state of the part, and no rule says what K is without a tuning record. Nothing constrains it but K's own range, 0 to 7 (R58). -/
opaque travelPromotionUnset : Nat → BitVec 3

end Sys2Proof.Config
end

