-- ==== Sys2Proof/Machine/State.lean ====
section
/-! DEFINITION. Machine/State.lean: everything the manual gives the part to hold, block by block (00_scope.md section 3), and
the state right after power-on reset. Timers hold their remaining tenths of a second, or `none` when stopped. -/
namespace Sys2Proof.Machine

/-- Why a step stops with a fault. The manual describes no state in which the part stops: every event has a next state,
so no constructor exists and no meaning raises one. Safe. -/
inductive Fault
deriving DecidableEq, Repr

/-- Why a command is refused. -/
inductive Refusal
  /-- Raised by exec for a command that has no meaning yet; safe (the model says nothing about it). No arm uses it. -/
  | notModelled (mnemonic : String)
deriving DecidableEq, Repr

/-- A condition value (R36): TRUE, FALSE or UNKNOWN. -/
inductive Tri
  | yes
  | no
  | unknown
deriving DecidableEq, Repr

/-- A closure value (R154). -/
inductive Closed
  | secured
  | notSecured
  | unknown
deriving DecidableEq, Repr

/-- The authority holder (R177). -/
inductive Holder
  | none
  | bridge
  | stand
deriving DecidableEq, Repr

/-- The result codes of 12.6. -/
inductive Result
  | ok
  | busy
  | refusedAuthority
  | refusedStation
  | refusedMode
  | refusedState
  | stillHeld
  | wrongLayout
  | badRecord
  | badValue
  | full
  | notFound
deriving DecidableEq, Repr

/-- A reply record before it is framed: its kind, its result code and the fields that follow it (R174, R176). -/
structure Reply where
  kind   : Byte
  result : Result
  fields : List Byte
deriving DecidableEq, Repr

/-! ### SLI -/

/-- The receive state of a link (R173). -/
inductive RxState
  | hunt
  | address
  | length
  | records
  | check
deriving DecidableEq, Repr

/-- What SLI keeps for one link (R173, R179) and its station's event cursor (chapter 11.3). `bytes` are those of the frame so
far, from the address byte on; `ignored` marks a frame for another address; `gapOver` says whether the time since the
last byte has passed 20 ms. `reply` and `sent` are the outputs of the link: the last reply record, the last reply frame. -/
structure Link where
  rx      : RxState := .hunt
  bytes   : List Byte := []
  ignored : Bool := false
  gapOver : Bool := false
  silence : Option Nat := some Config.silenceTime
  active  : Bool := true
  cursor  : Word32 := 0
  reply   : Option Reply := none
  sent    : List Byte := []
deriving DecidableEq, Repr

/-- The Station Link Interface. -/
structure Sli where
  straps : Straps
  bridge : Link
  stand  : Link
deriving DecidableEq, Repr

/-! ### AMU -/

/-- The Authority and Mode Unit (chapters 3.5, 10.2, 12.3, 12.4). -/
structure Amu where
  holder  : Holder := .none
  runTimer : Option Nat := none
  mode    : Mode
  consent : Bool := false
deriving DecidableEq, Repr

/-! ### ISC -/

/-- The debounce class of a discrete input (R18). -/
inductive DebounceClass
  | sensor
  | general
  | feedback
deriving DecidableEq, Repr

/-- One assigned discrete input (R18, R20); `rescan` says that its next sample is taken directly. -/
structure Discrete where
  cls       : DebounceClass
  debounced : Bool := false
  count     : Nat := 0
  rescan    : Bool := true
deriving DecidableEq, Repr

/-- The health state of an analog channel that has a filtered value (R22). -/
inductive Health
  | healthy
  | unhealthy
  | recovering
deriving DecidableEq, Repr

/-- One assigned analog input (R21, R22): the raw samples held, newest first, and what follows from them. -/
structure Analog where
  samples  : List Nat := []
  filtered : Option Nat := none
  health   : Option Health := none
  recovery : Option Nat := none
deriving DecidableEq, Repr

/-- The Input Scanner. Only assigned inputs have a record. `scanPending` is set while the first completed scan (R24) is
awaited. -/
structure Isc where
  field       : Table Discrete := []
  feedback    : Table Discrete := []
  analog      : Table Analog := []
  scanPending : Bool := false
deriving DecidableEq, Repr

/-! ### PMN -/

/-- A point's fault code, in the order of the table of R13. -/
inductive FaultCode
  | sensorConflict
  | travelTimeout
  | coilFault
  | channelFault
  | skew
  | overtravel
  | stall
  | inposFailed
deriving DecidableEq, Repr

/-- The confirmed state of a lock (R3). -/
inductive Confirmed
  | engaged
  | retracted
  | between
  | conflict
deriving DecidableEq, Repr

/-- The dynamic part of a LOCK record (R3). -/
structure LockDyn where
  confirmed : Confirmed := .between
  conflict  : Option Nat := none
  fault     : Option FaultCode := none
  reserved  : Option Nat := none
deriving DecidableEq, Repr

/-- The zone of an axis (R33). -/
inductive Zone
  | closedEnd
  | openEnd
  | mid
  | unknown
deriving DecidableEq, Repr

/-- The drive state of an axis (R8, R89). -/
inductive Drive
  | idle
  | driving
  | settling
  | float
  | halted
deriving DecidableEq, Repr

/-- The dynamic part of an AXIS record (R8). -/
structure AxisDyn where
  posA     : Option Nat := none
  posB     : Option Nat := none
  healthyA : Bool := false
  healthyB : Bool := false
  p        : Option Nat := none
  zone     : Zone := .unknown
  skew     : Option Int := none
  degraded : Bool := false
  tip      : Option Nat := none
  fault    : Option FaultCode := none
  drive    : Drive := .idle
  reserved : Option Nat := none
deriving DecidableEq, Repr

/-- The dynamic part of one present record of the Point Table (R1). -/
inductive PointDyn
  | lock (d : LockDyn)
  | axis (d : AxisDyn)
deriving DecidableEq, Repr

/-- The Point Monitor: the dynamic part of the Point Table. -/
structure Pmn where
  points : Table PointDyn := []
deriving DecidableEq, Repr

/-! ### CEV -/

/-- The freshness of the vessel data (R41). -/
inductive Freshness
  | none
  | fresh
  | stale
deriving DecidableEq, Repr

/-- Heel, pitch and wind as stored (R41, R42). -/
structure Vessel where
  heel  : Int
  pitch : Int
  wind  : Nat
deriving DecidableEq, Repr

/-- The closure state (R154). -/
structure Closure where
  visor   : Closed := .unknown
  inner   : Closed := .unknown
  overall : Closed := .unknown
deriving DecidableEq, Repr

/-- The Condition Evaluator. `conds` holds c0 to c31; `started` says that the conditions have been computed since the
reset (R53). -/
structure Cev where
  conds     : List Tri := List.replicate 32 .unknown
  vessel    : Option Vessel := none
  freshness : Freshness := .none
  staleness : Option Nat := none
  closure   : Closure := {}
  started   : Bool := false
deriving DecidableEq, Repr

/-! ### HPA -/

/-- A pump's state (R54). -/
inductive PumpState
  | stopped
  | starting
  | running
  | faulted
deriving DecidableEq, Repr

/-- A pump's fault cause (R54). -/
inductive PumpCause
  | noStart
  | tripped
  | contactorFault
deriving DecidableEq, Repr

/-- A present pump record: its static and dynamic fields (R54). -/
structure Pump where
  capacity  : Nat
  startTime : Nat
  state     : PumpState := .stopped
  cause     : Option PumpCause := none
  start     : Option Nat := none
  runDown   : Option Nat := none
  feedback  : Bool := false
deriving DecidableEq, Repr

/-- The class of a flow request (chapter 4). -/
inductive FlowClass
  | locking
  | travel
deriving DecidableEq, Repr

/-- An entry of the request list (R61). -/
structure Request where
  motion    : Nat
  cls       : FlowClass
  requested : Nat
  minimum   : Nat
  stamp     : Word32
  passed    : Nat := 0
  wait      : Nat
deriving DecidableEq, Repr

/-- A grant (R64); it keeps what a revocation re-enters (R68). -/
structure Grant where
  motion    : Nat
  cls       : FlowClass
  flow      : Nat
  requested : Nat
  minimum   : Nat
  stamp     : Word32
deriving DecidableEq, Repr

/-- The Hydraulic Power Arbiter. Both lists stand in stamp order. -/
structure Hpa where
  pumps    : Table Pump := []
  requests : List Request := []
  grants   : List Grant := []
  arrival  : Word32 := 0
  idle     : Option Nat := none
deriving DecidableEq, Repr

/-! ### LDU, ADU -/

/-- The state of a motion record (R72, R88). -/
inductive MotionState
  | waitingFlow
  | driving
  | settling
  | halted
  | done
  | failed
deriving DecidableEq, Repr

/-- Why a motion is HALTED (R84, R101). -/
inductive HaltCause
  | hold
  | noFlow
deriving DecidableEq, Repr

/-- Why a motion or a step failed (R72, R88, R120). -/
inductive FailCause
  | memberFaulted
  | axisFaulted
  | windowProtected
  | notLanded
  | noFlow
  | waitExpired
  | point (code : FaultCode)
deriving DecidableEq, Repr

/-- A step reference: (list id, index) (R110). -/
structure StepRef where
  list  : Nat
  index : Nat
deriving DecidableEq, Repr

/-- The state of a drive-set member (R72). -/
inductive MemberState
  | driving
  | backingOff
  | done
  | failed
deriving DecidableEq, Repr

/-- A drive-set member, with its travel time limit copied at issue (R72). -/
structure Member where
  point   : Nat
  limit   : Nat
  state   : MemberState := .driving
  travel  : Option Nat := none
  back    : Option Nat := none
  retries : Nat := 0
deriving DecidableEq, Repr

/-- A GROUP_DRIVE record (R72). `firstCause` is the cause of the first member to fail (R83). -/
structure GroupMotion where
  owner      : StepRef
  group      : Nat
  dir        : LockDir
  state      : MotionState := .waitingFlow
  halt       : Option HaltCause := none
  cause      : Option FailCause := none
  failed     : List Nat := []
  requested  : Nat
  granted    : Option Nat := none
  watched    : Option Subject := none
  policy     : Policy
  retryLimit : Nat
  backOff    : Nat
  members    : List Member
  firstCause : Option FailCause := none
deriving DecidableEq, Repr

/-- The stall window of a move: its timer and the position at its start (R88, R96). -/
structure Stall where
  left  : Nat
  start : Nat
deriving DecidableEq, Repr

/-- An AXIS_MOVE record (R88). `requested` and `minimum` are 0 in a move that failed before any request (assumption 38). -/
structure AxisMotion where
  owner     : StepRef
  axis      : Nat
  target    : Nat
  landing   : Bool
  dir       : AxisDir
  state     : MotionState := .waitingFlow
  halt      : Option HaltCause := none
  cause     : Option FailCause := none
  requested : Nat := 0
  minimum   : Nat := 0
  granted   : Option Nat := none
  watched   : Option Subject := none
  travel    : Option Nat := none
  stall     : Option Stall := none
  settle    : Option Nat := none
  redrives  : Nat := 0
  last      : Option (AxisDir × Nat) := none
deriving DecidableEq, Repr

/-- The float supervision of a floating axis (R106, R107). -/
structure FloatRec where
  limitRaised   : Bool := false
  liftTimer     : Option Nat := none
  liftRaised    : Bool := false
deriving DecidableEq, Repr

/-- The Lock Drive Unit: its motion records by motion id. -/
structure Ldu where
  motions : Table GroupMotion := []
deriving DecidableEq, Repr

/-- The Axis Drive Unit: its motion records by motion id, and the supervision of each floating axis by point index. -/
structure Adu where
  motions : Table AxisMotion := []
  floats  : Table FloatRec := []
deriving DecidableEq, Repr

/-! ### OSQ -/

/-- The state of the operation context (R111). -/
inductive OpState
  | running
  | holding
  | complete
  | aborted
deriving DecidableEq, Repr

/-- The hold cause kinds, in the order of the table of 8.1. -/
inductive CauseKind
  | stopRequest
  | permissive
  | stepFailed
  | authorityLost
  | runReleased
  | estop
  | pointFault
deriving DecidableEq, Repr

/-- The subject of a hold cause (8.1). -/
inductive CauseSubject
  | station (st : Station)
  | condition (c : Nat)
  | step (r : StepRef)
  | holder (h : Holder)
  | nothing
  | point (i : Nat)
deriving DecidableEq, Repr

/-- A hold cause with the subject first reported for its kind (R127). -/
structure HoldCause where
  kind    : CauseKind
  subject : CauseSubject
deriving DecidableEq, Repr

/-- The state of an in-flight entry (R111). -/
inductive EntryState
  | active
  | halted
  | failed
deriving DecidableEq, Repr

/-- An in-flight entry (R111). `step` is the step the reference names; `due` is the model's own mark of an entry that an
accepted RESUME has yet to take (R133). -/
structure Entry where
  ref       : StepRef
  step      : Step
  motion    : Option Nat := none
  state     : EntryState := .active
  remaining : Option Nat := none
  cause     : Option FailCause := none
  due       : Bool := false
deriving DecidableEq, Repr

/-- The operation context (R111). `name` keeps the operation's name tag, which READ_OPERATION reports (R125) and which a
STRUCTURE commit may remove from the layout while a terminal context stays readable (R126). -/
structure Context where
  op       : Nat
  name     : List Byte
  origin   : Station
  state    : OpState := .running
  reversed : Option Nat := none
  stack    : List StepRef := []
  pointer  : StepRef
  inFlight : List Entry := []
  causes   : List HoldCause := []
  start    : Word32
deriving DecidableEq, Repr

/-- The phase of the jog record (R138). -/
inductive JogPhase
  | waitingFlow
  | driving
  | ended
deriving DecidableEq, Repr

/-- The end cause of a jog (R138). -/
inductive JogEnd
  | completed
  | expired
  | stopped
  | runReleased
  | estop
  | authorityLost
  | noFlow
  | positionLost
  | overtravel
deriving DecidableEq, Repr

/-- The kind and direction of a jog (R138). -/
inductive JogDir
  | lock (d : LockDir)
  | axis (d : AxisDir)
deriving DecidableEq, Repr

/-- The jog record (R138). -/
structure Jog where
  point    : Nat
  dir      : JogDir
  station  : Station
  phase    : JogPhase := .waitingFlow
  duration : Nat
  timer    : Option Nat := none
  granted  : Option Nat := none
  cause    : Option JogEnd := none
deriving DecidableEq, Repr

/-- The Operation Sequencer. -/
structure Osq where
  context    : Option Context := none
  jog        : Option Jog := none
  nextMotion : Nat := 0
deriving DecidableEq, Repr

/-! ### OST -/

/-- The state of a coil output (R142). -/
inductive CoilState
  | off
  | on
  | faultOpen
  | faultShort
  | faultStuck
deriving DecidableEq, Repr

/-- A coil output (R142). -/
structure Coil where
  owner  : Option Nat := none
  demand : Bool := false
  state  : CoilState := .off
deriving DecidableEq, Repr

/-- The off-causes of a bank (R143). -/
structure Bank where
  startup : Bool := true
  estop   : Bool := false
  stuck   : Bool := false
deriving DecidableEq, Repr

/-- The state of a proportional output (R148). -/
inductive PropState
  | active
  | faultOpen
  | faultShort
deriving DecidableEq, Repr

/-- A proportional output (R148) and the axis whose static part names it. -/
structure PropOut where
  owner   : Option Nat := none
  command : Nat := 0
  state   : PropState := .active
deriving DecidableEq, Repr

/-- The emergency-stop state; undecided until the first report after a reset (R150, R153). -/
inductive Estop
  | undecided
  | clear
  | active
deriving DecidableEq, Repr

/-- The Output Stage. `openA` and `openB` say that a loop channel reads open. -/
structure Ost where
  coils       : List Coil := List.replicate 48 {}
  banks       : List Bank := List.replicate 6 {}
  props       : List PropOut := List.replicate 8 {}
  contactors  : List Bool := List.replicate 3 false
  general     : Bool := false
  sea         : Bool := false
  estop       : Estop := .undecided
  openA       : Bool := false
  openB       : Bool := false
  latch       : Bool := false
  discrepancy : Option Nat := none
deriving DecidableEq, Repr

/-! ### AEU -/

/-- The alarm kinds, in the order of the table of 11.1. -/
inductive AlarmKind
  | closureLost
  | lockMovedAtSea
  | pointFault
  | transducerLost
  | pumpFault
  | estopActive
  | estopDiscrepancy
  | coilBankOff
  | floatLimit
  | rampLiftoff
  | bridgeLinkLost
  | vesselDataLost
  | restart
deriving DecidableEq, Repr

/-- The state of an alarm entry (R164). -/
inductive AlarmState
  | unackActive
  | ackActive
  | unackCleared
deriving DecidableEq, Repr

/-- An alarm entry (R164). -/
structure Alarm where
  kind    : AlarmKind
  subject : Nat
  state   : AlarmState
  stamp   : Word32
deriving DecidableEq, Repr

/-- How a raise was taken (R164). -/
inductive RaiseDetail
  | entered
  | displaced
  | lost
  | reactivated
deriving DecidableEq, Repr

/-- Which reset (R171). -/
inductive ResetKind
  | por
  | xrst
deriving DecidableEq, Repr

/-- The detail of an ESTOP event (11.2). -/
inductive EstopDetail
  | active
  | discrepancy
  | clear
deriving DecidableEq, Repr

/-- The events, each with its subject and detail as the table of 11.2 gives them. -/
inductive Event
  | operationStarted (op : Nat) (origin : Station)
  | operationEnded (op : Nat) (complete : Bool)
  | hold (c : HoldCause)
  | resumed (op : Nat)
  | reversed (op : Nat) (old : Nat)
  | pointFault (point : Nat) (code : FaultCode)
  | faultCleared (point : Nat)
  | pumpState (pump : Nat) (state : PumpState) (cause : Option PumpCause)
  | modeChanged (new old : Mode)
  | authorityChanged (new old : Holder)
  | alarmRaised (kind : AlarmKind) (subject : Nat) (detail : RaiseDetail)
  | alarmAcked (what : Option (AlarmKind × Nat)) (st : Station)
  | layoutCommitted (region : Region) (tag : Word32)
  | estop (detail : EstopDetail)
  | powerUp (kind : ResetKind)
deriving DecidableEq, Repr

/-- A record of the event list (R168). -/
structure EventRec where
  serial : Word32
  stamp  : Word32
  event  : Event
deriving DecidableEq, Repr

/-- The Alarm and Event Unit. `events` is oldest first. `demanding` says that the first relay demands after the reset have been
made (R166); `general` and `sea` are the demands; `lostVisor` and `lostInner` are the closure-loss conditions of R160. -/
structure Aeu where
  alarms     : List Alarm := []
  overflow   : Bool := false
  events     : List EventRec := []
  nextSerial : Word32 := 0
  stamp      : Word32 := 0
  demanding  : Bool := false
  general    : Bool := false
  sea        : Bool := false
  lostVisor  : Bool := false
  lostInner  : Bool := false
deriving DecidableEq, Repr

/-! ### LST -/

/-- The part's phase (R181, R188). -/
inductive Phase
  | checking
  | unconfigured
  | configured
deriving DecidableEq, Repr

/-- The commit state (chapter 13). -/
inductive Commit
  | idle
  | writing
  | done
deriving DecidableEq, Repr

/-- The edit buffer (R184). -/
structure EditBuffer where
  region  : Region
  owner   : Station
  content : Layout
  cursor  : Option (Nat × Nat) := none
deriving DecidableEq, Repr

/-- The stored image in non-volatile memory: the valid marker, the image of both regions and the check word (R186). -/
structure Stored where
  marker : Bool := false
  image  : Layout := {}
  check  : Word32 := 0
deriving DecidableEq, Repr

/-- The Layout Store. `active` is absent while no valid layout exists; `pendingLayout` is the content being written. -/
structure Lst where
  phase         : Phase := .checking
  stored        : Stored := {}
  active        : Option Layout := none
  tag           : Word32 := 0
  buffer        : Option EditBuffer := none
  commit        : Commit := .idle
  pendingLayout : Option (Region × Layout) := none
deriving DecidableEq, Repr

/-! ### Reports between the blocks -/

/-- A report from one block to another that a step has yet to settle (the model's own; assumption 2). -/
inductive Task
  /-- HPA runs a grant pass and its start decision (R64, R66). -/
  | pass
  /-- ISC hands HPA a pump's running feedback (R18, R55). -/
  | feedback (pump : Nat) (on : Bool)
  /-- HPA hands a grant to the unit of a motion (R67). -/
  | granted (motion : Nat)
  /-- HPA has revoked a grant (R68). -/
  | revoked (motion : Nat)
  /-- HPA has reduced a grant (R68). -/
  | reduced (motion : Nat)
  /-- HPA tells a motion's unit that its flow is withdrawn (R69). -/
  | withdrawn (motion : Nat)
  /-- CEV hands on the changed conditions with their new values (R37). -/
  | changed (conds : List (Nat × Tri))
  /-- OSQ looks for an ACTIVE WAIT that the changed conditions complete (R120). -/
  | waits (conds : List (Nat × Tri))
  /-- PMN hands OSQ freed points (R12). -/
  | freed
  /-- OSQ offers a claim again to the in-flight entry at a place of the list (R133). -/
  | offer (slot : Nat)
  /-- OSQ makes an issue attempt, one step at a time (R115). -/
  | issue
  /-- OSQ takes the next entry an accepted RESUME has to re-issue (R133). -/
  | reissue
  /-- A unit reports the outcome of a motion to OSQ (R85, R103). -/
  | outcome (motion : Nat)
  /-- A block gives OSQ a hold cause (R127). -/
  | cause (c : HoldCause)
  /-- PMN hands a lock's changed confirmed state to the unit that reserves it (R25). -/
  | lockMoved (point : Nat)
  /-- PMN hands a fault report to the unit of the reserving motion; `fresh` when the code was newly recorded (R13). -/
  | faulted (point : Nat) (code : FaultCode) (fresh : Bool)
  /-- PMN hands ADU the record of a floating axis (R34, R106, R107). -/
  | floatRecord (point : Nat)
  /-- ADU runs a control interval of a move (R92, R99). -/
  | interval (motion : Nat)
  /-- ADU runs an axis jog's check (R140). -/
  | jogCheck
deriving DecidableEq, Repr

/-- The whole state: the twelve blocks, whether the external reset input holds the part in reset (R187), the reports yet to
settle and the free-value counter (the model's own), and the queue of waiting commands. -/
structure State where
  sli     : Sli
  amu     : Amu
  isc     : Isc := {}
  pmn     : Pmn := {}
  cev     : Cev := {}
  hpa     : Hpa := {}
  ldu     : Ldu := {}
  adu     : Adu := {}
  osq     : Osq := {}
  ost     : Ost := {}
  aeu     : Aeu := {}
  lst     : Lst := {}
  held    : Bool := false
  todo    : List Task := []
  free    : Nat := 0
  pending : List Instr := []
deriving DecidableEq, Repr

/-- The strap pins of State.reset. DESIGN CHOICE (assumption 4): the manual gives no strapping; address pins 0, 57 600 bit/s,
MULTI_DROP on both links. -/
def strapsReset : Straps :=
  { address := 0, bridgeRate := .r57600, standRate := .r57600, bridgeLine := .multiDrop, standLine := .multiDrop }

/-- The part right after power-on reset, with an erased layout store (assumption 4): phase CHECKING without a valid image, mode
MAINTENANCE (R156), and in the lists the POWER_UP record and the RESTART alarm of R171; every other field as the reset
rules give it (R17, R24, R53, R71, R87, R108, R126, R141, R153, R171, R182, R184, R188). -/
def State.reset : State :=
  { sli := { straps := strapsReset, bridge := {}, stand := {} }
    amu := { mode := .maintenance }
    aeu :=
      { alarms := [{ kind := .restart, subject := 0, state := .unackActive, stamp := 0 }]
        events :=
          [{ serial := 0, stamp := 0, event := .powerUp .por },
           { serial := 1, stamp := 0, event := .alarmRaised .restart 0 .entered }]
        nextSerial := 2 } }

end Sys2Proof.Machine
end

