-- ==== Sys2Proof/Machine/Ops.lean ====
section
/-! DEFINITION. Machine/Ops.lean: the named operations the blocks share: sparse tables and fixed lists, reports between blocks,
timers, the two CRCs, and the layout lookups every block makes (the static part of the Point Table comes from LST, R1). -/
namespace Sys2Proof
namespace Machine

/-! ### Sparse tables: an index that is not listed is absent -/

/-- The record at an index, or none where the index is absent. -/
def tget {α : Type} : Table α → Nat → Option α
  | [], _ => none
  | (k, a) :: r, i => if k = i then some a else tget r i

/-- Writes the record at an index, keeping the table in rising index order. -/
def tput {α : Type} : Table α → Nat → α → Table α
  | [], i, a => [(i, a)]
  | (k, b) :: r, i, a =>
    if i < k then (i, a) :: (k, b) :: r
    else if i = k then (i, a) :: r
    else (k, b) :: tput r i a

/-- Makes an index absent. -/
def tdel {α : Type} (t : Table α) (i : Nat) : Table α :=
  t.filter (fun e => e.1 != i)

/-- Applies a function to the record at an index, when it is present. -/
def tmod {α : Type} (t : Table α) (i : Nat) (f : α → α) : Table α :=
  match tget t i with
  | some a => tput t i (f a)
  | none => t

/-- Applies a function to every record. -/
def tmap {α β : Type} (f : Nat → α → β) (t : Table α) : Table β :=
  t.map (fun e => (e.1, f e.1 e.2))

/-- The indices in strictly rising order: the one form a table has. -/
def tsorted {α : Type} : Table α → Bool
  | [] => true
  | [_] => true
  | (a, _) :: (b, y) :: r => decide (a < b) && tsorted ((b, y) :: r)

/-- Writes (some) or removes (none) the record at an index. -/
def tset {α : Type} (t : Table α) (i : Nat) : Option α → Table α
  | some a => tput t i a
  | none => tdel t i

/-- Applies a function to one place of a fixed list; a place outside it changes nothing. -/
def lmod {α : Type} : List α → Nat → (α → α) → List α
  | [], _, _ => []
  | a :: r, 0, f => f a :: r
  | a :: r, i + 1, f => a :: lmod r i f

/-- No element stands twice. -/
def noRepeat {α : Type} [BEq α] : List α → Bool
  | [] => true
  | x :: xs => !xs.contains x && noRepeat xs

/-! ### Timers, in tenths of a second -/

/-- A tenth of a second passes for a running timer; a timer at 0 waits there for its expiry (assumption 1). -/
def tickTimer (t : Option Nat) : Option Nat := t.map (· - 1)

/-! ### Reports -/

/-- Reports something to another block; the reports of one step are settled in the order they were made (assumption 2). -/
def emit (t : Task) (s : State) : State := { s with todo := s.todo ++ [t] }

/-! ### CRC-16 and CRC-32 -/

/-- One bit of the CRC-16 of R173: polynomial 1021h, not reflected. -/
def crc16Bit (c : Word16) : Word16 :=
  if c.getLsbD 15 then (c <<< 1) ^^^ 0x1021#16 else c <<< 1

/-- One byte of the CRC-16, highest bit first. -/
def crc16Byte (c : Word16) (b : Byte) : Word16 :=
  (List.range 8).foldl (fun x _ => crc16Bit x) (c ^^^ ((b.zeroExtend 16) <<< 8))

/-- The CRC-16 of R173: initial value FFFFh, no final inversion. -/
def crc16 (bs : List Byte) : Word16 := bs.foldl crc16Byte 0xFFFF#16

/-- One bit of the CRC-32 of R186, in its reflected form (04C11DB7h reversed is EDB88320h). -/
def crc32Bit (c : Word32) : Word32 :=
  if c.getLsbD 0 then (c >>> 1) ^^^ 0xEDB88320#32 else c >>> 1

/-- One byte of the CRC-32, lowest bit first. -/
def crc32Byte (c : Word32) (b : Byte) : Word32 :=
  (List.range 8).foldl (fun x _ => crc32Bit x) (c ^^^ (b.zeroExtend 32))

/-- The CRC-32 of R186: initial value FFFFFFFFh, reflected input and output, final inversion. -/
def crc32 (bs : List Byte) : Word32 := ~~~ (bs.foldl crc32Byte 0xFFFFFFFF#32)

/-! ### Stations and links -/

/-- The link of a station (R172). -/
def State.link (s : State) : Station → Link
  | .bridge => s.sli.bridge
  | .stand => s.sli.stand

/-- Changes the link of a station. -/
def State.modLink (s : State) (st : Station) (f : Link → Link) : State :=
  match st with
  | .bridge => { s with sli := { s.sli with bridge := f s.sli.bridge } }
  | .stand => { s with sli := { s.sli with stand := f s.sli.stand } }

/-- A station as authority holder (R177). -/
def holderOf : Station → Holder
  | .bridge => .bridge
  | .stand => .stand

/-- The station that holds authority, if any. -/
def Holder.station? : Holder → Option Station
  | .none => Option.none
  | .bridge => Option.some .bridge
  | .stand => Option.some .stand

/-- The station holds control authority (R177). -/
def State.holds (s : State) (st : Station) : Bool := s.amu.holder == holderOf st

/-- Hold-to-run is asserted (R180). -/
def State.runAsserted (s : State) : Bool := s.amu.runTimer.isSome

/-! ### The active layout -/

/-- The tuning that holds while no layout is active; no rule reads it then, since nothing that it tunes is present. -/
def noTuning : Tuning :=
  { travelPromotion := 0, flowWait := 0, idleTime := 0, heelLimit := 0, pitchLimit := 0, attitudeHyst := 0
    windLimit := 0, windHyst := 0, debSensor := 0, debGeneral := 0, debFeedback := 0 }

/-- The active layout, or the empty one while none is active. -/
def State.layout (s : State) : Layout := s.lst.active.getD {}

end Machine

/-- The part-wide tuning of the active layout. -/
def Layout.tune (l : Layout) : Tuning := l.tuning.getD Machine.noTuning

namespace Machine

/-- The part-wide tuning of the active layout. -/
def State.tune (s : State) : Tuning := s.layout.tune

end Machine

/-- The static part of a LOCK point. -/
def Layout.lock? (l : Layout) (i : Nat) : Option LockDef :=
  match Machine.tget l.points i with
  | some (.lock d) => some d
  | _ => none

/-- The static part of an AXIS point. -/
def Layout.axis? (l : Layout) (i : Nat) : Option AxisDef :=
  match Machine.tget l.points i with
  | some (.axis d _) => some d
  | _ => none

/-- The travel windows of an AXIS point (R7). -/
def Layout.windows (l : Layout) (i : Nat) : List Window :=
  match Machine.tget l.points i with
  | some (.axis _ ws) => ws
  | _ => []

namespace Machine

/-- The dynamic part of a LOCK point. -/
def State.lock? (s : State) (i : Nat) : Option LockDyn :=
  match tget s.pmn.points i with
  | some (.lock d) => some d
  | _ => none

/-- The dynamic part of an AXIS point. -/
def State.axis? (s : State) (i : Nat) : Option AxisDyn :=
  match tget s.pmn.points i with
  | some (.axis d) => some d
  | _ => none

/-- Changes the dynamic part of a LOCK point. -/
def State.modLock (s : State) (i : Nat) (f : LockDyn → LockDyn) : State :=
  match s.lock? i with
  | some d => { s with pmn := { s.pmn with points := tput s.pmn.points i (.lock (f d)) } }
  | none => s

/-- Changes the dynamic part of an AXIS point. -/
def State.modAxis (s : State) (i : Nat) (f : AxisDyn → AxisDyn) : State :=
  match s.axis? i with
  | some d => { s with pmn := { s.pmn with points := tput s.pmn.points i (.axis (f d)) } }
  | none => s

/-- The reserving motion of a record (R3, R8). -/
def PointDyn.reserved : PointDyn → Option Nat
  | .lock d => d.reserved
  | .axis d => d.reserved

/-- The fault of a record (R3, R8). -/
def PointDyn.fault : PointDyn → Option FaultCode
  | .lock d => d.fault
  | .axis d => d.fault

/-- Writes the reserving motion of a record. -/
def PointDyn.setReserved (m : Option Nat) : PointDyn → PointDyn
  | .lock d => .lock { d with reserved := m }
  | .axis d => .axis { d with reserved := m }

/-- Writes the fault of a record. -/
def PointDyn.setFault (c : Option FaultCode) : PointDyn → PointDyn
  | .lock d => .lock { d with fault := c }
  | .axis d => .axis { d with fault := c }

/-- The reserving motion of a point, none for an absent one. -/
def State.reservedBy (s : State) (i : Nat) : Option Nat := (tget s.pmn.points i).bind PointDyn.reserved

/-- The fault of a point, none for an absent one. -/
def State.faultOf (s : State) (i : Nat) : Option FaultCode := (tget s.pmn.points i).bind PointDyn.fault

/-- The part is in commit WRITING or in phase CHECKING: a BUSY period (R175). -/
def State.busyPeriod (s : State) : Bool := s.lst.commit == .writing || s.lst.phase == .checking

/-- A context is RUNNING or HOLDING (R113, R157). -/
def State.contextLive (s : State) : Bool :=
  match s.osq.context with
  | some c => c.state == .running || c.state == .holding
  | none => false

/-- A jog is active (R138). -/
def State.jogActive (s : State) : Bool :=
  match s.osq.jog with
  | some j => j.phase != .ended
  | none => false

/-- The three-valued value of condition c<i>. -/
def State.cond (s : State) (i : Nat) : Tri := s.cev.conds.getD i .unknown

end Machine
end Sys2Proof
end

