-- ==== Sys2Proof/Machine/Flags.lean ====
section
/-! DEFINITION. Machine/Flags.lean: the truth values and flags the part computes: three-valued conjunction (R40), closure values
(R154), hysteresis (R44, R45), zones (R33), confirmed states (R3), bank switches and coil states (R142, R143). -/
namespace Sys2Proof
namespace Machine

/-- TRUE or FALSE from a level. -/
def Tri.ofBool (b : Bool) : Tri := if b then .yes else .no

/-- The value of a condition from the values of its terms (R40). -/
def Tri.all (ts : List Tri) : Tri :=
  if ts.any (· == .no) then .no
  else if ts.any (· == .unknown) then .unknown
  else .yes

/-- The element value that follows a condition (R154). -/
def Closed.ofTri : Tri → Closed
  | .yes => .secured
  | .no => .notSecured
  | .unknown => .unknown

/-- The overall closure value (R154). -/
def Closed.overall (v i : Closed) : Closed :=
  if v == .secured && i == .secured then .secured
  else if v == .notSecured || i == .notSecured then .notSecured
  else .unknown

/-- The closure state from the two designated conditions (R154). -/
def Closure.ofTri (v i : Tri) : Closure :=
  { visor := Closed.ofTri v, inner := Closed.ofTri i, overall := Closed.overall (Closed.ofTri v) (Closed.ofTri i) }

/-- A condition with hysteresis (R44, R45): over the limit, at or below the release level, or in the band, where TRUE is
kept and FALSE or UNKNOWN gives FALSE. -/
def hysteresis (beyond release : Bool) (before : Tri) : Tri :=
  if beyond then .no
  else if release then .yes
  else if before == .yes then .yes
  else .no

/-- ATTITUDE_OK from fresh vessel data (R44). -/
def attitudeOk (t : Tuning) (v : Vessel) (before : Tri) : Tri :=
  let a := v.heel.natAbs
  let p := v.pitch.natAbs
  hysteresis (decide (a > t.heelLimit) || decide (p > t.pitchLimit))
    (decide ((a : Int) ≤ (t.heelLimit : Int) - t.attitudeHyst) && decide ((p : Int) ≤ (t.pitchLimit : Int) - t.attitudeHyst))
    before

/-- WIND_OK from fresh vessel data (R45). -/
def windOk (t : Tuning) (v : Vessel) (before : Tri) : Tri :=
  hysteresis (decide (v.wind > t.windLimit)) (decide ((v.wind : Int) ≤ (t.windLimit : Int) - t.windHyst)) before

/-- The confirmed state from the engaged and the retracted sensor (R3). -/
def Confirmed.ofSensors (engaged retracted : Bool) : Confirmed :=
  match engaged, retracted with
  | true, false => .engaged
  | false, true => .retracted
  | false, false => .between
  | true, true => .conflict

/-- The zone of an axis from its position, end band and full travel (R33). -/
def Zone.ofPosition (endBand travel : Nat) : Option Nat → Zone
  | none => .unknown
  | some p => if p ≤ endBand then .closedEnd else if p + endBand ≥ travel then .openEnd else .mid

end Machine

/-- The target state of a lock drive (R72). -/
def LockDir.target : LockDir → Machine.Confirmed
  | .engage => .engaged
  | .retract => .retracted

/-- The opposite direction of a lock drive. -/
def LockDir.opposite : LockDir → LockDir
  | .engage => .retract
  | .retract => .engage

/-- The coil of a lock for a direction (R75). -/
def LockDef.coil (d : LockDef) : LockDir → Nat
  | .engage => d.engageCoil
  | .retract => d.retractCoil

/-- The direction output of an axis (R94). -/
def AxisDef.out (d : AxisDef) : AxisDir → Nat
  | .opening => d.openOut
  | .closing => d.closeOut

/-- The opposite direction of an axis. -/
def AxisDir.opposite : AxisDir → AxisDir
  | .opening => .closing
  | .closing => .opening

/-- The base speed of an axis in a direction (R5, R93). -/
def AxisDef.base (d : AxisDef) : AxisDir → Nat
  | .opening => d.vOpen
  | .closing => d.vClose

/-- The travel time limit of a direction (R97). -/
def AxisDef.limit (d : AxisDef) : AxisDir → Nat
  | .opening => d.limitOpen
  | .closing => d.limitClose

namespace Machine

/-- The bank's supply switch is ON: its set of off-causes is empty (R143). -/
def Bank.on (b : Bank) : Bool := !b.startup && !b.estop && !b.stuck

/-- The output is latched (R142). -/
def CoilState.latched : CoilState → Bool
  | .faultOpen => true
  | .faultShort => true
  | .faultStuck => true
  | .off => false
  | .on => false

/-- An unlatched output is ON while its demand and its bank's switch are on (R142). -/
def Coil.follow (bankOn : Bool) (c : Coil) : Coil :=
  if c.state.latched then c
  else { c with state := if c.demand && bankOn then .on else .off }

/-- The entry needs acknowledgement: UNACK_ACTIVE or UNACK_CLEARED (R166). -/
def AlarmState.unack : AlarmState → Bool
  | .unackActive => true
  | .unackCleared => true
  | .ackActive => false

/-- The channel is reported healthy (R22). -/
def Analog.ok (a : Analog) : Bool := a.health == some .healthy

/-- The motion moves or waits to move: it is watched by R51. -/
def MotionState.live : MotionState → Bool
  | .waitingFlow => true
  | .driving => true
  | .settling => true
  | .halted => false
  | .done => false
  | .failed => false

/-- The motion has ended. -/
def MotionState.ended : MotionState → Bool
  | .done => true
  | .failed => true
  | .waitingFlow => false
  | .driving => false
  | .settling => false
  | .halted => false

end Machine
end Sys2Proof
end

