-- ==== Sys2Proof/Machine/Aeu.lean ====
section
/-! DEFINITION. Machine/Aeu.lean: the Alarm and Event Unit: the event list (R168), the alarm list (R164, R165), the relay
demands (R163, R166), sea supervision of the closure (R160) and the event cursors (R169, R170). -/
namespace Sys2Proof.Machine

/-! ### Events -/

/-- Records one event (R168): the next serial, the present stamp, the oldest of 128 records lost. -/
def Aeu.record (e : Event) (a : Aeu) : Aeu :=
  { a with
    events := a.events.drop (a.events.length + 1 - Config.eventMax) ++
      [{ serial := a.nextSerial, stamp := a.stamp, event := e }]
    nextSerial := a.nextSerial + 1 }

/-! ### The alarm list -/

/-- The entry of a (kind, subject) pair. -/
def Alarm.is (k : AlarmKind) (subj : Nat) (e : Alarm) : Bool := e.kind == k && e.subject == subj

/-- OVERFLOW after a removal (R164). -/
def Aeu.afterRemoval (a : Aeu) : Aeu :=
  { a with overflow := a.overflow && decide (a.alarms.length > Config.overflowRelease) }

/-- A block raises an alarm (R164). -/
def Aeu.raise (k : AlarmKind) (subj : Nat) (a : Aeu) : Aeu :=
  let new : Alarm := { kind := k, subject := subj, state := .unackActive, stamp := a.stamp }
  match a.alarms.find? (Alarm.is k subj) with
  | some e =>
    if e.state == .unackCleared then
      Aeu.record (.alarmRaised k subj .reactivated)
        { a with alarms := a.alarms.map (fun x => if Alarm.is k subj x then new else x) }
    else a
  | none =>
    if a.alarms.length < Config.alarmMax then
      Aeu.record (.alarmRaised k subj .entered) { a with alarms := a.alarms ++ [new] }
    else if a.alarms.any (fun x => x.state != .unackActive) then
      Aeu.record (.alarmRaised k subj .displaced)
        { a with alarms := a.alarms.eraseP (fun x => x.state != .unackActive) ++ [new] }
    else
      Aeu.record (.alarmRaised k subj .lost) { a with overflow := true }

/-- A block reports that an alarm's condition has cleared (R165). -/
def Aeu.clear (k : AlarmKind) (subj : Nat) (a : Aeu) : Aeu :=
  match a.alarms.find? (Alarm.is k subj) with
  | some e =>
    match e.state with
    | .unackActive =>
      { a with alarms := a.alarms.map (fun x => if Alarm.is k subj x then { x with state := .unackCleared } else x) }
    | .ackActive => Aeu.afterRemoval { a with alarms := a.alarms.eraseP (Alarm.is k subj) }
    | .unackCleared => a
  | none => a

/-- The acknowledgement of one entry (R165): none where it removes the entry. -/
def Alarm.acked (e : Alarm) : Option Alarm :=
  match e.state with
  | .unackActive => some { e with state := .ackActive }
  | .unackCleared => none
  | .ackActive => some e

/-- Acknowledges the entries a test names, in list order, and records one event when at least one changed (R165). -/
def Aeu.ack (sel : Alarm → Bool) (what : Option (AlarmKind × Nat)) (st : Station) (a : Aeu) : Aeu :=
  let alarms := a.alarms.filterMap (fun e => if sel e then e.acked else some e)
  if a.alarms.any (fun e => sel e && e.state.unack) then
    let b := { a with alarms := alarms }
    Aeu.record (.alarmAcked what st) (if alarms.length < a.alarms.length then b.afterRemoval else b)
  else a

/-! ### Relay demands -/

/-- The GENERAL relay is demanded on while an entry is unacknowledged or OVERFLOW is set (R166). -/
def Aeu.wantsGeneral (a : Aeu) : Bool := a.alarms.any (fun e => e.state.unack) || a.overflow

/-- Re-makes the GENERAL demand, once the first demands have been made (R166). -/
def Aeu.remake (a : Aeu) : Aeu := { a with general := a.demanding && a.wantsGeneral }

/-- AEU acts: its demands are made again and OST switches the relays as demanded (R149, R163, R166). -/
def State.withAeu (f : Aeu → Aeu) (s : State) : State :=
  let a := (f s.aeu).remake
  { s with aeu := a, ost := { s.ost with general := a.general, sea := a.sea } }

/-- Records an event with AEU. -/
def State.event (e : Event) (s : State) : State := s.withAeu (Aeu.record e)

/-- Raises an alarm with AEU. -/
def State.raise (k : AlarmKind) (subj : Nat) (s : State) : State := s.withAeu (Aeu.raise k subj)

/-- Tells AEU that an alarm's condition has cleared. -/
def State.clearAlarm (k : AlarmKind) (subj : Nat) (s : State) : State := s.withAeu (Aeu.clear k subj)

/-! ### Sea supervision of the closure -/

/-- One closure-loss condition (R160): raised when it becomes present, cleared when it ceases. -/
def Aeu.element (was now : Bool) (subj : Nat) (a : Aeu) : Aeu :=
  if now && !was then a.raise .closureLost subj
  else if was && !now then a.clear .closureLost subj
  else a

/-- The SEA relay is demanded on while the mode is SEA and the overall closure is not SECURED (R163). -/
def wantsSea (m : Mode) (c : Closure) : Bool := m == .sea && c.overall != .secured

/-- AEU follows a closure state handover or a mode change (R160, R163). DESIGN CHOICE (assumption 17): of two losses at one handover, VISOR is taken
before INNER. -/
def Aeu.supervise (m : Mode) (c : Closure) (a : Aeu) : Aeu :=
  let v := m == .sea && c.visor != .secured
  let i := m == .sea && c.inner != .secured
  let b := (a.element a.lostVisor v 0).element a.lostInner i 1
  { b with lostVisor := v, lostInner := i, sea := a.demanding && wantsSea m c }

/-- AEU follows the closure state and the mode as they stand. -/
def State.supervise (s : State) : State := s.withAeu (Aeu.supervise s.amu.mode s.cev.closure)

/-- The condition of every entry of a kind has cleared (R158). -/
def Aeu.clearKind (k : AlarmKind) (a : Aeu) : Aeu :=
  ((a.alarms.filter (fun e => e.kind == k)).map (fun e => e.subject)).foldl (fun b subj => b.clear k subj) a

/-! ### Cursors -/

/-- The distance of a cursor from the next serial (R169). -/
def Aeu.distance (a : Aeu) (cursor : Word32) : Nat := (a.nextSerial - cursor).toNat

/-- The serial of the oldest retained record, or the next serial while the list is empty (R169). -/
def Aeu.oldest (a : Aeu) : Word32 :=
  match a.events with
  | r :: _ => r.serial
  | [] => a.nextSerial

/-- The cursor stands behind the oldest retained record (R169). -/
def Aeu.behind (a : Aeu) (cursor : Word32) : Bool := decide (a.distance cursor > a.events.length)

/-- The records a read returns from a cursor that is not behind (R170): up to eight, in serial order. -/
def Aeu.readFrom (a : Aeu) (cursor : Word32) : List EventRec :=
  (a.events.drop (a.events.length - a.distance cursor)).take Config.readMax

end Sys2Proof.Machine
end

