-- ==== Sys2Proof/Machine/Position.lean ====
section
/-! DEFINITION. Machine/Position.lean: the position arithmetic of chapter 2 (R27, R28, R29, R35) and what PMN reads of a channel. -/
namespace Sys2Proof.Machine

/-- The unclamped position of a transducer from a filtered count (R27); F is the full travel. -/
def unclampedPosition (t : Transducer) (F r : Nat) : Int :=
  let D : Nat := if t.openCount ≥ t.closedCount then t.openCount - t.closedCount else t.closedCount - t.openCount
  let u : Int := if t.openCount > t.closedCount then (r : Int) - t.closedCount else (t.closedCount : Int) - r
  divDown (u * F + (D / 2 : Nat)) D

/-- The unclamped position lies in the overtravel band [-50, F + 50] (R28). -/
def inOvertravelBand (F : Nat) (u : Int) : Bool :=
  decide (-Config.overtravel ≤ u) && decide (u ≤ (F : Int) + Config.overtravel)

/-- The reported position: the unclamped one clamped to [0, F] (R28). -/
def reportedPosition (F : Nat) (u : Int) : Nat := min u.toNat F

/-- The axis position from the reported positions of the healthy transducers (R29). -/
def axisPosition : Option Nat → Option Nat → Option Nat
  | some a, some b => some ((a + b + 1) / 2)
  | some a, none => some a
  | none, some b => some b
  | none, none => none

/-- The skew from the unclamped positions of the healthy transducers (R29). -/
def axisSkew : Option Int → Option Int → Option Int
  | some a, some b => some (a - b)
  | _, _ => none

/-- The tip load from a filtered count (R35); S is the full-scale value. -/
def tipLoad (S r : Nat) : Nat :=
  let x := divDown (((r : Int) - Config.channelLow) * S) 3350
  min x.toNat S

/-- The channel of an analog input, as ISC last handed it over. -/
def State.channel (s : State) (input : Nat) : Option Analog := tget s.isc.analog input

/-- The channel has been reported and is unhealthy (R22, R31; assumption 8). -/
def State.channelLost (s : State) (input : Nat) : Bool :=
  match s.channel input with
  | some a => a.health.isSome && !a.ok
  | none => false

/-- The channel is reported healthy. -/
def State.channelOk (s : State) (input : Nat) : Bool :=
  match s.channel input with
  | some a => a.ok
  | none => false

/-- The filtered value of a healthy channel. -/
def State.healthyValue (s : State) (input : Nat) : Option Nat :=
  match s.channel input with
  | some a => if a.ok then a.filtered else none
  | none => none

/-- The unclamped position of a transducer of an axis of full travel F; absent while its channel is unhealthy (R27). -/
def State.unclamped (s : State) (F : Nat) (t : Transducer) : Option Int :=
  (s.healthyValue t.input).map (unclampedPosition t F)

/-- The unclamped positions of an axis's healthy transducers. -/
def State.unclampedAll (s : State) (d : AxisDef) : List Int :=
  (s.unclamped d.travel d.transA).toList ++ (d.transB.bind (s.unclamped d.travel)).toList

/-- Every configured transducer channel of the axis is healthy (R14, R15). -/
def State.allChannelsOk (s : State) (d : AxisDef) : Bool :=
  s.channelOk d.transA.input &&
    match d.transB with
    | some t => s.channelOk t.input
    | none => true

/-- The enabled window contains the position (R7). -/
def windowContains (F p : Nat) (w : Window) : Bool :=
  w.enabled && decide (w.start ≤ p) && decide (p ≤ min (w.start + w.range) F)

/-- The highest derating level at a position, 0 outside every enabled window (R7, R93). -/
def deratingAt (F : Nat) (ws : List Window) (p : Nat) : Nat :=
  ((ws.filter (windowContains F p)).map (fun w => w.level)).foldl max 0

/-- The position lies in an enabled window whose protect flag is set (R7, R95). -/
def protectedAt (F : Nat) (ws : List Window) (p : Nat) : Bool :=
  ws.any (fun w => w.protect && windowContains F p w)

/-- The distance |a - b| of two positions. -/
def distanceOf (a b : Nat) : Nat := if a ≥ b then a - b else b - a

/-- The target T of a move (R88). -/
def resolveTarget (F : Nat) : Target → Nat
  | .closedEnd => 0
  | .openEnd => F
  | .position x => x

/-- The direction toward T from p: OPEN when T exceeds p, CLOSE otherwise (R50, R93). -/
def directionTo (T p : Nat) : AxisDir := if T > p then .opening else .closing

/-- The valve command of a control interval (R93, command steps 1 to 7): direction and per mille. -/
def valveCommand (d : AxisDef) (ws : List Window) (degraded : Bool) (T p grant : Nat) : AxisDir × Nat :=
  let dir := directionTo T p
  let e := distanceOf T p
  let v1 := d.base dir * (4 - deratingAt d.travel ws p) / 4
  let v1' := if degraded then v1 / 2 else v1
  let v2 := if e < d.approach then v1' * e / d.approach else v1'
  let v3 := max v2 d.vMin
  (dir, min (min v3 (grant * 1000 / d.qFull)) 1000)

/-- The flow that a valve command needs: ceiling(v × Q_full / 1000) (R61). -/
def commandFlow (v qFull : Nat) : Nat := divUp (v * qFull) 1000

end Sys2Proof.Machine
end

