-- ==== Sys2Proof/Machine/Cev.lean ====
section
/-! DEFINITION. Machine/Cev.lean: the Condition Evaluator: condition values (R36 to R40, R44, R45), their recompute and handing on
(R37), the closure state (R154, R155) and the permissive table (R48, R49). -/
namespace Sys2Proof.Machine

/-- The value of one term from the point's dynamic fields (R39). -/
def State.termValue (s : State) (t : Term) : Tri :=
  match t.req, tget s.pmn.points t.point with
  | .engaged, some (.lock d) =>
    if d.fault == some .sensorConflict || d.confirmed == .conflict then .unknown
    else Tri.ofBool (d.confirmed == .engaged)
  | .retracted, some (.lock d) =>
    if d.fault == some .sensorConflict || d.confirmed == .conflict then .unknown
    else Tri.ofBool (d.confirmed == .retracted)
  | req, some (.axis d) =>
    if d.fault == some .channelFault || d.fault == some .skew then .unknown
    else
      match d.p with
      | none => .unknown
      | some p =>
        match req with
        | .atClosed => Tri.ofBool (d.zone == .closedEnd)
        | .atOpen => Tri.ofBool (d.zone == .openEnd)
        | .atLeast x => Tri.ofBool (decide (p ≥ x))
        | .atMost x => Tri.ofBool (decide (p ≤ x))
        | .engaged => .unknown
        | .retracted => .unknown
  | _, _ => .unknown

/-- The value of an input condition (R38): UNKNOWN while no input is assigned. -/
def State.inputCondition (s : State) (input : Option Nat) : Tri :=
  match input.bind (tget s.isc.field) with
  | some d => Tri.ofBool d.debounced
  | none => .unknown

/-- The value of condition c<i> from the state as it stands, with the value before for c1 and c2 (R36 to R40, R44, R45). -/
def State.evalCond (s : State) (i : Nat) : Tri :=
  match i with
  | 0 =>
    match s.ost.estop with
    | .clear => .yes
    | .active => .no
    | .undecided => .unknown
  | 1 =>
    match s.cev.freshness, s.cev.vessel with
    | .fresh, some v => attitudeOk s.tune v (s.cond 1)
    | _, _ => .unknown
  | 2 =>
    match s.cev.freshness, s.cev.vessel with
    | .fresh, some v => windOk s.tune v (s.cond 2)
    | _, _ => .unknown
  | 3 => Tri.ofBool s.amu.consent
  | 4 => s.inputCondition (s.layout.header.bind (fun h => h.deckClear))
  | 5 => s.inputCondition (s.layout.header.bind (fun h => h.linkspan))
  | 6 => Tri.ofBool (s.hpa.pumps.any (fun e => e.2.state != .faulted))
  | 7 => Tri.ofBool (s.amu.mode == .harbour)
  | i =>
    match tget s.layout.conditions i with
    | some ts => Tri.all (ts.map s.termValue)
    | none => .unknown

/-- The closure state from the designated conditions; all UNKNOWN without a layout (R154). -/
def State.closureNow (s : State) : Closure :=
  match s.layout.header with
  | some h => Closure.ofTri (s.cond h.visorCond) (s.cond h.innerCond)
  | none => {}

/-- CEV recomputes the conditions a cause touches, then the closure state, and hands on what changed (R37, R155). Before
the first completed scan nothing is computed (R53). AEU follows the closure (R160, R163). DESIGN CHOICE (assumption 39): R37 and R155 name no order among
the blocks of a handover; AEU takes it in this same act, before LDU, ADU and OSQ take the changed conditions, so CLOSURE_LOST is raised before a HOLD with
PERMISSIVE. -/
def State.recompute (ids : List Nat) (s : State) : State :=
  if s.cev.started then
    let changed := (ids.map (fun i => (i, s.evalCond i))).filter (fun e => e.2 != s.cond e.1)
    let conds := changed.foldl (fun cs e => lmod cs e.1 (fun _ => e.2)) s.cev.conds
    let s1 := { s with cev := { s.cev with conds := conds } }
    let closure := s1.closureNow
    if changed.isEmpty && closure == s.cev.closure then s
    else emit (.changed changed) ({ s1 with cev := { s1.cev with closure := closure } }).supervise
  else s

/-- CEV computes every condition for the first time (R53). -/
def State.firstCompute (s : State) : State :=
  ({ s with cev := { s.cev with started := true } }).recompute (List.range 32)

/-- The layout conditions with a term that names a point (R37). -/
def Layout.condsNaming (l : Layout) (i : Nat) : List Nat :=
  (l.conditions.filter (fun e => e.2.any (fun t => t.point == i))).map (fun e => e.1)

/-- PMN hands CEV a point record (R37). -/
def State.pointToCev (i : Nat) (s : State) : State := s.recompute (Layout.condsNaming s.layout i)

/-! ### The permissive table -/

/-- The entry of a subject and direction (R48). -/
def State.permEntry (s : State) (subj : Subject) : Option PermEntry :=
  (s.layout.permissives.find? (fun e => e.2.subject == subj)).map (fun e => e.2)

/-- The first unsatisfied condition of an entry (R49); none when the entry is satisfied. -/
def State.firstUnsatisfied (s : State) (e : PermEntry) : Option Nat :=
  if s.cond 0 != .yes then some 0
  else
    match (List.range 32).find? (fun i => e.require.contains i && s.cond i != .yes) with
    | some i => some i
    | none => (List.range 32).find? (fun i => e.forbid.contains i && s.cond i != .no)

/-- The permissive of a subject and direction (R48, R49): none when it is satisfied or has no entry. -/
def State.permissive (s : State) (subj : Subject) : Option Nat := (s.permEntry subj).bind s.firstUnsatisfied

/-- The watched entry a motion records: the subject and direction when the table has an entry for them (R50, R72, R88). -/
def State.watchFor (s : State) (subj : Subject) : Option Subject := (s.permEntry subj).map (fun e => e.subject)

/-- The watched entry names one of the changed conditions, c0 included (R51). -/
def State.watchTouched (s : State) (changed : List (Nat × Tri)) (subj : Subject) : Bool :=
  match s.permEntry subj with
  | some e => changed.any (fun c => c.1 == 0 || e.require.contains c.1 || e.forbid.contains c.1)
  | none => false

end Sys2Proof.Machine
end

