-- ==== Sys2Proof/Machine/Pmn.lean ====
section
/-! DEFINITION. Machine/Pmn.lean: the Point Monitor: reservations (R11, R12), point faults (R13, R15), lock states (R25, R26,
R161) and the recompute of an axis (R27 to R35). -/
namespace Sys2Proof.Machine

/-! ### Reservations -/

/-- A claim names a motion id and a set of points; it is taken whole or not at all (R11). -/
def State.claim (motion : Nat) (pts : List Nat) (s : State) : Option State :=
  if pts.all (fun i => (tget s.pmn.points i).isSome && (s.reservedBy i).isNone) then
    some { s with pmn := { s.pmn with
      points := pts.foldl (fun t i => tmod t i (PointDyn.setReserved (some motion))) s.pmn.points } }
  else none

/-- PMN clears the reserving-motion field of every point the motion claimed and hands the freed points to OSQ (R12). -/
def State.release (motion : Nat) (s : State) : State :=
  if s.pmn.points.any (fun e => e.2.reserved == some motion) then
    emit .freed { s with pmn := { s.pmn with
      points := tmap (fun _ d => if d.reserved == some motion then d.setReserved none else d) s.pmn.points } }
  else s

/-! ### Point faults -/

/-- PMN hands ADU the changed record of an axis in FLOAT (R8, R34). -/
def State.handFloat (i : Nat) (s : State) : State := if (tget s.adu.floats i).isSome then emit (.floatRecord i) s else s

/-- A fault report reaches a point's record (R13): the first code is kept; CEV, AEU and the unit of the reserving motion are told.
At sea a newly recorded fault raises the POINT_FAULT alarm (R162). -/
def State.takeFault (i : Nat) (code : FaultCode) (s : State) : State :=
  match tget s.pmn.points i with
  | none => s
  | some d =>
    let fresh := d.fault.isNone
    let s1 :=
      if fresh then
        let s2 := State.pointToCev i { s with pmn := { s.pmn with points := tput s.pmn.points i (d.setFault (some code)) } }
        let s3 := s2.event (.pointFault i code)
        if s3.amu.mode == .sea then s3.raise .pointFault i else s3
      else s
    if d.reserved.isSome then emit (.faulted i code fresh) s1 else s1

/-- A fault is reported for a point outside a recompute: where it is newly recorded, the changed record of a floating axis goes to ADU (R8, R13). -/
def State.recordFault (i : Nat) (code : FaultCode) (s : State) : State :=
  let s1 := s.takeFault i code
  if s1.faultOf i == s.faultOf i then s1 else s1.handFloat i

/-! ### Locks -/

/-- The debounced value of a field input; off while it is not assigned (R18). -/
def State.debounced (s : State) (input : Nat) : Bool :=
  match tget s.isc.field input with
  | some d => d.debounced
  | none => false

/-- AEU's supervision of a lock's change of confirmed state at sea (R161). -/
def State.superviseLock (i : Nat) (role : Role) (old new : Confirmed) (s : State) : State :=
  if s.amu.mode == .sea && (role == .visorLock || role == .cleat) then
    if new == .engaged then s.clearAlarm .lockMovedAtSea i
    else if old == .engaged then s.raise .lockMovedAtSea i
    else s
  else s

/-- PMN derives a lock's confirmed state from its sensors (R25): the conflict timer (R26), then CEV and AEU, then the unit
of the reserving motion. -/
def State.lockSensors (i : Nat) (s : State) : State :=
  match s.layout.lock? i, s.lock? i with
  | some d, some y =>
    let new := Confirmed.ofSensors (s.debounced d.engagedIn) (s.debounced d.retractedIn)
    if new == y.confirmed then s
    else
      let timer := if new == .conflict then some Config.conflictTime else none
      let s1 := s.modLock i (fun x => { x with confirmed := new, conflict := timer })
      let s2 := State.superviseLock i d.role y.confirmed new (s1.pointToCev i)
      if y.reserved.isSome then emit (.lockMoved i) s2 else s2
  | _, _ => s

/-! ### Axes -/

/-- The fields of an axis record after a recompute (R34): health, positions, p, skew, zone, tip load, DEGRADED. -/
def State.axisFields (s : State) (d : AxisDef) (y : AxisDyn) : AxisDyn :=
  let uA := s.unclamped d.travel d.transA
  let uB := d.transB.bind (s.unclamped d.travel)
  let posA := uA.map (reportedPosition d.travel)
  let posB := uB.map (reportedPosition d.travel)
  let p := axisPosition posA posB
  { y with
    posA := posA
    posB := posB
    healthyA := s.channelOk d.transA.input
    healthyB := match d.transB with
      | some t => s.channelOk t.input
      | none => false
    p := p
    zone := Zone.ofPosition d.endBand d.travel p
    skew := axisSkew uA uB
    degraded := y.degraded ||
      (match d.transB with
        | some t => s.channelLost d.transA.input || s.channelLost t.input
        | none => false)
    tip := match d.tip with
      | some t => (s.healthyValue t.input).map (tipLoad t.fullScale)
      | none => none }

/-- Every configured transducer of the axis has been lost (R32). -/
def State.allChannelsLost (s : State) (d : AxisDef) : Bool :=
  s.channelLost d.transA.input &&
    match d.transB with
    | some t => s.channelLost t.input
    | none => true

/-- The magnitude of the skew exceeds the skew limit (R30). -/
def skewExceeds (limit : Nat) : Option Int → Bool
  | some k => decide (k.natAbs > limit)
  | none => false

/-- PMN recomputes an axis (R34): the record takes all its new fields, DEGRADED is reported (R31), the faults found are
recorded in the order CHANNEL_FAULT, OVERTRAVEL, SKEW, and a changed record is handed to CEV and to ADU. -/
def State.axisRecompute (i : Nat) (s : State) : State :=
  match s.layout.axis? i, s.axis? i with
  | some d, some y =>
    let z := s.axisFields d y
    let s1 := s.modAxis i (fun _ => z)
    let s2 := if z.degraded && !y.degraded then s1.raise .transducerLost i else s1
    let s3 := if s.allChannelsLost d then s2.takeFault i .channelFault else s2
    let s4 := if (s.unclampedAll d).any (fun u => !inOvertravelBand d.travel u) then s3.takeFault i .overtravel else s3
    let s5 := if skewExceeds d.skewLimit z.skew then s4.takeFault i .skew else s4
    let s6 := s5.pointToCev i
    if s5.axis? i == some y then s6 else s6.handFloat i
  | _, _ => s

/-- The axes on which an analog input is a transducer or the tip-load input (R23). -/
def axesOf (l : Layout) (input : Nat) : List Nat :=
  (l.points.filter (fun e =>
    match e.2 with
    | .axis d _ =>
      d.transA.input == input || d.transB.any (fun t => t.input == input) || d.tip.any (fun t => t.input == input)
    | .lock _ => false)).map (fun e => e.1)

/-! ### The underlying condition of a fault -/

/-- The outputs a point owns: a lock's two coils, or an axis's float coil (R15); its proportional outputs are `propsOf`. -/
def coilsOf : PointDef → List Nat
  | .lock d => [d.engageCoil, d.retractCoil]
  | .axis d _ => d.float.toList.map (fun f => f.coil)

/-- The proportional outputs a point owns (R15). -/
def propsOf : PointDef → List Nat
  | .lock _ => []
  | .axis d _ => [d.openOut, d.closeOut]

/-- The bank of a coil output (00_scope.md 6.3). -/
def bankOf (out : Nat) : Nat := out / 8

/-- The bank's supply switch is ON. -/
def State.bankOn (s : State) (b : Nat) : Bool :=
  match s.ost.banks[b]? with
  | some k => k.on
  | none => false

/-- An output shows current while switched off: it is FAULT_STUCK and its bank has supply (R15, R147). -/
def State.showsCurrent (s : State) (out : Nat) : Bool :=
  match s.ost.coils[out]? with
  | some c => c.state == .faultStuck && s.bankOn (bankOf out)
  | none => false

/-- The underlying condition of a fault code is still present (R15). -/
def State.underlying (s : State) (i : Nat) (code : FaultCode) : Bool :=
  match tget s.layout.points i with
  | none => false
  | some def_ =>
    match code with
    | .sensorConflict => (s.lock? i).any (fun y => y.confirmed == .conflict)
    | .travelTimeout => false
    | .coilFault => (coilsOf def_).any s.showsCurrent
    | .channelFault => (s.layout.axis? i).any (fun d => !s.allChannelsOk d)
    | .skew =>
      match s.layout.axis? i, s.axis? i with
      | some d, some y => y.skew.isNone || skewExceeds d.skewLimit y.skew
      | _, _ => false
    | .overtravel => (s.layout.axis? i).any (fun d => (s.unclampedAll d).any (fun u => !inOvertravelBand d.travel u))
    | .stall => false
    | .inposFailed => false

end Sys2Proof.Machine
end

