-- ==== Sys2Proof/Machine/Ost.lean ====
section
/-! DEFINITION. Machine/Ost.lean: the Output Stage: coil demands, banks and latches (R142, R143, R146, R147), proportional outputs
(R148), contactors (R149) and the emergency stop's own action on the outputs (R150). -/
namespace Sys2Proof.Machine

/-- Changes OST. -/
def State.modOst (f : Ost → Ost) (s : State) : State := { s with ost := f s.ost }

/-! ### Banks -/

/-- Every coil of a bank follows the bank's switch (R142, R143). -/
def Ost.followBank (b : Nat) (o : Ost) : Ost :=
  let on := match o.banks[b]? with
    | some k => k.on
    | none => false
  { o with coils := o.coils.mapIdx (fun i c => if bankOf i = b then c.follow on else c) }

/-- Changes the off-causes of a bank; its switch and its coils follow (R143). -/
def Ost.modBank (b : Nat) (f : Bank → Bank) (o : Ost) : Ost :=
  Ost.followBank b { o with banks := lmod o.banks b f }

/-- Changes the off-causes of several banks. -/
def Ost.modBanks (bs : List Nat) (f : Bank → Bank) (o : Ost) : Ost := bs.foldl (fun x b => x.modBank b f) o

/-- An output of the bank is FAULT_STUCK (R143). -/
def Ost.bankStuck (o : Ost) (b : Nat) : Bool :=
  (List.range 48).any (fun i => bankOf i == b && o.coils[i]?.any (fun c => c.state == .faultStuck))

/-- The points that own an output of a bank, in ascending index (R143). -/
def Ost.bankOwners (o : Ost) (b : Nat) : List Nat :=
  (List.range 48).filter (fun p =>
    (List.range 48).any (fun i => bankOf i == b && o.coils[i]?.any (fun c => c.owner == some p)))

/-! ### Coil demands -/

/-- Sets the demand of an output that has an owner; the output follows. A demand set on in a bank that is OFF for STUCK
reports COIL_FAULT for the owner (R142), also for an output that is itself latched, DESIGN CHOICE (assumption 34). -/
def State.putDemand (out : Nat) (owner : Nat) (on : Bool) (s : State) : State :=
  let s1 := s.modOst (fun o =>
    { o with coils := lmod o.coils out (fun c => ({ c with demand := on }).follow (s.bankOn (bankOf out))) })
  if on && s.ost.banks[bankOf out]?.any (fun k => k.stuck) then s1.recordFault owner .coilFault else s1

/-- A coil demand from a motion: accepted when the motion reserves the owning point (R11, R142). -/
def State.demandCoil (motion out : Nat) (on : Bool) (s : State) : State :=
  match s.ost.coils[out]?.bind (fun c => c.owner) with
  | some p => if s.reservedBy p == some motion then s.putDemand out p on else s
  | none => s

/-- A float coil demand from ADU's float handling for the axis that owns the coil (R142). -/
def State.demandFloat (axis out : Nat) (on : Bool) (s : State) : State :=
  if s.ost.coils[out]?.any (fun c => c.owner == some axis) then s.putDemand out axis on else s

/-! ### Coil faults -/

/-- The owner of a supervised output whose present state is the one given and whose bank is ON (R144). -/
def State.supervised (s : State) (out : Nat) (st : CoilState) : Option Nat :=
  match s.ost.coils[out]? with
  | some c => if c.state == st && s.bankOn (bankOf out) then c.owner else none
  | none => none

/-- An ON output latches FAULT_OPEN or FAULT_SHORT and its owner is reported (R144). -/
def State.coilLatch (out : Nat) (st : CoilState) (s : State) : State :=
  match s.supervised out .on with
  | some p =>
    (s.modOst (fun o => { o with coils := lmod o.coils out (fun c => { c with state := st }) })).recordFault p .coilFault
  | none => s

/-- An output enters FAULT_STUCK: the three acts of R146 in order. -/
def State.coilStuck (out owner : Nat) (s : State) : State :=
  let b := bankOf out
  let had := s.ost.banks[b]?.any (fun k => k.stuck)
  let s1 := s.modOst (fun o =>
    Ost.modBank b (fun k => { k with stuck := true })
      { o with coils := lmod o.coils out (fun c => { c with state := .faultStuck }) })
  let s2 := s1.recordFault owner .coilFault
  if had then s2
  else (s2.ost.bankOwners b).foldl (fun x p => x.recordFault p .coilFault) (s2.raise .coilBankOff b)

/-- A bank without a stuck output loses its STUCK cause, and AEU is told (R143, R147). -/
def State.unstick (b : Nat) (s : State) : State :=
  if s.ost.banks[b]?.any (fun k => k.stuck) && !s.ost.bankStuck b then
    (s.modOst (Ost.modBank b (fun k => { k with stuck := false }))).clearAlarm .coilBankOff b
  else s

/-- Releases the latches of the coil and proportional outputs a test names (R147). -/
def State.releaseLatches (coil prop : Nat → Bool) (s : State) : State :=
  let s1 := s.modOst (fun o =>
    { o with
      coils := o.coils.mapIdx (fun i c =>
        if coil i && c.state.latched then ({ c with state := .off }).follow (s.bankOn (bankOf i)) else c)
      props := o.props.mapIdx (fun i p => if prop i && p.state != .active then { p with state := .active, command := 0 } else p) })
  (List.range 6).foldl (fun x b => x.unstick b) s1

/-! ### Proportional outputs -/

/-- A command on a proportional output: carried out for the motion that reserves the owning axis, 0 while the output is faulted
or the emergency stop is ACTIVE (R11, R148). -/
def State.demandProp (motion out command : Nat) (s : State) : State :=
  match s.ost.props[out]?.bind (fun p => p.owner) with
  | some a =>
    if s.reservedBy a == some motion then
      s.modOst (fun o =>
        { o with props := lmod o.props out (fun p =>
          { p with command := if p.state != .active || o.estop == .active then 0 else min command 1000 }) })
    else s
  | none => s

/-- Sets both direction outputs of an axis to 0 (R94). -/
def State.zeroProps (axis : Nat) (s : State) : State :=
  s.modOst (fun o => { o with props := o.props.map (fun p => if p.owner == some axis then { p with command := 0 } else p) })

/-- An ACTIVE proportional output latches: its command is 0, and the axis that owns it, if any, is reported (R148). -/
def State.propLatch (out : Nat) (st : PropState) (s : State) : State :=
  match s.ost.props[out]? with
  | some p =>
    if p.state == .active then
      let s1 := s.modOst (fun o => { o with props := lmod o.props out (fun q => { q with state := st, command := 0 }) })
      match p.owner with
      | some a => s1.recordFault a .coilFault
      | none => s1
    else s
  | none => s

/-! ### Contactors -/

/-- The contactor output of a pump is on. -/
def State.contactorOn (s : State) (p : Nat) : Bool := s.ost.contactors.getD p false

/-- HPA's request to switch a contactor (R149). -/
def State.contactor (p : Nat) (on : Bool) (s : State) : State :=
  if on && s.ost.estop == .active then s
  else s.modOst (fun o => { o with contactors := lmod o.contactors p (fun _ => on) })

/-! ### The emergency stop -/

/-- OST's own acts on entry to ACTIVE (R150): contactors open, ESTOP on banks 0 to 4, proportional outputs 0. -/
def Ost.stopAll (o : Ost) : Ost :=
  let o1 := { o with estop := .active, contactors := o.contactors.map (fun _ => false) }
  let o2 := o1.modBanks [0, 1, 2, 3, 4] (fun k => { k with estop := true })
  { o2 with props := o2.props.map (fun p => { p with command := 0 }) }

/-- The emergency stop returns to CLEAR (R152): the latch, the discrepancy timer and the ESTOP causes go. -/
def Ost.stopOver (o : Ost) : Ost :=
  Ost.modBanks [0, 1, 2, 3, 4] (fun k => { k with estop := false })
    { o with estop := .clear, latch := false, discrepancy := none }

/-- STARTUP leaves every bank (R153). -/
def Ost.startupOver (o : Ost) : Ost := o.modBanks [0, 1, 2, 3, 4, 5] (fun k => { k with startup := false })

/-- Takes the owners of the outputs from a layout; an output whose owner changes or becomes none has its demand, or its
command, set off (R153). -/
def Ost.takeOwners (l : Layout) (o : Ost) : Ost :=
  let coilOwner (i : Nat) : Option Nat := (l.points.find? (fun e => (coilsOf e.2).contains i)).map (fun e => e.1)
  let propOwner (i : Nat) : Option Nat := (l.points.find? (fun e => (propsOf e.2).contains i)).map (fun e => e.1)
  { o with
    coils := o.coils.mapIdx (fun i c =>
      if c.owner == coilOwner i then c
      else
        { c with
          owner := coilOwner i
          demand := false
          state := if c.state.latched then c.state else .off })
    props := o.props.mapIdx (fun i p =>
      if p.owner == propOwner i then p else { p with owner := propOwner i, command := 0 }) }

end Sys2Proof.Machine
end

