-- ==== Sys2Proof/Machine/Hpa.lean ====
section
/-! DEFINITION. Machine/Hpa.lean: the Hydraulic Power Arbiter: pumps (R54 to R59), the idle timer (R60), requests and the list (R61,
R62), capacity, allocation and the grant pass (R63 to R66), release (R67), capacity drop (R68) and emergency stop (R69). -/
namespace Sys2Proof.Machine

/-! ### The three sums -/

/-- The capacity C: the capacities of the RUNNING pumps (R63). -/
def Hpa.capacity (h : Hpa) : Nat := ((h.pumps.filter (fun e => e.2.state == .running)).map (fun e => e.2.capacity)).sum

/-- The capacity of the RUNNING and STARTING pumps together (R66). -/
def Hpa.comingCapacity (h : Hpa) : Nat :=
  ((h.pumps.filter (fun e => e.2.state == .running || e.2.state == .starting)).map (fun e => e.2.capacity)).sum

/-- The allocation A: the granted flows (R63). -/
def Hpa.allocation (h : Hpa) : Nat := (h.grants.map (fun g => g.flow)).sum

/-- The free flow C - A (R63). -/
def Hpa.freeFlow (h : Hpa) : Nat := h.capacity - h.allocation

/-- A pump that is RUNNING or STARTING. -/
def Pump.working (p : Pump) : Bool := p.state == .running || p.state == .starting

/-- A pump that is eligible for a start (R55). -/
def Pump.eligible (p : Pump) : Bool := p.state == .stopped && p.runDown.isNone

/-- The arrival counter is 0 while list and grants are empty (R61), and the idle timer runs while its three conditions hold
(R60). Every change of HPA ends with it. -/
def Hpa.tidy (idleTime : Nat) (h : Hpa) : Hpa :=
  let idle := h.allocation == 0 && h.requests.isEmpty && h.pumps.any (fun e => e.2.working)
  { h with
    arrival := if h.requests.isEmpty && h.grants.isEmpty then 0 else h.arrival
    idle := if idle then some (h.idle.getD idleTime) else none }

/-- Changes HPA. -/
def State.modHpa (f : Hpa → Hpa) (s : State) : State := { s with hpa := (f s.hpa).tidy s.tune.idleTime }

/-! ### The list and the grants stand in stamp order -/

/-- Enters a request by its stamp. -/
def insertRequest (r : Request) : List Request → List Request
  | [] => [r]
  | x :: xs => if r.stamp.toNat < x.stamp.toNat then r :: x :: xs else x :: insertRequest r xs

/-- Enters a grant by its stamp. -/
def insertGrant (g : Grant) : List Grant → List Grant
  | [] => [g]
  | x :: xs => if g.stamp.toNat < x.stamp.toNat then g :: x :: xs else x :: insertGrant g xs

/-- The grant of a motion. -/
def Hpa.grantOf (h : Hpa) (m : Nat) : Option Grant := h.grants.find? (fun g => g.motion == m)

/-- The entry of a motion. -/
def Hpa.entryOf (h : Hpa) (m : Nat) : Option Request := h.requests.find? (fun r => r.motion == m)

/-! ### Capacity drop -/

/-- Stage 1 of R68 over the grants, youngest first: TRAVEL grants fall to their minimum until the excess is gone. Answers the grants
and the reduced motions. -/
def reduceGrants : Nat → List Grant → List Grant × List Nat
  | _, [] => ([], [])
  | excess, g :: gs =>
    if excess = 0 then (g :: gs, [])
    else if g.cls == .travel && decide (g.flow > g.minimum) then
      let r := reduceGrants (excess - (g.flow - g.minimum)) gs
      ({ g with flow := g.minimum } :: r.1, g.motion :: r.2)
    else
      let r := reduceGrants excess gs
      (g :: r.1, r.2)

/-- Stage 2 of R68 over the grants, youngest first: grants are revoked until the excess is gone. Answers the kept and the revoked
grants. -/
def revokeGrants : Nat → List Grant → List Grant × List Grant
  | _, [] => ([], [])
  | excess, g :: gs =>
    if excess = 0 then (g :: gs, [])
    else
      let r := revokeGrants (excess - g.flow) gs
      (r.1, g :: r.2)

/-- The request that a revoked grant re-enters (R68). -/
def Grant.again (wait : Nat) (g : Grant) : Request :=
  { motion := g.motion, cls := g.cls, requested := g.requested, minimum := g.minimum, stamp := g.stamp, passed := 0
    wait := wait }

/-- The capacity drop of R68: answers the arbiter, the reduced motions and the revoked motions. Nothing happens while the
allocation is within the capacity. -/
def Hpa.drop (wait : Nat) (h : Hpa) : Hpa × List Nat × List Nat :=
  let a := reduceGrants (h.allocation - h.capacity) h.grants.reverse
  let left := (a.1.map (fun g => g.flow)).sum
  let b := revokeGrants (left - h.capacity) a.1
  ({ h with
      grants := b.1.reverse
      requests := b.2.foldl (fun rs g => insertRequest (g.again wait) rs) h.requests },
    a.2.filter (fun m => b.1.any (fun g => g.motion == m)), b.2.map (fun g => g.motion))

/-- The capacity drop and its reports to the units (R68). -/
def State.capacityDrop (s : State) : State :=
  let r := s.hpa.drop s.tune.flowWait
  let s1 := s.modHpa (fun _ => r.1)
  let s2 := r.2.1.foldl (fun x m => emit (.reduced m) x) s1
  r.2.2.foldl (fun x m => emit (.revoked m) x) s2

/-! ### Pump state changes -/

/-- Puts a pump in a new state: contactor, timers and cause as R55 gives them, then the consequences of R56 in order. A change
to STARTING starts no pass. -/
def State.setPump (i : Nat) (st : PumpState) (cause : Option PumpCause) (runDown : Option Nat) (s : State) : State :=
  match tget s.hpa.pumps i with
  | none => s
  | some p =>
    let new := { p with
      state := st, cause := cause, runDown := runDown, start := if st == .starting then some p.startTime else none }
    let s0 := { s with hpa := { s.hpa with pumps := tput s.hpa.pumps i new } }
    let s1 := (s0.contactor i (st == .starting || st == .running)).capacityDrop
    let s2 := s1.event (.pumpState i st (if st == .faulted then cause else none))
    let s3 :=
      if st == .faulted then s2.raise .pumpFault i
      else if p.state == .faulted then s2.clearAlarm .pumpFault i
      else s2
    let s4 := s3.recompute [6]
    if st == .starting then s4 else emit .pass s4

/-- HPA stops a RUNNING or STARTING pump (R55). -/
def State.stopPump (i : Nat) (s : State) : State :=
  match tget s.hpa.pumps i with
  | some p => if p.working then s.setPump i .stopped none (some Config.runDownTime) else s
  | none => s

/-- HPA stops every RUNNING and STARTING pump (R60, R69), in rising pump index, DESIGN CHOICE (assumption 2). -/
def State.stopPumps (s : State) : State := (s.hpa.pumps.map (fun e => e.1)).foldl (fun x i => x.stopPump i) s

/-- A pump's running feedback is handed over (R55). -/
def State.pumpFeedback (i : Nat) (on : Bool) (s : State) : State :=
  match tget s.hpa.pumps i with
  | none => s
  | some p =>
    let s1 := { s with hpa := { s.hpa with pumps := tput s.hpa.pumps i { p with feedback := on } } }
    match p.state, on with
    | .stopped, true => if p.runDown.isNone then s1.setPump i .faulted (some .contactorFault) none else s1
    | .starting, true => s1.setPump i .running none none
    | .running, false =>
      if s.contactorOn i then s1.setPump i .faulted (some .tripped) none
      else s1.setPump i .stopped none (some Config.runDownTime)
    | _, _ => s1

/-- A STARTING pump's start timer expires with its feedback off (R55). -/
def State.startExpiry (i : Nat) (s : State) : State :=
  match tget s.hpa.pumps i with
  | some p =>
    if p.state == .starting && p.start.isSome && !p.feedback then s.setPump i .faulted (some .noStart) none else s
  | none => s

/-- A pump's run-down timer expires (R55); the end of a run-down without fault starts a pass (R64). -/
def State.runDownExpiry (i : Nat) (s : State) : State :=
  match tget s.hpa.pumps i with
  | some p =>
    if p.state == .stopped && p.runDown.isSome then
      if p.feedback then s.setPump i .faulted (some .contactorFault) none
      else emit .pass { s with hpa := { s.hpa with pumps := tput s.hpa.pumps i { p with runDown := none } } }
    else s
  | none => s

/-! ### Requests -/

/-- The first arrival of a request (R61). -/
def State.request (motion : Nat) (cls : FlowClass) (requested minimum : Nat) (s : State) : State :=
  emit .pass (s.modHpa (fun h =>
    { h with
      requests := h.requests ++ [{ motion := motion, cls := cls, requested := requested, minimum := minimum,
                                   stamp := h.arrival, passed := 0, wait := s.tune.flowWait }]
      arrival := h.arrival + 1 }))

/-- A unit releases its grant (R67) or withdraws its request (R62); with neither, nothing changes. -/
def State.giveUpFlow (m : Nat) (s : State) : State :=
  if (s.hpa.grantOf m).isSome || (s.hpa.entryOf m).isSome then
    emit .pass (s.modHpa (fun h =>
      { h with
        grants := h.grants.filter (fun g => g.motion != m)
        requests := h.requests.filter (fun r => r.motion != m) }))
  else s

/-! ### The grant pass -/

/-- The walk order of a pass (R64, R65). -/
def walkOrder (K : Nat) (rs : List Request) : List Request :=
  let promoted (r : Request) : Bool := r.cls == .travel && K != 0 && decide (r.passed ≥ K)
  rs.filter promoted ++ rs.filter (fun r => r.cls == .locking) ++
    rs.filter (fun r => r.cls == .travel && !promoted r)

/-- What an entry can be granted out of the free flow (R64). -/
def Request.fits (free : Nat) (r : Request) : Option Nat :=
  match r.cls with
  | .locking => if r.requested ≤ free then some r.requested else none
  | .travel => if r.minimum ≤ free then some (min r.requested free) else none

/-- An entry is granted: it leaves the list; a LOCKING grant passes over every TRAVEL entry then in the list (R64, R65). -/
def Hpa.grant (r : Request) (flow : Nat) (h : Hpa) : Hpa :=
  let rest := h.requests.filter (fun x => x.motion != r.motion)
  { h with
    requests :=
      if r.cls == .locking then rest.map (fun x => if x.cls == .travel then { x with passed := min (x.passed + 1) 255 } else x)
      else rest
    grants := insertGrant { motion := r.motion, cls := r.cls, flow := flow, requested := r.requested,
                            minimum := r.minimum, stamp := r.stamp } h.grants }

/-- A pass takes the entries in walk order up to the first it cannot grant: the arbiter after it, the granted motions and that entry
(R64). -/
def passGo : List Request → Hpa → Hpa × List Nat × Option Request
  | [], h => (h, [], none)
  | r :: rs, h =>
    match r.fits h.freeFlow with
    | none => (h, [], some r)
    | some flow =>
      let x := passGo rs (h.grant r flow)
      (x.1, r.motion :: x.2.1, x.2.2)

/-- The pump the start decision starts, if any (R66). -/
def Hpa.startChoice (clear : Bool) (ended : Option Request) (h : Hpa) : Option Nat :=
  match ended with
  | none => none
  | some r =>
    if clear && !h.pumps.any (fun e => e.2.state == .starting) then
      match h.pumps.find? (fun e => e.2.eligible) with
      | some e => if h.comingCapacity < h.allocation + r.requested then some e.1 else none
      | none => none
    else none

/-- HPA runs a grant pass, hands out its grants and makes the start decision (R64 to R67). -/
def State.grantPass (s : State) : State :=
  let r := passGo (walkOrder s.tune.travelPromotion s.hpa.requests) s.hpa
  let s1 := s.modHpa (fun _ => r.1)
  let s2 := r.2.1.foldl (fun x m => emit (.granted m) x) s1
  match s2.hpa.startChoice (s2.ost.estop == .clear) r.2.2 with
  | some i => s2.setPump i .starting none none
  | none => s2

/-! ### Emergency stop -/

/-- HPA's act on the emergency stop becoming ACTIVE (R69): every grant and entry removed and their units told, pumps STOPPED. -/
def State.hpaStop (s : State) : State :=
  let ms := s.hpa.grants.map (fun g => g.motion) ++ s.hpa.requests.map (fun r => r.motion)
  let s1 := { s with hpa := { s.hpa with grants := [], requests := [], arrival := 0, idle := none } }
  let s2 := ms.foldl (fun x m => emit (.withdrawn m) x) s1
  s2.stopPumps

end Sys2Proof.Machine
end

