-- ==== Sys2Proof/Machine/Ldu.lean ====
section
/-! DEFINITION. Machine/Ldu.lean: the Lock Drive Unit: group drives from issue to end (chapter 5). -/
namespace Sys2Proof.Machine

/-- The group drive of a motion id. -/
def State.ldu? (s : State) (m : Nat) : Option GroupMotion := tget s.ldu.motions m

/-- Changes the record of a group drive. -/
def State.modLdu (m : Nat) (f : GroupMotion → GroupMotion) (s : State) : State :=
  { s with ldu := { s.ldu with motions := tmod s.ldu.motions m f } }

/-- Changes one member of a group drive. -/
def GroupMotion.modMember (p : Nat) (f : Member → Member) (g : GroupMotion) : GroupMotion :=
  { g with members := g.members.map (fun x => if x.point = p then f x else x) }

/-- The member of a group drive at a point. -/
def GroupMotion.member? (g : GroupMotion) (p : Nat) : Option Member := g.members.find? (fun x => x.point == p)

/-- The confirmed state of a lock point; BETWEEN for a point that is none. -/
def State.confirmed (s : State) (p : Nat) : Confirmed :=
  match s.lock? p with
  | some d => d.confirmed
  | none => .between

/-- A motion's demand on a lock's coil of a direction (R75, R142). -/
def State.driveLock (m p : Nat) (dir : LockDir) (on : Bool) (s : State) : State :=
  match s.layout.lock? p with
  | some d => s.demandCoil m (d.coil dir) on
  | none => s

/-- Switches off both coils of a member. -/
def State.lockOff (m p : Nat) (s : State) : State := (s.driveLock m p .engage false).driveLock m p .retract false

/-- Switches off every coil of a motion. -/
def State.groupOff (m : Nat) (g : GroupMotion) (s : State) : State :=
  g.members.foldl (fun x e => x.lockOff m e.point) s

/-- A member with its timers stopped. -/
def Member.still (e : Member) : Member := { e with travel := none, back := none }

/-- Member still to move: DRIVING or BACKING_OFF. -/
def Member.moving (e : Member) : Bool := e.state == .driving || e.state == .backingOff

/-! ### The end of a group drive -/

/-- A motion ends DONE or FAILED (R85): coils, flow, reservation, report. -/
def State.lduEnd (m : Nat) (st : MotionState) (cause : Option FailCause) (failed : List Nat) (s : State) : State :=
  match s.ldu? m with
  | none => s
  | some g =>
    let s1 := s.groupOff m g
    let s2 := s1.modLdu m (fun x =>
      { x with state := st, halt := none, cause := cause, failed := failed, granted := none, members := x.members.map Member.still })
    emit (.outcome m) ((s2.giveUpFlow m).release m)

/-- The motion ends when no member is DRIVING or BACKING_OFF (R76, R83). -/
def State.lduCheck (m : Nat) (s : State) : State :=
  match s.ldu? m with
  | none => s
  | some g =>
    if g.state.ended || g.members.any Member.moving then s
    else
      let failed := (g.members.filter (fun e => e.state == .failed)).map (fun e => e.point)
      if failed.isEmpty then s.lduEnd m .done none [] else s.lduEnd m .failed g.firstCause failed

/-- A member becomes FAILED: coils off, timers stopped, the fault reported where LDU found it itself; under STOP_GROUP the motion
ends at once (R77, R80 to R83). A member already FAILED is left. -/
def State.lduFail (m p : Nat) (code : FaultCode) (report : Bool) (s : State) : State :=
  match s.ldu? m with
  | none => s
  | some g =>
    match g.member? p with
    | none => s
    | some e =>
      if e.state == .failed || g.state.ended then s
      else
        let s1 := (s.lockOff m p).modLdu m (fun x =>
          { x.modMember p (fun y => { y.still with state := .failed }) with
            firstCause := some (x.firstCause.getD (.point code)) })
        let s2 := if report then s1.recordFault p code else s1
        match g.policy with
        | .stopGroup => s2.lduEnd m .failed (some (.point code)) [p]
        | .carryOn => s2

/-! ### Issue -/

/-- The drive set of a group and direction: the members off the target, in group order (R73). -/
def State.driveSet (s : State) (g : Nat) (dir : LockDir) : List Nat :=
  match tget s.layout.groups g with
  | some d => d.members.filter (fun p => s.confirmed p != dir.target)
  | none => []

/-- The summed flow demand of lock points (R61). -/
def State.lockFlow (s : State) (pts : List Nat) : Nat :=
  (pts.map (fun p => ((s.layout.lock? p).map (fun d => d.flow)).getD 0)).sum

/-- The record that R74 creates. -/
def State.newGroup (s : State) (owner : StepRef) (g : Nat) (dir : LockDir) (pts : List Nat) (d : GroupDef) : GroupMotion :=
  { owner := owner, group := g, dir := dir, requested := s.lockFlow pts
    watched := s.watchFor (.group g dir)
    policy := d.policy, retryLimit := d.retryLimit, backOff := d.backOff
    members := pts.map (fun p =>
      { point := p, limit := ((s.layout.lock? p).map (fun x => x.travelLimit)).getD 0 : Member }) }

/-- A member that fails a drive at issue: faulted or in CONFLICT (R74). -/
def State.badMember (s : State) (p : Nat) : Bool := (s.faultOf p).isSome || s.confirmed p == .conflict

/-- LDU completes the issue after a satisfied permissive (R74); none where the claim is refused. -/
def State.lduIssue (m : Nat) (owner : StepRef) (g : Nat) (dir : LockDir) (pts : List Nat) (s : State) : Option State :=
  match tget s.layout.groups g, s.claim m pts with
  | some d, some s1 =>
    let rec_ := s1.newGroup owner g dir pts d
    let s2 := { s1 with ldu := { s1.ldu with motions := tput s1.ldu.motions m rec_ } }
    let bad := pts.filter s2.badMember
    if bad.isEmpty then some (s2.request m .locking rec_.requested rec_.requested)
    else
      let s3 := bad.foldl (fun x p => if (x.faultOf p).isNone then x.recordFault p .sensorConflict else x) s2
      some (s3.lduEnd m .failed (some .memberFaulted) bad)
  | _, _ => none

/-! ### Driving -/

/-- The members are energized as one action of the grant, in group order (R75, R84). -/
def State.lduDrive (m flow : Nat) (s : State) : State :=
  match s.ldu? m with
  | none => s
  | some g =>
    let s1 := s.modLdu m (fun x =>
      { x with
        state := .driving, halt := none, granted := some flow
        members := x.members.map (fun e =>
          match e.state with
          | .driving => { e with travel := some e.limit }
          | .backingOff => { e with back := some x.backOff }
          | .done => e
          | .failed => e) })
    g.members.foldl (fun x e =>
      match e.state with
      | .driving => x.driveLock m e.point g.dir true
      | .backingOff => x.driveLock m e.point g.dir.opposite true
      | .done => x
      | .failed => x) s1

/-- The report of a unit whose watched entry is unsatisfied (R51). -/
def permissiveCause (c : Nat) : HoldCause := { kind := .permissive, subject := .condition c }

/-- The first unsatisfied condition of a watched entry (R49); none when nothing is watched or the entry is satisfied. -/
def State.watchBroken (s : State) (w : Option Subject) : Option Nat := w.bind s.permissive

/-- HPA hands LDU a grant (R67, R75, R84): a waiting motion drives, a motion halted for flow re-evaluates its watched entry first, one that
drives already has taken this grant, and any other motion releases it at once. -/
def State.lduGrant (m : Nat) (s : State) : State :=
  match s.ldu? m, s.hpa.grantOf m with
  | some g, some q =>
    if g.state == .waitingFlow then s.lduDrive m q.flow
    else if g.state.live then s
    else if g.state == .halted && g.halt == some .noFlow then
      match s.watchBroken g.watched with
      | some c => emit (.cause (permissiveCause c)) s
      | none => s.lduDrive m q.flow
    else s.giveUpFlow m
  | _, _ => s

/-- PMN hands LDU a changed confirmed state of a member (R74, R76, R78, R79, R80). -/
def State.lduMoved (m p : Nat) (s : State) : State :=
  match s.ldu? m with
  | none => s
  | some g =>
    match g.member? p with
    | none => s
    | some e =>
      let c := s.confirmed p
      let atTarget := c == g.dir.target
      let driving := g.state == .driving
      let waiting := g.state == .waitingFlow || (g.state == .halted && g.halt == some .noFlow)
      if !(driving || waiting) then s
      else if c == .conflict then (s.lduFail m p .sensorConflict true).lduCheck m
      else
        match e.state with
        | .driving =>
          if atTarget then
            ((s.driveLock m p g.dir false).modLdu m (fun x => x.modMember p (fun y => { y.still with state := .done }))).lduCheck m
          else s
        | .backingOff =>
          if atTarget then
            ((s.driveLock m p g.dir.opposite false).modLdu m
              (fun x => x.modMember p (fun y => { y.still with state := .done }))).lduCheck m
          else s
        | .done =>
          if atTarget then s
          else
            let s1 := s.modLdu m (fun x => x.modMember p (fun y =>
              { y with state := .driving, travel := if driving then some y.limit else none }))
            if driving then s1.driveLock m p g.dir true else s1
        | .failed => s

/-- A member's travel timer expires (R77). -/
def State.lduTravelOut (m p : Nat) (s : State) : State :=
  match s.ldu? m with
  | none => s
  | some g =>
    match g.member? p with
    | none => s
    | some e =>
      if g.state == .driving && e.state == .driving && e.travel.isSome then
        if e.retries < g.retryLimit then
          let s1 := s.modLdu m (fun x => x.modMember p (fun y =>
            { y with state := .backingOff, travel := none, back := some x.backOff }))
          (s1.driveLock m p g.dir false).driveLock m p g.dir.opposite true
        else (s.lduFail m p .travelTimeout true).lduCheck m
      else s

/-- A member's back-off timer expires (R78). -/
def State.lduBackOut (m p : Nat) (s : State) : State :=
  match s.ldu? m with
  | none => s
  | some g =>
    match g.member? p with
    | none => s
    | some e =>
      if g.state == .driving && e.state == .backingOff && e.back.isSome then
        let s1 := s.modLdu m (fun x => x.modMember p (fun y =>
          { y with state := .driving, travel := some y.limit, back := none, retries := y.retries + 1 }))
        (s1.driveLock m p g.dir.opposite false).driveLock m p g.dir true
      else s

/-- The hold cause of a point fault on a reserved point (R131). -/
def pointFaultCause (p : Nat) : HoldCause := { kind := .pointFault, subject := .point p }

/-- PMN hands LDU a fault report on a member point (R81). -/
def State.lduFault (m p : Nat) (code : FaultCode) (fresh : Bool) (s : State) : State :=
  match s.ldu? m with
  | none => s
  | some g =>
    match g.state with
    | .waitingFlow => (s.lduFail m p code false).lduCheck m
    | .driving => (s.lduFail m p code false).lduCheck m
    | .halted =>
      if g.halt == some .noFlow then (s.lduFail m p code false).lduCheck m
      else if fresh then emit (.cause (pointFaultCause p)) s
      else s
    | .settling => s
    | .done => s
    | .failed => s

/-! ### Halt, re-issue, withdrawal -/

/-- A motion is halted by a hold, or by the loss of its flow (R84). -/
def State.lduHalt (m : Nat) (why : HaltCause) (s : State) : State :=
  match s.ldu? m with
  | none => s
  | some g =>
    let halted := (s.groupOff m g).modLdu m (fun x =>
      { x with state := .halted, halt := some why, granted := none, members := x.members.map Member.still })
    if g.state == .waitingFlow || g.state == .driving then
      if why == .hold then halted.giveUpFlow m else halted
    else if g.state == .halted && g.halt == some .noFlow && why == .hold then halted.giveUpFlow m
    else s

/-- The wait for flow has lasted too long (R85). -/
def State.lduNoFlow (m : Nat) (s : State) : State :=
  match s.ldu? m with
  | none => s
  | some g =>
    if g.state == .waitingFlow || (g.state == .halted && g.halt == some .noFlow) then s.lduEnd m .failed (some .noFlow) [] else s

/-- The state of a member when its motion is re-issued (R84). -/
def State.memberAgain (s : State) (dir : LockDir) (e : Member) : MemberState :=
  match e.state with
  | .failed => .failed
  | .done => if s.confirmed e.point == dir.target then .done else .driving
  | .driving => if s.confirmed e.point == dir.target then .done else .driving
  | .backingOff => if s.confirmed e.point == dir.target then .done else .backingOff

/-- RESUME re-issues a motion HALTED with cause HOLD (R84). Under STOP_GROUP only the first member in CONFLICT reports its fault, DESIGN CHOICE
(assumption 31). -/
def State.lduReissue (m : Nat) (s : State) : State :=
  match s.ldu? m with
  | none => s
  | some g =>
    if g.state == .halted && g.halt == some .hold then
      let s1 := s.modLdu m (fun x =>
        { x with
          state := .waitingFlow, halt := none, watched := s.watchFor (.group x.group x.dir)
          members := x.members.map (fun e => { e with state := s.memberAgain x.dir e }) })
      let bad := (g.members.filter (fun e => e.state != .failed && s.badMember e.point)).map (fun e => e.point)
      let s2 := bad.foldl (fun x p =>
        match s.faultOf p with
        | some c => x.lduFail m p c false
        | none => x.lduFail m p .sensorConflict true) s1
      let s3 := s2.lduCheck m
      match s3.ldu? m with
      | some h => if h.state == .waitingFlow then s3.request m .locking h.requested h.requested else s3
      | none => s3
    else s

/-- Discards a motion record. -/
def State.lduDrop (m : Nat) (s : State) : State := { s with ldu := { s.ldu with motions := tdel s.ldu.motions m } }

/-- A motion is withdrawn (R86). -/
def State.lduWithdraw (m : Nat) (s : State) : State :=
  match s.ldu? m with
  | none => s
  | some g =>
    if g.state.ended then s.lduDrop m
    else (((s.groupOff m g).giveUpFlow m).release m).lduDrop m

end Sys2Proof.Machine
end

