-- ==== Sys2Proof/Machine/Adu.lean ====
section
/-! DEFINITION. Machine/Adu.lean: the Axis Drive Unit: axis moves from issue to end, and ramp float (chapter 6). -/
namespace Sys2Proof.Machine

/-- The axis move of a motion id. -/
def State.adu? (s : State) (m : Nat) : Option AxisMotion := tget s.adu.motions m

/-- Changes the record of an axis move. -/
def State.modAdu (m : Nat) (f : AxisMotion → AxisMotion) (s : State) : State :=
  { s with adu := { s.adu with motions := tmod s.adu.motions m f } }

/-- The axis floats (R105). -/
def State.floats (s : State) (i : Nat) : Bool := (tget s.adu.floats i).isSome

/-- Writes the drive state of an axis (R89). -/
def State.setDrive (i : Nat) (d : Drive) (s : State) : State := s.modAxis i (fun x => { x with drive := d })

/-- The drive state of an axis that no motion drives: FLOAT when it floats, IDLE otherwise (R89). -/
def State.restDrive (i : Nat) (s : State) : State := s.setDrive i (if s.floats i then .float else .idle)

/-- The position of an axis. -/
def State.position (s : State) (i : Nat) : Option Nat := (s.axis? i).bind (fun y => y.p)

/-- The tip load is present and at least the landing threshold (R90, R93, R100). -/
def State.landed (s : State) (i : Nat) : Bool :=
  match (s.layout.axis? i).bind (fun d => d.tip), (s.axis? i).bind (fun y => y.tip) with
  | some t, some x => decide (x ≥ t.landing)
  | _, _ => false

/-! ### Float -/

/-- Limit supervision of a floating axis (R106). -/
def State.floatLimit (i : Nat) (s : State) : State :=
  match (s.layout.axis? i).bind (fun d => d.float), s.position i, tget s.adu.floats i with
  | some w, some p, some f =>
    let low := if w.high < w.low + 2 * Config.clearBand then w.low else w.low + Config.clearBand
    let high := if w.high < w.low + 2 * Config.clearBand then w.high else w.high - Config.clearBand
    if !f.limitRaised && (decide (p < w.low) || decide (p > w.high)) then
      { s with adu := { s.adu with floats := tput s.adu.floats i { f with limitRaised := true } } }.raise .floatLimit i
    else if f.limitRaised && decide (low ≤ p) && decide (p ≤ high) then
      { s with adu := { s.adu with floats := tput s.adu.floats i { f with limitRaised := false } } }.clearAlarm .floatLimit i
    else s
  | _, _, _ => s

/-- Lift-off supervision of a floating axis (R107). -/
def State.floatLift (i : Nat) (s : State) : State :=
  match (s.layout.axis? i).bind (fun d => d.tip), tget s.adu.floats i with
  | some t, some f =>
    match (s.axis? i).bind (fun y => y.tip) with
    | some x =>
      if x < t.liftOff then
        if f.liftTimer.isNone && !f.liftRaised then
          { s with adu := { s.adu with floats := tput s.adu.floats i { f with liftTimer := some Config.liftOffTime } } }
        else s
      else
        let s1 := { s with adu := { s.adu with
          floats := tput s.adu.floats i { f with liftTimer := none, liftRaised := false } } }
        if f.liftRaised then s1.clearAlarm .rampLiftoff i else s1
    | none => { s with adu := { s.adu with floats := tput s.adu.floats i { f with liftTimer := none } } }
  | _, _ => s

/-- Float supervision at float entry and at each record handed over (R106, R107). -/
def State.floatEval (i : Nat) (s : State) : State := (s.floatLimit i).floatLift i

/-- Float ends: the supervision stops and both conditions are cleared (R105). -/
def State.floatEnd (i : Nat) (s : State) : State :=
  if s.floats i then
    let s1 := match (s.layout.axis? i).bind (fun d => d.float) with
      | some w => s.demandFloat i w.coil false
      | none => s
    ({ s1 with adu := { s1.adu with floats := tdel s1.adu.floats i } }.clearAlarm .floatLimit i).clearAlarm .rampLiftoff i
  else s

/-- ADU takes a FLOAT_AXIS step (R104); none while the axis is reserved. -/
def State.floatEntry (i : Nat) (s : State) : Option State :=
  if (s.reservedBy i).isSome then none
  else if s.floats i then some s
  else
    let s1 := s.zeroProps i
    let s2 := match (s.layout.axis? i).bind (fun d => d.float) with
      | some w => s1.demandFloat i w.coil true
      | none => s1
    some ({ s2 with adu := { s2.adu with floats := tput s2.adu.floats i {} } }.setDrive i .float |>.floatEval i)

/-- A lift-off timer expires (R107). -/
def State.liftOffOut (i : Nat) (s : State) : State :=
  match tget s.adu.floats i with
  | some f =>
    if f.liftTimer.isSome then
      { s with adu := { s.adu with
        floats := tput s.adu.floats i { f with liftTimer := none, liftRaised := true } } }.raise .rampLiftoff i
    else s
  | none => s

/-! ### The end of an axis move -/

/-- A move ends DONE or FAILED (R103): outputs, flow, reservation, drive state, report. -/
def State.aduEnd (m : Nat) (st : MotionState) (cause : Option FailCause) (s : State) : State :=
  match s.adu? m with
  | none => s
  | some a =>
    let s1 := (s.zeroProps a.axis).modAdu m (fun x =>
      { x with state := st, halt := none, cause := cause, granted := none, travel := none, stall := none, settle := none })
    emit (.outcome m) (((s1.giveUpFlow m).release m).restDrive a.axis)

/-! ### Issue -/

/-- The satisfied-on-issue test of a move (R90). -/
def State.moveSatisfied (s : State) (i T : Nat) (landing : Bool) : Bool :=
  match s.layout.axis? i, s.position i with
  | some d, some p => decide (distanceOf T p ≤ d.inPos) && (!landing || s.landed i)
  | _, _ => false

/-- The target lies in an enabled protect window of the axis (R90, R91). -/
def State.targetProtected (s : State) (i T : Nat) : Bool :=
  match s.layout.axis? i with
  | some d => protectedAt d.travel (s.layout.windows i) T
  | none => false

/-- The direction a move to T needs: CLOSE where the axis has no position (R50, R91). -/
def State.moveDir (s : State) (i T : Nat) : AxisDir :=
  match s.position i with
  | some p => directionTo T p
  | none => .closing

/-- The checks of R91, step 3: the cause that fails a move at issue. -/
def State.moveRefused (s : State) (i T : Nat) : Option FailCause :=
  if (s.position i).isNone || (s.faultOf i).isSome then some .axisFaulted
  else if s.targetProtected i T then some .windowProtected
  else none

/-- Sends the TRAVEL request of a move in its direction at issue (R61, R91, R102). -/
def State.moveRequest (m : Nat) (s : State) : State :=
  match s.adu? m with
  | none => s
  | some a =>
    match s.layout.axis? a.axis with
    | none => s
    | some d =>
      let requested := commandFlow (d.base a.dir) d.qFull
      let minimum := commandFlow d.vMin d.qFull
      (s.modAdu m (fun x =>
        { x with state := .waitingFlow, halt := none, requested := requested, minimum := minimum
                 watched := s.watchFor (.axis x.axis x.dir) })).request m .travel requested minimum

/-- ADU completes the issue of a move (R91); none where the claim is refused. DESIGN CHOICE (assumption 38): a move that fails at issue sends no request,
so R88 fixes no requested and no minimum flow for its record, and both stay 0 there. -/
def State.aduIssue (m : Nat) (owner : StepRef) (i T : Nat) (landing : Bool) (s : State) : Option State :=
  match s.claim m [i] with
  | none => none
  | some s1 =>
    let a : AxisMotion := { owner := owner, axis := i, target := T, landing := landing, dir := s1.moveDir i T }
    let s2 := { s1 with adu := { s1.adu with motions := tput s1.adu.motions m a } }
    match s2.moveRefused i T with
    | some c => some (s2.aduEnd m .failed (some c))
    | none => some (s2.moveRequest m)

/-! ### The control interval -/

/-- ADU drives a command in a direction, the old direction's output set to 0 first (R94). -/
def State.driveAxis (m : Nat) (d : AxisDef) (dir : AxisDir) (v : Nat) (s : State) : State :=
  (s.demandProp m (d.out dir.opposite) 0).demandProp m (d.out dir) v

/-- A control interval of a DRIVING move (R93, R95, R99, R100). -/
def State.aduInterval (m : Nat) (s : State) : State :=
  match s.adu? m with
  | none => s
  | some a =>
    if a.state == .driving then
      match s.layout.axis? a.axis, s.axis? a.axis with
      | some d, some y =>
        match y.p with
        | none => s
        | some p =>
          let ws := s.layout.windows a.axis
          if protectedAt d.travel ws p then s.aduEnd m .failed (some .windowProtected)
          else if a.landing && s.landed a.axis then s.aduEnd m .done none
          else if distanceOf a.target p ≤ d.inPos then
            if a.landing then s.aduEnd m .failed (some .notLanded)
            else
              ((s.zeroProps a.axis).modAdu m (fun x => { x with state := .settling, stall := none, settle := some d.settle })).setDrive
                a.axis .settling
          else
            let c := valveCommand d ws y.degraded a.target p (a.granted.getD 0)
            (s.driveAxis m d c.1 c.2).modAdu m (fun x => { x with last := some c })
      | _, _ => s
    else s

/-- The hold cause of a lapse of hold-to-run (R130). -/
def State.runReleasedCause (s : State) : HoldCause := { kind := .runReleased, subject := .holder s.amu.holder }

/-- The move becomes DRIVING: stall window, drive state, and the hold-to-run check before the first control interval (R92, R96, R99,
R130). -/
def State.aduGo (m : Nat) (s : State) : State :=
  match s.adu? m with
  | none => s
  | some a =>
    let window := ((s.layout.axis? a.axis).map (fun d => d.stallWindow)).getD 0
    let s1 := (s.modAdu m (fun x =>
      { x with state := .driving, halt := none, settle := none
               stall := some { left := window, start := (s.position a.axis).getD 0 } })).setDrive a.axis .driving
    if s.runAsserted then s1.aduInterval m else emit (.cause s.runReleasedCause) s1

/-- A move starts on its grant (R92). -/
def State.aduStart (m flow : Nat) (s : State) : State :=
  match s.adu? m with
  | none => s
  | some a =>
    let limit := ((s.layout.axis? a.axis).map (fun d => d.limit a.dir)).getD 0
    ((s.floatEnd a.axis).modAdu m (fun x => { x with granted := some flow, travel := some limit })).aduGo m

/-- HPA hands ADU a grant (R67, R92, R101): a waiting move starts, a move halted for flow re-evaluates its watched entry first, one that
drives or settles already has taken this grant, and any other move releases it at once. -/
def State.aduGrant (m : Nat) (s : State) : State :=
  match s.adu? m, s.hpa.grantOf m with
  | some a, some q =>
    if a.state == .waitingFlow then s.aduStart m q.flow
    else if a.state.live then s
    else if a.state == .halted && a.halt == some .noFlow then
      match s.watchBroken a.watched with
      | some c => emit (.cause (permissiveCause c)) s
      | none => s.aduStart m q.flow
    else s.giveUpFlow m
  | _, _ => s

/-- HPA tells ADU of a reduced grant (R68, R92). -/
def State.aduReduced (m : Nat) (s : State) : State :=
  match s.hpa.grantOf m with
  | some q => s.modAdu m (fun x => { x with granted := some q.flow })
  | none => s

/-! ### Supervision -/

/-- A stall window ends (R96). -/
def State.aduStall (m : Nat) (s : State) : State :=
  match s.adu? m with
  | none => s
  | some a =>
    match a.stall, s.layout.axis? a.axis, s.position a.axis with
    | some w, some d, some p =>
      if a.state == .driving then
        if distanceOf p w.start < d.stallDelta then
          ((s.zeroProps a.axis).recordFault a.axis .stall).aduEnd m .failed (some (.point .stall))
        else s.modAdu m (fun x => { x with stall := some { left := d.stallWindow, start := p } })
      else s
    | _, _, _ => s

/-- A move's travel timer expires (R97). -/
def State.aduTravelOut (m : Nat) (s : State) : State :=
  match s.adu? m with
  | none => s
  | some a =>
    if (a.state == .driving || a.state == .settling) && a.travel.isSome then
      ((s.zeroProps a.axis).recordFault a.axis .travelTimeout).aduEnd m .failed (some (.point .travelTimeout))
    else s

/-- The settle timer ends (R99). -/
def State.aduSettleEnd (m : Nat) (s : State) : State :=
  match s.adu? m with
  | none => s
  | some a =>
    match s.layout.axis? a.axis, s.position a.axis with
    | some d, some p =>
      if a.state == .settling && a.settle.isSome then
        if distanceOf a.target p ≤ d.inPos then s.aduEnd m .done none
        else if a.redrives < 2 then (s.modAdu m (fun x => { x with redrives := x.redrives + 1 })).aduGo m
        else (s.recordFault a.axis .inposFailed).aduEnd m .failed (some (.point .inposFailed))
      else s
    | _, _ => s

/-- PMN hands ADU a fault report on the axis of a move (R98). -/
def State.aduFault (m p : Nat) (code : FaultCode) (fresh : Bool) (s : State) : State :=
  match s.adu? m with
  | none => s
  | some a =>
    let fail := (s.zeroProps a.axis).aduEnd m .failed (some (.point code))
    match a.state with
    | .waitingFlow => fail
    | .driving => fail
    | .settling => fail
    | .halted =>
      if a.halt == some .noFlow then fail
      else if fresh then emit (.cause (pointFaultCause p)) s
      else s
    | .done => s
    | .failed => s

/-! ### Halt, re-issue, withdrawal -/

/-- A move is halted by a hold, or by the loss of its flow (R101). -/
def State.aduHalt (m : Nat) (why : HaltCause) (s : State) : State :=
  match s.adu? m with
  | none => s
  | some a =>
    let halted := (s.zeroProps a.axis).modAdu m (fun x =>
      { x with state := .halted, halt := some why, granted := none, travel := none, stall := none, settle := none })
    if a.state.live then
      let s1 := if a.state == .waitingFlow then halted else halted.setDrive a.axis .halted
      if why == .hold then s1.giveUpFlow m else s1
    else if a.state == .halted && a.halt == some .noFlow && why == .hold then halted.giveUpFlow m
    else s

/-- The wait for flow has lasted too long (R103). -/
def State.aduNoFlow (m : Nat) (s : State) : State :=
  match s.adu? m with
  | none => s
  | some a =>
    if a.state == .waitingFlow || (a.state == .halted && a.halt == some .noFlow) then s.aduEnd m .failed (some .noFlow) else s

/-- RESUME re-issues a move HALTED with cause HOLD (R102). -/
def State.aduReissue (m : Nat) (s : State) : State :=
  match s.adu? m with
  | none => s
  | some a =>
    if a.state == .halted && a.halt == some .hold then
      if s.moveSatisfied a.axis a.target a.landing then s.aduEnd m .done none
      else
        match s.moveRefused a.axis a.target with
        | some c => s.aduEnd m .failed (some c)
        | none =>
          ((s.modAdu m (fun x => { x with dir := s.moveDir x.axis x.target })).restDrive a.axis).moveRequest m
    else s

/-- Discards a motion record. -/
def State.aduDrop (m : Nat) (s : State) : State := { s with adu := { s.adu with motions := tdel s.adu.motions m } }

/-- A move is withdrawn (R103). -/
def State.aduWithdraw (m : Nat) (s : State) : State :=
  match s.adu? m with
  | none => s
  | some a =>
    if a.state.ended then s.aduDrop m
    else ((((s.zeroProps a.axis).giveUpFlow m).release m).restDrive a.axis).aduDrop m

end Sys2Proof.Machine
end

