-- ==== Sys2Proof/Machine/Osq.lean ====
section
/-! DEFINITION. Machine/Osq.lean: the Operation Sequencer: the context and its walk (chapter 7), holds, resumption, reversal and abort
(chapter 8.1 to 8.6) and the maintenance jog (chapter 8.7). -/
namespace Sys2Proof

/-- The step takes an in-flight entry and so needs room (R116). -/
def StepKind.needsRoom : StepKind → Bool
  | .driveGroup _ _ => true
  | .moveAxis _ _ _ => true
  | .floatAxis _ => false
  | .wait _ _ _ => true
  | .pause _ => true
  | .call _ => false

end Sys2Proof

namespace Sys2Proof.Machine

/-! ### The context -/

/-- Changes the operation context, when there is one. -/
def State.modCtx (f : Context → Context) (s : State) : State :=
  { s with osq := { s.osq with context := s.osq.context.map f } }

/-- The in-flight list; empty without a context. -/
def State.inFlight (s : State) : List Entry :=
  match s.osq.context with
  | some x => x.inFlight
  | none => []

/-- Changes the entry at a place of the in-flight list. -/
def State.modEntry (k : Nat) (f : Entry → Entry) (s : State) : State :=
  s.modCtx (fun x => { x with inFlight := lmod x.inFlight k f })

/-- Adds an entry to the end of the in-flight list (R118). -/
def State.addEntry (e : Entry) (s : State) : State := s.modCtx (fun x => { x with inFlight := x.inFlight ++ [e] })

/-- The context is RUNNING. -/
def State.running (s : State) : Bool := s.osq.context.any (fun x => x.state == .running)

/-- The motion record that LDU or ADU holds under an id is discarded. -/
def State.dropMotion (m : Nat) (s : State) : State := (s.lduDrop m).aduDrop m

/-- A motion is halted by the unit that runs it (R84, R101). -/
def State.haltMotion (m : Nat) (why : HaltCause) (s : State) : State := (s.lduHalt m why).aduHalt m why

/-- A motion is withdrawn by the unit that runs it (R86, R103). -/
def State.withdrawMotion (m : Nat) (s : State) : State := (s.lduWithdraw m).aduWithdraw m

/-- Applies a unit's act to the motion of an entry, when it has one. -/
def Entry.onMotion (e : Entry) (f : Nat → State → State) (s : State) : State :=
  match e.motion with
  | some m => f m s
  | none => s

/-- Removes the entry at a place; the unit discards the motion record and the id is free (R118, R122). -/
def State.removeEntry (k : Nat) (s : State) : State :=
  let s1 := match s.inFlight[k]? with
    | some e => e.onMotion State.dropMotion s
    | none => s
  s1.modCtx (fun x => { x with inFlight := x.inFlight.eraseIdx k })

/-- A step completes: its entry is removed and an issue attempt follows (R122). -/
def State.completeEntry (k : Nat) (s : State) : State := emit .issue (s.removeEntry k)

/-! ### Holds -/

/-- What a hold does (R128): the context is HOLDING and every ACTIVE entry is halted, in issue order. -/
def State.hold (s : State) : State :=
  let es := s.inFlight
  let s1 := s.modCtx (fun x =>
    { x with
      state := .holding
      inFlight := x.inFlight.map (fun e => { e with state := if e.state == .active then .halted else e.state, due := false }) })
  es.foldl (fun x e => if e.state == .active then e.onMotion (fun m => State.haltMotion m .hold) x else x) s1

/-- OSQ is given a hold cause (R127). -/
def State.giveCause (c : HoldCause) (s : State) : State :=
  match s.osq.context with
  | none => s
  | some x =>
    if x.state == .running || x.state == .holding then
      if x.causes.any (fun k => k.kind == c.kind) then s
      else
        let s1 := (s.modCtx (fun y => { y with causes := y.causes ++ [c] })).event (.hold c)
        if x.state == .running then s1.hold else s1
    else s

/-! ### Withdrawal, abort, reversal -/

/-- Withdraws every in-flight entry of the context (R135, step 1). -/
def State.withdrawAll (s : State) : State :=
  (s.inFlight.foldl (fun x e => e.onMotion State.withdrawMotion x) s).modCtx (fun x => { x with inFlight := [] })

/-- A RUNNING or HOLDING context is abandoned (R137). -/
def State.abortContext (s : State) : State :=
  match s.osq.context with
  | none => s
  | some x =>
    if x.state == .running || x.state == .holding then
      (s.withdrawAll.modCtx (fun y => { y with state := .aborted })).event (.operationEnded x.op false)
    else s

/-- A new RUNNING context at the start of an operation's list (R114, R135). -/
def newContext (op : Nat) (d : OpDef) (origin : Station) (reversed : Option Nat) (stamp : Word32) : Context :=
  { op := op, name := d.name, origin := origin, reversed := reversed, pointer := { list := d.list, index := 0 }, start := stamp }

/-- The reverse operation of the context and its definition, where both are defined (R134). -/
def State.reverseOf (s : State) (x : Context) : Option (Nat × OpDef) :=
  match (tget s.layout.operations x.op).bind (fun d => d.reverse) with
  | some r => (tget s.layout.operations r).map (fun d => (r, d))
  | none => none

/-- A reversal replaces the context (R135). -/
def State.reversal (origin : Station) (s : State) : State :=
  match s.osq.context with
  | none => s
  | some x =>
    match s.reverseOf x with
    | none => s
    | some (r, d) =>
      let s1 := s.withdrawAll.event (.operationEnded x.op false)
      let s2 := { s1 with osq := { s1.osq with context := some (newContext r d origin (some x.op) s.aeu.stamp) } }
      emit .issue (s2.event (.reversed r x.op))

/-- A step of a RUNNING context that fails with on-fail REVERSE may be reversed automatically (R136). -/
def State.autoReverse (s : State) (x : Context) : Bool :=
  x.state == .running && x.reversed.isNone &&
    match s.reverseOf x with
    | some (_, d) => d.modes.contains s.amu.mode
    | none => false

/-! ### Failure of a step -/

/-- The step at a place of the in-flight list fails (R124, R136). DESIGN CHOICE (assumption 32): a WAIT that has expired shows no remaining time. -/
def State.failEntry (k : Nat) (cause : FailCause) (s : State) : State :=
  match s.osq.context, s.inFlight[k]? with
  | some x, some e =>
    let s1 := s.modEntry k (fun y => { y with state := .failed, cause := some cause, remaining := none, due := false })
    let held := s1.giveCause { kind := .stepFailed, subject := .step e.ref }
    match e.step.onFail with
    | .hold => held
    | .reverse => if s.autoReverse x then s1.reversal x.origin else held
  | _, _ => s

/-! ### Outcomes -/

/-- The place of the entry that holds a motion id. -/
def State.slotOf (s : State) (m : Nat) : Option Nat := s.inFlight.findIdx? (fun e => e.motion == some m)

/-- How a motion ended, from the record that LDU or ADU keeps. -/
def State.motionEnd (s : State) (m : Nat) : Option (MotionState × Option FailCause) :=
  match s.ldu? m, s.adu? m with
  | some g, _ => some (g.state, g.cause)
  | none, some a => some (a.state, a.cause)
  | none, none => none

/-- The entry at a place is FAILED already: its outcome has been taken. -/
def State.entryFailed (s : State) (k : Nat) : Bool := s.inFlight[k]?.any (fun e => e.state == .failed)

/-- A unit reports an outcome (R122, R124); an id that no entry holds, or whose outcome has been taken, changes nothing. -/
def State.takeOutcome (m : Nat) (s : State) : State :=
  match s.slotOf m, s.motionEnd m with
  | some k, some (.done, _) => s.completeEntry k
  | some k, some (.failed, some c) => if s.entryFailed k then s else s.failEntry k c
  | _, _ => s

/-- The unit has failed the motion (R124). -/
def State.motionFailed (s : State) (m : Nat) : Bool := s.motionEnd m |>.any (fun x => x.1 == .failed)

/-! ### Issue -/

/-- The motion id OSQ gives next (R112). -/
def freeMotion (next : Nat) (es : List Entry) : Nat :=
  (((List.range 7).map (fun k => (next + k) % 7)).find? (fun i => es.all (fun e => e.motion != some i))).getD 0

/-- The target position of a MOVE_AXIS step (R88). -/
def State.targetOf (s : State) (i : Nat) (t : Target) : Nat :=
  resolveTarget (((s.layout.axis? i).map (fun d => d.travel)).getD 0) t

/-- The satisfied-on-issue rule (R117); FLOAT_AXIS is taken by its owner. -/
def State.satisfied (s : State) : StepKind → Bool
  | .driveGroup g d => (s.driveSet g d).isEmpty
  | .moveAxis i t l => s.moveSatisfied i (s.targetOf i t) l
  | .floatAxis _ => false
  | .wait c w _ => s.cond c == Tri.ofBool w
  | .pause _ => false
  | .call _ => false

/-- The first unsatisfied condition of the permissive a step is asked about at issue (R50, R90). -/
def State.stepPermissive (s : State) : StepKind → Option Nat
  | .driveGroup g d => s.permissive (.group g d)
  | .moveAxis i t _ =>
    let T := s.targetOf i t
    if (s.position i).isSome && !s.targetProtected i T then s.permissive (.axis i (s.moveDir i T)) else none
  | .floatAxis _ => none
  | .wait _ _ _ => none
  | .pause _ => none
  | .call _ => none

/-- A DRIVE_GROUP or MOVE_AXIS step is handed to its unit (R74, R91, R112); none where the claim is refused. -/
def State.tryIssue (ref : StepRef) (k : StepKind) (s : State) : Option (Nat × State) :=
  let m := freeMotion s.osq.nextMotion s.inFlight
  let r := match k with
    | .driveGroup g d => s.lduIssue m ref g d (s.driveSet g d)
    | .moveAxis i t l => s.aduIssue m ref i (s.targetOf i t) l
    | .floatAxis _ => none
    | .wait _ _ _ => none
    | .pause _ => none
    | .call _ => none
  r.map (fun x => (m, { x with osq := { x.osq with nextMotion := (m + 1) % 7 } }))

/-- The pointer advances to the next index of its list (R115). -/
def State.stepOn (s : State) : State := s.modCtx (fun x => { x with pointer := { x.pointer with index := x.pointer.index + 1 } })

/-- The step at the pointer has issued: the pointer advances and the attempt goes on (R115). -/
def State.advance (s : State) : State := emit .issue s.stepOn

/-- The step at the pointer has issued as motion `m`: the pointer advances. A motion that its unit failed at issue fails its step at once, before the
points it frees are handed over, and the attempt ends (R115, R124; assumption 27). -/
def State.issued (m : Nat) (s : State) : State :=
  if s.motionFailed m then s.stepOn.takeOutcome m else s.advance

/-- OSQ takes the step at the pointer through the stages of R116. -/
def State.takeStep (x : Context) (st : Step) (s : State) : State :=
  if st.join == .afterAll && !x.inFlight.isEmpty then s
  else if s.satisfied st.kind then s.advance
  else if st.kind.needsRoom && decide (x.inFlight.length ≥ Config.inFlightMax) then s
  else
    match s.stepPermissive st.kind with
    | some c => s.giveCause (permissiveCause c)
    | none =>
      match st.kind with
      | .floatAxis i =>
        match s.floatEntry i with
        | some s1 => s1.advance
        | none => s
      | .call l =>
        emit .issue (s.modCtx (fun y =>
          { y with stack := y.stack ++ [{ list := x.pointer.list, index := x.pointer.index + 1 }]
                   pointer := { list := l, index := 0 } }))
      | .wait _ _ limit =>
        (s.addEntry { ref := x.pointer, step := st, remaining := if limit = 0 then none else some limit }).advance
      | .pause t => (s.addEntry { ref := x.pointer, step := st, remaining := some t }).advance
      | .driveGroup _ _ =>
        match s.tryIssue x.pointer st.kind with
        | some (m, s1) => (s1.addEntry { ref := x.pointer, step := st, motion := some m }).issued m
        | none => s
      | .moveAxis _ _ _ =>
        match s.tryIssue x.pointer st.kind with
        | some (m, s1) => (s1.addEntry { ref := x.pointer, step := st, motion := some m }).issued m
        | none => s

/-- One turn of an issue attempt (R115, R123). While RESUME has entries to take, the attempt waits for their end (R133). -/
def State.issueTurn (s : State) : State :=
  match s.osq.context with
  | none => s
  | some x =>
    if x.state == .running && !x.inFlight.any (fun e => e.due) then
      match ((tget s.layout.lists x.pointer.list).getD [])[x.pointer.index]? with
      | some st => s.takeStep x st
      | none =>
        match x.stack.getLast? with
        | some f => emit .issue (s.modCtx (fun y => { y with stack := y.stack.dropLast, pointer := f }))
        | none =>
          if x.inFlight.isEmpty then
            (s.modCtx (fun y => { y with state := .complete })).event (.operationEnded x.op true)
          else s
    else s

/-! ### Resumption -/

/-- The permissive that an accepted RESUME asks for an entry (R133). -/
def State.resumePermissive (s : State) (e : Entry) : Option Nat :=
  match e.step.kind with
  | .driveGroup g d => if (s.driveSet g d).isEmpty then none else s.permissive (.group g d)
  | .moveAxis i t l =>
    let T := s.targetOf i t
    if s.moveSatisfied i T l || (s.position i).isNone then none else s.permissive (.axis i (s.moveDir i T))
  | .floatAxis _ => none
  | .wait _ _ _ => none
  | .pause _ => none
  | .call _ => none

/-- An accepted RESUME: causes cleared, permissives re-checked before anything moves, entries marked to be re-issued (R133). -/
def State.resumeAccepted (s : State) : State :=
  match s.osq.context with
  | none => s
  | some x =>
    let s1 := (s.modCtx (fun y => { y with causes := [] })).event (.resumed x.op)
    match x.inFlight.findSome? s.resumePermissive with
    | some c =>
      (s1.modCtx (fun y => { y with causes := [permissiveCause c] })).event (.hold (permissiveCause c))
    | none =>
      emit .reissue (s1.modCtx (fun y =>
        { y with state := .running, inFlight := y.inFlight.map (fun e => { e with due := true }) }))

/-- A step is issued afresh at stages 2 to 5 of R116 in place of an entry (R133). A step that its permissive stops keeps its entry
(assumption 16), and one that its unit fails at issue fails at once (R124; assumption 27). -/
def State.freshStep (k : Nat) (e : Entry) (s : State) : State :=
  if s.satisfied e.step.kind then s.removeEntry k
  else
    match s.stepPermissive e.step.kind with
    | some c => s.giveCause (permissiveCause c)
    | none =>
      let s0 := s.removeEntry k
      match e.step.kind with
      | .wait _ _ limit => s0.addEntry { ref := e.ref, step := e.step, remaining := if limit = 0 then none else some limit }
      | .driveGroup _ _ =>
        match s0.tryIssue e.ref e.step.kind with
        | some (m, s1) => (s1.addEntry { ref := e.ref, step := e.step, motion := some m }).takeOutcome m
        | none => s0.addEntry { ref := e.ref, step := e.step }
      | .moveAxis _ _ _ =>
        match s0.tryIssue e.ref e.step.kind with
        | some (m, s1) => (s1.addEntry { ref := e.ref, step := e.step, motion := some m }).takeOutcome m
        | none => s0.addEntry { ref := e.ref, step := e.step }
      | .pause t => s0.addEntry { ref := e.ref, step := e.step, remaining := some t }
      | .floatAxis _ => s0
      | .call _ => s0

/-- RESUME re-issues one entry (R133); a motion that its unit finds DONE or FAILED at once is taken so at once (R122, R124; assumption 27). -/
def State.reissueEntry (k : Nat) (e : Entry) (s : State) : State :=
  match e.state, e.motion with
  | .active, _ => s
  | .failed, _ => s.freshStep k e
  | .halted, some m => (((s.modEntry k (fun y => { y with state := .active })).lduReissue m).aduReissue m).takeOutcome m
  | .halted, none =>
    match e.step.kind with
    | .wait c w _ =>
      if s.cond c == Tri.ofBool w then s.removeEntry k else s.modEntry k (fun y => { y with state := .active })
    | .pause _ => s.modEntry k (fun y => { y with state := .active })
    | .driveGroup _ _ => s.freshStep k e
    | .moveAxis _ _ _ => s.freshStep k e
    | .floatAxis _ => s
    | .call _ => s

/-- RESUME takes its next entry, and makes an issue attempt after the last (R133). -/
def State.reissueTurn (s : State) : State :=
  match s.osq.context with
  | none => s
  | some x =>
    if x.state == .running then
      match x.inFlight.findIdx? (fun e => e.due) with
      | none => emit .issue s
      | some k =>
        match x.inFlight[k]? with
        | none => s
        | some e => emit .reissue ((s.modEntry k (fun y => { y with due := false })).reissueEntry k e)
    else s

/-! ### Freed points -/

/-- An entry that waits for its points (R133). -/
def Entry.waiting (e : Entry) : Bool :=
  e.state == .active && e.motion.isNone &&
    match e.step.kind with
    | .driveGroup _ _ => true
    | .moveAxis _ _ _ => true
    | .floatAxis _ => false
    | .wait _ _ _ => false
    | .pause _ => false
    | .call _ => false

/-- The claim is offered again to the first waiting entry at or after a place; an issue attempt follows the last (R133). DESIGN CHOICE
(assumption 16): the offer takes the step through stages 2, 4 and 5 of R116 again, so an entry whose step has come to be satisfied
completes and leaves the list without a claim, and the permissive is asked again. -/
def State.offerTurn (k : Nat) (s : State) : State :=
  match s.osq.context with
  | none => s
  | some x =>
    if x.state == .running then
      match (List.range x.inFlight.length).find? (fun i => decide (k ≤ i) && x.inFlight[i]?.any Entry.waiting) with
      | none => emit .issue s
      | some i =>
        match x.inFlight[i]? with
        | none => s
        | some e =>
          if s.satisfied e.step.kind then emit (.offer i) (s.removeEntry i)
          else
            match s.stepPermissive e.step.kind with
            | some c => s.giveCause (permissiveCause c)
            | none =>
              match s.tryIssue e.ref e.step.kind with
              | some (m, s1) => emit (.offer (i + 1)) ((s1.modEntry i (fun y => { y with motion := some m })).takeOutcome m)
              | none => emit (.offer (i + 1)) s
    else s

/-! ### Waits -/

/-- The changed conditions complete the entry (R120). -/
def Entry.completedBy (changed : List (Nat × Tri)) (e : Entry) : Bool :=
  e.state == .active &&
    match e.step.kind with
    | .wait c w _ => changed.any (fun x => x.1 == c && x.2 == Tri.ofBool w)
    | .driveGroup _ _ => false
    | .moveAxis _ _ _ => false
    | .floatAxis _ => false
    | .pause _ => false
    | .call _ => false

/-- Every ACTIVE WAIT that the changed conditions complete leaves the list, and an issue attempt follows (R120, R122). -/
def State.takeWaits (changed : List (Nat × Tri)) (s : State) : State :=
  if s.running && s.inFlight.any (Entry.completedBy changed) then
    emit .issue (s.modCtx (fun x => { x with inFlight := x.inFlight.filter (fun e => !e.completedBy changed) }))
  else s

/-- A WAIT's limit expires (R120). -/
def State.waitOut (k : Nat) (s : State) : State :=
  match s.inFlight[k]? with
  | some e =>
    match e.step.kind with
    | .wait _ _ _ => if e.state == .active && e.remaining.isSome then s.failEntry k .waitExpired else s
    | .driveGroup _ _ => s
    | .moveAxis _ _ _ => s
    | .floatAxis _ => s
    | .pause _ => s
    | .call _ => s
  | none => s

/-- A PAUSE ends (R121). -/
def State.pauseOut (k : Nat) (s : State) : State :=
  match s.inFlight[k]? with
  | some e =>
    match e.step.kind with
    | .pause _ => if e.state == .active && e.remaining.isSome then s.completeEntry k else s
    | .driveGroup _ _ => s
    | .moveAxis _ _ _ => s
    | .floatAxis _ => s
    | .wait _ _ _ => s
    | .call _ => s
  | none => s

/-! ### The permissive watch -/

/-- One watched motion: an unsatisfied entry is reported and holds the operation (R51). -/
def State.watchOne (changed : List (Nat × Tri)) (w : Option Subject) (s : State) : State :=
  match w with
  | none => s
  | some subj =>
    if s.watchTouched changed subj then
      match s.permissive subj with
      | some c => s.giveCause (permissiveCause c)
      | none => s
    else s

/-- LDU and ADU take a set of changed conditions for the motions they watch, then OSQ takes it for its WAIT steps (R37, R51, R120). DESIGN CHOICE
(assumption 26): LDU's motions report in rising motion id, then ADU's, which fixes whose condition is the subject of a PERMISSIVE cause that two of
them give. AEU has taken the same handover before them (assumption 39). -/
def State.takeChanged (changed : List (Nat × Tri)) (s : State) : State :=
  let ws := (s.ldu.motions.filter (fun e => e.2.state.live)).map (fun e => e.2.watched) ++
    (s.adu.motions.filter (fun e => e.2.state.live)).map (fun e => e.2.watched)
  emit (.waits changed) (ws.foldl (fun x w => x.watchOne changed w) s)

/-! ### The jog -/

/-- Changes the jog record. -/
def State.modJog (f : Jog → Jog) (s : State) : State := { s with osq := { s.osq with jog := s.osq.jog.map f } }

/-- The outputs of a jog go off: its coil, or both outputs of its axis (R141). -/
def State.jogOff (j : Jog) (s : State) : State :=
  match j.dir with
  | .lock d => s.driveLock Config.jogMotion j.point d false
  | .axis _ => s.zeroProps j.point

/-- The drive state of a jogged axis that does not drive. -/
def State.jogRest (j : Jog) (s : State) : State :=
  match j.dir with
  | .lock _ => s
  | .axis _ => s.restDrive j.point

/-- A jog ends (R141); one already ENDED is left. DESIGN CHOICE (assumption 28): the ended record (R138) holds no granted flow and no remaining time. -/
def State.endJog (cause : JogEnd) (s : State) : State :=
  match s.osq.jog with
  | none => s
  | some j =>
    if j.phase == .ended then s
    else
      let s1 := (((s.jogOff j).giveUpFlow Config.jogMotion).release Config.jogMotion).jogRest j
      s1.modJog (fun x => { x with phase := .ended, granted := none, timer := none, cause := some cause })

/-- The jog already stands where it would take its point (R138). -/
def State.jogThere (s : State) (p : Nat) : JogDir → Bool
  | .lock d => s.confirmed p == d.target
  | .axis .opening => (s.axis? p).any (fun y => y.zone == .openEnd)
  | .axis .closing => (s.axis? p).any (fun y => y.zone == .closedEnd)

/-- A healthy transducer stands beyond the overtravel band on the side of a direction (R140). -/
def State.overtravelAhead (s : State) (d : AxisDef) : AxisDir → Bool
  | .opening => (s.unclampedAll d).any (fun u => decide (u > (d.travel : Int) + Config.overtravel))
  | .closing => (s.unclampedAll d).any (fun u => decide (u < -Config.overtravel))

/-- ADU's check of a driving axis jog (R140). -/
def State.jogCheck (s : State) : State :=
  match s.osq.jog with
  | none => s
  | some j =>
    match j.phase, j.dir, s.layout.axis? j.point with
    | .driving, .axis dir, some d =>
      if (s.position j.point).isNone then s.endJog .positionLost
      else if s.jogThere j.point (.axis dir) then s.endJog .completed
      else if s.overtravelAhead d dir then s.endJog .overtravel
      else s.driveAxis Config.jogMotion d dir d.vMin
    | _, _, _ => s

/-- A jog receives its grant (R138, R139, R140); one that has ended releases it (R67). -/
def State.jogGrant (s : State) : State :=
  match s.osq.jog, s.hpa.grantOf Config.jogMotion with
  | some j, some q =>
    if j.phase == .ended then s.giveUpFlow Config.jogMotion
    else
      let s1 := s.modJog (fun x =>
        { x with phase := .driving, granted := some q.flow, timer := some (x.timer.getD x.duration) })
      match j.dir with
      | .lock d => s1.driveLock Config.jogMotion j.point d true
      | .axis _ => ((s1.floatEnd j.point).setDrive j.point .driving).jogCheck
  | _, _ => s.giveUpFlow Config.jogMotion

/-- A jog loses its grant: its outputs go off and it waits again (R139, R140). -/
def State.jogRevoked (s : State) : State :=
  match s.osq.jog with
  | none => s
  | some j =>
    if j.phase == .driving then
      ((s.jogOff j).jogRest j).modJog (fun x => { x with phase := .waitingFlow, granted := none })
    else s

/-- PMN hands over a confirmed state of the jogged lock (R139). -/
def State.jogMoved (p : Nat) (s : State) : State :=
  match s.osq.jog with
  | none => s
  | some j =>
    match j.dir with
    | .lock d => if j.phase != .ended && j.point == p && s.confirmed p == d.target then s.endJog .completed else s
    | .axis _ => s

/-- The jog's duration timer expires (R139, R140). -/
def State.jogOut (s : State) : State :=
  match s.osq.jog with
  | none => s
  | some j => if j.phase != .ended && j.timer.isSome then s.endJog .expired else s

/-! ### What other blocks report to OSQ -/

/-- Authority has passed away from a station (R130, R141). -/
def State.authorityLost (st : Station) (s : State) : State :=
  let s1 := if s.running then s.giveCause { kind := .authorityLost, subject := .station st } else s
  if s1.osq.jog.any (fun j => j.station == st) then s1.endJog .authorityLost else s1

/-- A TRAVEL motion of the context is DRIVING (R130). -/
def State.travelDriving (s : State) : Bool := s.adu.motions.any (fun e => e.2.state == .driving)

/-- Hold-to-run has lapsed (R130, R141). -/
def State.runLapsed (s : State) : State :=
  let s1 := if s.travelDriving then s.giveCause s.runReleasedCause else s
  s1.endJog .runReleased

/-- The emergency stop is ACTIVE (R131, R141). -/
def State.osqStop (s : State) : State := (s.endJog .estop).giveCause { kind := .estop, subject := .nothing }

end Sys2Proof.Machine
end

