-- ==== Sys2Proof/Machine/Tasks.lean ====
section
/-! DEFINITION. Machine/Tasks.lean: the reports between the blocks, settled within the step that makes them (assumption 2). -/
namespace Sys2Proof.Machine

/-- A request's wait has run out, or its flow is gone: a motion of LDU, of ADU, or the jog (R62, R85, R103, R141). -/
def State.noFlow (m : Nat) (s : State) : State :=
  if m = Config.jogMotion then s.endJog .noFlow else (s.lduNoFlow m).aduNoFlow m

/-- HPA hands a grant to the unit of its motion; a grant that no unit wants is released at once (R67). -/
def State.handGrant (m : Nat) (s : State) : State :=
  if m = Config.jogMotion then s.jogGrant
  else if (s.ldu? m).isSome then s.lduGrant m
  else if (s.adu? m).isSome then s.aduGrant m
  else s.giveUpFlow m

/-- HPA tells a motion's unit that its grant is revoked (R68). -/
def State.tellRevoked (m : Nat) (s : State) : State :=
  if m = Config.jogMotion then s.jogRevoked else s.haltMotion m .noFlow

/-- HPA tells a motion's unit that its flow is withdrawn (R69, R84, R101). -/
def State.tellWithdrawn (m : Nat) (s : State) : State :=
  if m = Config.jogMotion then s.jogRevoked else s.haltMotion m .hold

/-- PMN hands a lock's changed confirmed state to the unit of the motion that reserves it (R25). Of two members in
CONFLICT at one sample under STOP_GROUP only the first reports its fault, DESIGN CHOICE (assumption 31). -/
def State.tellMoved (p : Nat) (s : State) : State :=
  match s.reservedBy p with
  | none => s
  | some m => if m = Config.jogMotion then s.jogMoved p else s.lduMoved m p

/-- PMN hands a fault report to the unit of the motion that reserves the point (R13); a jog goes on (R139). -/
def State.tellFault (p : Nat) (code : FaultCode) (fresh : Bool) (s : State) : State :=
  match s.reservedBy p with
  | none => s
  | some m => if m = Config.jogMotion then s else (s.lduFault m p code fresh).aduFault m p code fresh

/-- One report is taken. -/
def runTask : Task → State → State
  | .pass, s => s.grantPass
  | .feedback p on, s => s.pumpFeedback p on
  | .granted m, s => s.handGrant m
  | .revoked m, s => s.tellRevoked m
  | .reduced m, s => s.aduReduced m
  | .withdrawn m, s => s.tellWithdrawn m
  | .changed cs, s => s.takeChanged cs
  | .waits cs, s => s.takeWaits cs
  | .freed, s => s.offerTurn 0
  | .offer k, s => s.offerTurn k
  | .issue, s => s.issueTurn
  | .reissue, s => s.reissueTurn
  | .outcome m, s => s.takeOutcome m
  | .cause c, s => s.giveCause c
  | .lockMoved p, s => s.tellMoved p
  | .faulted p code fresh, s => s.tellFault p code fresh
  | .floatRecord p, s => s.floatEval p
  | .interval m, s => s.aduInterval m
  | .jogCheck, s => s.jogCheck

/-- PMN hands a unit a point's record: a fault report (R13), or the record of a floating axis (R8). -/
def Task.ofRecord : Task → Bool
  | .faulted _ _ _ => true
  | .floatRecord _ => true
  | _ => false

/-- Reports are settled in the order they were made; what one report gives rise to is settled before the next. Of point records handed over one
after another every unit takes its own first: each motion with a point in a bank that goes off for STUCK fails before any outcome reaches OSQ
(R146). DESIGN CHOICE (assumption 2): of several motions that one run of such records faults, what the last record gives rise to is settled
first, so its outcome or POINT_FAULT gives the hold cause its subject (R124 and R127 let either be first). -/
def settle : Nat → List Task → State → State
  | _, [], s => s
  | 0, t :: ts, s => { s with todo := t :: ts }
  | n + 1, t :: ts, s =>
    let s1 := runTask t s
    let records := if t.ofRecord then ts.takeWhile Task.ofRecord else []
    settle n (records ++ s1.todo ++ ts.drop records.length) { s1 with todo := [] }

/-- Settles the reports a command has made; nothing is left over within the bound of Config. -/
def finish (s : State) : State := settle Config.settleFuel s.todo { s with todo := [] }

end Sys2Proof.Machine
end

