-- ==== Sys2Proof/Machine/Amu.lean ====
section
/-! DEFINITION. Machine/Amu.lean: the Authority and Mode Unit: change of holder (R178), hold-to-run (R180), consent (R46, R47), mode change
(R158), link silence (R179), and the checks that every record passes before its rule (R175). -/
namespace Sys2Proof.Machine

/-! ### Edit buffer -/

/-- LST drops the edit buffer (R184). -/
def State.dropBuffer (s : State) : State := { s with lst := { s.lst with buffer := none } }

/-- A discard when authority passes away from a station: of the buffer that station opened (R178, R184). -/
def State.dropBufferOf (st : Station) (s : State) : State :=
  if s.lst.buffer.any (fun b => b.owner == st) then s.dropBuffer else s

/-- A region is admitted in a mode (R184). -/
def regionAdmitted (r : Region) (m : Mode) : Bool :=
  match r with
  | .tuning => m != .sea
  | .struct => m == .maintenance

/-! ### Control authority -/

/-- A change of holder and its consequences, in order (R178). -/
def State.changeHolder (new : Holder) (s : State) : State :=
  let old := s.amu.holder
  if new == old then s
  else
    let s1 := { s with amu := { s.amu with holder := new, runTimer := none } }
    let s2 := s1.event (.authorityChanged new old)
    match old.station? with
    | some st => (s2.authorityLost st).dropBufferOf st
    | none => s2

/-- A record with RUN set from the holder restarts hold-to-run (R180). -/
def State.takeRun (st : Station) (run : Bool) (s : State) : State :=
  if run && s.holds st then { s with amu := { s.amu with runTimer := some Config.holdToRunTime } } else s

/-! ### Consent and mode -/

/-- AMU sets consent and CEV recomputes c3 (R37, R46, R47). -/
def State.setConsent (on : Bool) (s : State) : State :=
  if s.amu.consent == on then s else { s with amu := { s.amu with consent := on } }.recompute [3]

/-- The points of the 48 (R1) that have a fault, in ascending index. -/
def State.faultedPoints (s : State) : List Nat := (List.range 48).filter (fun i => (s.faultOf i).isSome)

/-- A change of mode is carried out (R158); an edit buffer that the new mode does not admit is discarded (R184). DESIGN CHOICE (assumption 36):
a closure that the change to SEA itself loses is taken at the closure handover, before MODE_CHANGED. -/
def State.changeMode (new : Mode) (s : State) : State :=
  let old := s.amu.mode
  let s1 := { s with amu := { s.amu with mode := new, consent := false } }.recompute [3, 7]
  let s2 := s1.event (.modeChanged new old)
  let s3 := if new == .sea then s2.faultedPoints.foldl (fun x p => x.raise .pointFault p) s2 else s2
  let s4 := s3.supervise
  let s5 := if old == .sea && new != .sea then s4.withAeu (fun a => (a.clearKind .closureLost).clearKind .lockMovedAtSea) else s4
  if s5.lst.buffer.any (fun b => !regionAdmitted b.region new) then s5.dropBuffer else s5

/-! ### Link silence -/

/-- A link's silence timer expires (R179). -/
def State.linkSilent (st : Station) (s : State) : State :=
  if (s.link st).silence.isSome then
    let s1 := s.modLink st (fun l => { l with silence := none, active := false })
    let s2 := if s1.holds st then s1.changeHolder .none else s1
    match st with
    | .bridge => (s2.setConsent false).raise .bridgeLinkLost 0
    | .stand => s2
  else s

/-- A frame has passed its CRC: the silence timer restarts and the link is ACTIVE (R179). -/
def State.linkHeard (st : Station) (s : State) : State :=
  let s1 := s.modLink st (fun l => { l with silence := some Config.silenceTime, active := true })
  match st with
  | .bridge => if (s.link .bridge).active then s1 else s1.clearAlarm .bridgeLinkLost 0
  | .stand => s1

/-- The hold-to-run timer expires (R180). -/
def State.runOut (s : State) : State :=
  if s.amu.runTimer.isSome then { s with amu := { s.amu with runTimer := none } }.runLapsed else s

/-! ### The checks before a record's rule -/

/-- How a kind is served in a BUSY period and while UNCONFIGURED (R175, R188). -/
structure Service where
  /-- Answered BUSY during commit WRITING and the start-up check. -/
  busy : Bool
  /-- Served while the part is UNCONFIGURED. -/
  bare : Bool
deriving DecidableEq, Repr

/-- What the rule of a record answers: the state, the result code and the fields that follow it. -/
abbrev Answer := State × Result × List Byte

/-- An answer that changes nothing. -/
def State.refuse (r : Result) (s : State) : Answer := (s, r, [])

/-- An answer OK without fields. -/
def State.accept (s : State) : Answer := (s, .ok, [])

/-- Keeps the reply record of a record on its link (R174). -/
def State.setReply (st : Station) (kind : Byte) (r : Result) (fields : List Byte) (s : State) : State :=
  s.modLink st (fun l => { l with reply := some { kind := kind, result := r, fields := fields } })

/-- A record is taken (R175): hold-to-run first (R180), then the BUSY period and the UNCONFIGURED check, then the rule of its kind. What
the rule sets going is settled before the reply is kept. While the reset input is energized the links are deaf (R187). -/
def State.serve (st : Station) (run : Bool) (kind : Nat) (v : Service) (rule : State → Answer) (s : State) : State :=
  if s.held then s
  else
    let s0 := s.takeRun st run
    let a :=
      if v.busy && s0.busyPeriod then s0.refuse .busy
      else if !v.bare && s0.lst.phase == .unconfigured then s0.refuse .refusedState
      else rule s0
    (finish a.1).setReply st (BitVec.ofNat 8 (kind + 128)) a.2.1 a.2.2

/-- Served always: the STATUS and READ_ records and RELEASE_CONTROL. -/
def Service.always : Service := { busy := false, bare := true }
/-- Served in a BUSY period, not while UNCONFIGURED. -/
def Service.work : Service := { busy := false, bare := false }
/-- Not served in a BUSY period, served while UNCONFIGURED: CLAIM_CONTROL and the LAYOUT records. -/
def Service.setup : Service := { busy := true, bare := true }
/-- Served neither in a BUSY period nor while UNCONFIGURED. -/
def Service.full : Service := { busy := true, bare := false }

/-! ### Effects of commands that are no records -/

/-- An event of the part takes effect unless the reset input is energized (R187); what it sets going is settled within it. -/
def State.act (f : State → State) (s : State) : State := if s.held then s else finish (f s)

end Sys2Proof.Machine
end

