-- ==== Sys2Proof/Machine/Expiry.lean ====
section
/-! DEFINITION. Machine/Expiry.lean: the time stamp counter with the timers it carries (R167, assumption 1), and the expiry of each
timer of CEV, HPA, LDU, ADU, OSQ, SLI and AMU. An expiry of a timer that does not run changes nothing. -/
namespace Sys2Proof.Machine

/-! ### A tenth of a second -/

/-- The timers of a link. -/
def Link.tick (l : Link) : Link := { l with silence := tickTimer l.silence }

/-- The timers of a member. -/
def Member.tick (e : Member) : Member := { e with travel := tickTimer e.travel, back := tickTimer e.back }

/-- The timers of an axis move. -/
def AxisMotion.tick (a : AxisMotion) : AxisMotion :=
  { a with travel := tickTimer a.travel, settle := tickTimer a.settle, stall := a.stall.map (fun w => { w with left := w.left - 1 }) }

/-- The timer of an in-flight entry runs while the entry is ACTIVE (R120, R121). -/
def Entry.tick (e : Entry) : Entry := if e.state == .active then { e with remaining := tickTimer e.remaining } else e

/-- The timers of a point: a lock's conflict timer. -/
def PointDyn.tick : PointDyn → PointDyn
  | .lock d => .lock { d with conflict := tickTimer d.conflict }
  | .axis d => .axis d

/-- Every running timer of the part counts a tenth of a second (assumption 1). -/
def State.tickTimers (s : State) : State :=
  { s with
    sli := { s.sli with bridge := s.sli.bridge.tick, stand := s.sli.stand.tick }
    amu := { s.amu with runTimer := tickTimer s.amu.runTimer }
    isc := { s.isc with analog := tmap (fun _ (a : Analog) => { a with recovery := tickTimer a.recovery }) s.isc.analog }
    pmn := { points := tmap (fun _ d => PointDyn.tick d) s.pmn.points }
    cev := { s.cev with staleness := tickTimer s.cev.staleness }
    hpa := { s.hpa with
      pumps := tmap (fun _ (p : Pump) => { p with start := tickTimer p.start, runDown := tickTimer p.runDown }) s.hpa.pumps
      requests := s.hpa.requests.map (fun r => { r with wait := r.wait - 1 })
      idle := tickTimer s.hpa.idle }
    ldu := { motions := tmap (fun _ (g : GroupMotion) => { g with members := g.members.map Member.tick }) s.ldu.motions }
    adu :=
      { motions := tmap (fun _ (a : AxisMotion) => a.tick) s.adu.motions
        floats := tmap (fun _ (f : FloatRec) => { f with liftTimer := tickTimer f.liftTimer }) s.adu.floats }
    osq := { s.osq with
      context := s.osq.context.map (fun x => { x with inFlight := x.inFlight.map Entry.tick })
      jog := s.osq.jog.map (fun j => { j with timer := tickTimer j.timer }) }
    ost := { s.ost with discrepancy := tickTimer s.ost.discrepancy } }

/-- The time stamp counter rises by 1, wrapping to 0 (R167); in reset it alone runs on (R187). -/
def State.tick (s : State) : State :=
  let s1 := if s.held then s else s.tickTimers
  { s1 with aeu := { s1.aeu with stamp := s.aeu.stamp + 1 } }

/-- TIME_STAMP_TICK (R167). -/
def execTimeStampTick (s : State) : Host.Outcome State Fault Refusal := .next s.tick

/-! ### CEV -/

/-- The vessel data go STALE (R43). -/
def State.staleOut (s : State) : State :=
  if s.cev.staleness.isSome then
    ({ s with cev := { s.cev with freshness := .stale, staleness := none } }.recompute [1, 2]).raise .vesselDataLost 0
  else s

/-- STALENESS_TIMER_EXPIRY (R43). -/
def execStalenessTimerExpiry (s : State) : Host.Outcome State Fault Refusal := .next (s.act State.staleOut)

/-! ### HPA -/

/-- START_TIMER_EXPIRY (R55). -/
def execStartTimerExpiry (pump : Nat) (s : State) : Host.Outcome State Fault Refusal := .next (s.act (State.startExpiry pump))

/-- RUN_DOWN_TIMER_EXPIRY (R55). -/
def execRunDownTimerExpiry (pump : Nat) (s : State) : Host.Outcome State Fault Refusal := .next (s.act (State.runDownExpiry pump))

/-- The idle timer expires (R60). -/
def State.idleOut (s : State) : State := if s.hpa.idle.isSome then s.stopPumps else s

/-- IDLE_TIMER_EXPIRY (R60). -/
def execIdleTimerExpiry (s : State) : Host.Outcome State Fault Refusal := .next (s.act State.idleOut)

/-- A request's wait timer expires (R62). -/
def State.flowWaitOut (m : Nat) (s : State) : State :=
  if (s.hpa.entryOf m).isSome then (s.giveUpFlow m).noFlow m else s

/-- FLOW_WAIT_EXPIRY (R62). -/
def execFlowWaitExpiry (motion : Nat) (s : State) : Host.Outcome State Fault Refusal := .next (s.act (State.flowWaitOut motion))

/-! ### LDU -/

/-- MEMBER_TRAVEL_TIMEOUT (R77). -/
def execMemberTravelTimeout (motion point : Nat) (s : State) : Host.Outcome State Fault Refusal :=
  .next (s.act (State.lduTravelOut motion point))

/-- BACK_OFF_EXPIRY (R78). -/
def execBackOffExpiry (motion point : Nat) (s : State) : Host.Outcome State Fault Refusal :=
  .next (s.act (State.lduBackOut motion point))

/-! ### ADU -/

/-- CONTROL_INTERVAL (R93). -/
def execControlInterval (motion : Nat) (s : State) : Host.Outcome State Fault Refusal := .next (s.act (State.aduInterval motion))

/-- STALL_WINDOW_END (R96). -/
def execStallWindowEnd (motion : Nat) (s : State) : Host.Outcome State Fault Refusal := .next (s.act (State.aduStall motion))

/-- AXIS_TRAVEL_TIMEOUT (R97). -/
def execAxisTravelTimeout (motion : Nat) (s : State) : Host.Outcome State Fault Refusal := .next (s.act (State.aduTravelOut motion))

/-- SETTLE_END (R99). -/
def execSettleEnd (motion : Nat) (s : State) : Host.Outcome State Fault Refusal := .next (s.act (State.aduSettleEnd motion))

/-- LIFT_OFF_TIMER_EXPIRY (R107). -/
def execLiftOffTimerExpiry (point : Nat) (s : State) : Host.Outcome State Fault Refusal := .next (s.act (State.liftOffOut point))

/-! ### OSQ -/

/-- WAIT_STEP_EXPIRY of the in-flight entry at a place (R120). -/
def execWaitStepExpiry (slot : Nat) (s : State) : Host.Outcome State Fault Refusal := .next (s.act (State.waitOut slot))

/-- PAUSE_EXPIRY of the in-flight entry at a place (R121). -/
def execPauseExpiry (slot : Nat) (s : State) : Host.Outcome State Fault Refusal := .next (s.act (State.pauseOut slot))

/-- JOG_DURATION_EXPIRY (R139). -/
def execJogDurationExpiry (s : State) : Host.Outcome State Fault Refusal := .next (s.act State.jogOut)

/-- JOG_AXIS_CHECK (R140). -/
def execJogAxisCheck (s : State) : Host.Outcome State Fault Refusal := .next (s.act State.jogCheck)

/-! ### SLI, AMU -/

/-- SILENCE_TIMER_EXPIRY (R179). -/
def execSilenceTimerExpiry (link : Station) (s : State) : Host.Outcome State Fault Refusal := .next (s.act (State.linkSilent link))

/-- HOLD_TO_RUN_EXPIRY (R180). -/
def execHoldToRunExpiry (s : State) : Host.Outcome State Fault Refusal := .next (s.act State.runOut)

end Sys2Proof.Machine
end

