-- ==== Sys2Proof/Machine/Operands.lean ====
section
/-! DEFINITION. Machine/Operands.lean: the operand forms: clamps, codes of named values (R176) and the ranges that fields are checked
against on arrival (chapters 1, 3, 4, 7, R9, R185). -/
namespace Sys2Proof.Machine

/-! ### Clamps -/

/-- Clamps an integer into a range. -/
def clampInt (lo hi x : Int) : Int := max lo (min hi x)

/-- Heel and pitch as stored (R42). -/
def clampAngle (x : Int) : Int := clampInt (-900) 900 x

/-- Wind as stored (R42). -/
def clampWind (x : Int) : Nat := (clampInt 0 999 x).toNat

/-- The duration of a jog (R138). -/
def clampDuration (d : Nat) : Nat := max 1 (min d 50)

/-- The count of NEWEST_LESS (R169). -/
def clampSeek (n : Nat) : Nat := min n 127

/-! ### Codes that a request carries -/

/-- A mode from its code (R156, R176). -/
def modeOf : Nat → Option Mode
  | 0 => some .harbour
  | 1 => some .sea
  | 2 => some .maintenance
  | _ => none

/-- A region from its code (R183, R176). -/
def regionOf : Nat → Option Region
  | 0 => some .tuning
  | 1 => some .struct
  | _ => none

/-- A lock direction from its code (R176). -/
def lockDirOf : Nat → Option LockDir
  | 0 => some .engage
  | 1 => some .retract
  | _ => none

/-- An axis direction from its code (R176). -/
def axisDirOf : Nat → Option AxisDir
  | 0 => some .opening
  | 1 => some .closing
  | _ => none

/-- The direction of a jog on a point of the active layout (R138). -/
def jogDirOf (l : Layout) (p d : Nat) : Option JogDir :=
  match tget l.points p with
  | some (.lock _) => (lockDirOf d).map JogDir.lock
  | some (.axis _ _) => (axisDirOf d).map JogDir.axis
  | none => none

/-- An alarm kind from its code: its place in the table of 11.1 (R176). -/
def alarmKindOf : Nat → Option AlarmKind
  | 0 => some .closureLost
  | 1 => some .lockMovedAtSea
  | 2 => some .pointFault
  | 3 => some .transducerLost
  | 4 => some .pumpFault
  | 5 => some .estopActive
  | 6 => some .estopDiscrepancy
  | 7 => some .coilBankOff
  | 8 => some .floatLimit
  | 9 => some .rampLiftoff
  | 10 => some .bridgeLinkLost
  | 11 => some .vesselDataLost
  | 12 => some .restart
  | _ => none

/-! ### Ranges on arrival -/

/-- A number lies in a range, both ends included. -/
def inRange (lo hi x : Nat) : Bool := decide (lo ≤ x) && decide (x ≤ hi)

/-- The fields of a LOCK record (R2). -/
def lockInRange (d : LockDef) : Bool :=
  inRange 0 95 d.engagedIn && inRange 0 95 d.retractedIn && inRange 0 47 d.engageCoil && inRange 0 47 d.retractCoil &&
    inRange 1 60 d.flow && inRange 10 300 d.travelLimit

/-- The fields of a transducer (R4). -/
def transducerInRange (t : Transducer) : Bool :=
  inRange 0 11 t.input && inRange 0 4095 t.closedCount && inRange 0 4095 t.openCount

/-- The fields of an AXIS record (R4, R5, R6). A float coil outside 40 to 47 is out of R6's range on arrival, DESIGN CHOICE (assumption 10). -/
def axisInRange (d : AxisDef) : Bool :=
  transducerInRange d.transA && d.transB.all transducerInRange && inRange 100 1200 d.travel && inRange 2 50 d.endBand &&
    inRange 5 100 d.skewLimit && inRange 0 7 d.openOut && inRange 0 7 d.closeOut && inRange 10 400 d.qFull &&
    inRange 50 300 d.vMin && inRange 100 1000 d.vOpen && inRange 100 1000 d.vClose && inRange 10 200 d.approach &&
    inRange 2 20 d.inPos && inRange 1 20 d.settle && inRange 1 20 d.stallDelta && inRange 5 50 d.stallWindow &&
    inRange 50 1800 d.limitOpen && inRange 50 1800 d.limitClose &&
    d.float.all (fun f => inRange 40 47 f.coil && inRange 0 1200 f.low && inRange 0 1200 f.high) &&
    d.tip.all (fun t =>
      inRange 0 11 t.input && inRange 10 5000 t.fullScale && inRange 1 t.fullScale t.landing && inRange 0 t.fullScale t.liftOff)

/-- The fields of a point record. -/
def bodyInRange : PointBody → Bool
  | .lock d => lockInRange d
  | .axis d => axisInRange d

/-- The fields of a travel window (R7); F is at most 1200. -/
def windowInRange (w : Window) : Bool := inRange 0 1200 w.start && inRange 1 1200 w.range && inRange 0 3 w.level

/-- The fields of a group (R10). -/
def groupInRange (g : GroupDef) : Bool :=
  inRange 1 8 g.members.length && g.members.all (inRange 0 47) && inRange 0 7 g.retryLimit && inRange 3 30 g.backOff

/-- The fields of a condition (R39). -/
def conditionInRange (ts : List Term) : Bool :=
  !ts.isEmpty && ts.all (fun t => inRange 0 47 t.point &&
    match t.req with
    | .atLeast x => inRange 0 1200 x
    | .atMost x => inRange 0 1200 x
    | .engaged => true
    | .retracted => true
    | .atClosed => true
    | .atOpen => true)

/-- The fields of a permissive entry (R48); a set holds no id twice (assumption 21). -/
def permInRange (e : PermEntry) : Bool :=
  (match e.subject with
    | .group g _ => inRange 0 11 g
    | .axis p _ => inRange 0 47 p) && e.require.all (inRange 0 31) && e.forbid.all (inRange 0 31) &&
    noRepeat e.require && noRepeat e.forbid

/-- A printable character (R109). DESIGN CHOICE (assumption 29): the manual names no character set; the bytes 20h to 7Eh are taken. -/
def printable (b : Byte) : Bool := inRange 0x20 0x7E b.toNat

/-- The fields of an operation definition (R109); the allowed-mode set holds no mode twice (assumption 21). -/
def opInRange (d : OpDef) : Bool :=
  inRange 1 8 d.name.length && d.name.all printable && !d.modes.isEmpty && noRepeat d.modes && inRange 0 31 d.list && d.reverse.all (inRange 0 15)

/-- The operands of a step (R110). -/
def stepInRange (st : Step) : Bool :=
  match st.kind with
  | .driveGroup g _ => inRange 0 11 g
  | .moveAxis p t _ => inRange 0 47 p &&
    match t with
    | .position x => inRange 0 1200 x
    | .closedEnd => true
    | .openEnd => true
  | .floatAxis p => inRange 0 47 p
  | .wait c _ l => inRange 0 31 c && inRange 0 6000 l
  | .pause t => inRange 1 600 t
  | .call l => inRange 0 31 l

/-- The static fields of a pump (R54). -/
def pumpInRange (p : PumpDef) : Bool := inRange 20 400 p.capacity && inRange 10 150 p.startTime

/-- The header record (R38, R154). -/
def headerInRange (h : Header) : Bool :=
  inRange 0 31 h.visorCond && inRange 0 31 h.innerCond && h.deckClear.all (inRange 0 95) && h.linkspan.all (inRange 0 95)

/-- The tuning record (R18, R41, R58). -/
def tuningInRange (t : Tuning) : Bool :=
  inRange 0 7 t.travelPromotion && inRange 50 1200 t.flowWait && inRange 100 6000 t.idleTime && inRange 5 100 t.heelLimit &&
    inRange 5 100 t.pitchLimit && inRange 1 20 t.attitudeHyst && inRange 50 400 t.windLimit && inRange 1 20 t.windHyst &&
    inRange 10 500 t.debSensor && inRange 10 500 t.debGeneral && inRange 10 500 t.debFeedback

end Sys2Proof.Machine
end

