-- ==== Sys2Proof/Machine/Codec.lean ====
section
/-! DEFINITION. Machine/Codec.lean: record bodies in bytes by the conventions of R176: the forms of fields, the layout records as PUT and
GET carry them (R185), and the reading of request bodies. -/
namespace Sys2Proof.Machine

/-! ### Writing fields -/

/-- A one-byte field. -/
def b1 (n : Nat) : List Byte := [BitVec.ofNat 8 n]

/-- A two-byte number, high byte first. -/
def b2 (n : Nat) : List Byte := [BitVec.ofNat 8 (n / 256), BitVec.ofNat 8 n]

/-- A two-byte number in two's complement. -/
def bInt (x : Int) : List Byte := b2 (BitVec.ofInt 16 x).toNat

/-- A four-byte number. -/
def b4 (w : Word32) : List Byte := b2 (w.toNat / 65536) ++ b2 (w.toNat % 65536)

/-- A set-or-clear item. -/
def bFlag (b : Bool) : List Byte := if b then [1] else [0]

/-- An optional field: a presence byte, then the field when present. -/
def bOpt {α : Type} (f : α → List Byte) : Option α → List Byte
  | some a => 1 :: f a
  | none => [0]

/-- A list: a one-byte count, then the items. -/
def bList {α : Type} (f : α → List Byte) (xs : List α) : List Byte := b1 xs.length ++ xs.flatMap f

/-! ### Named values: their place in the list of the rule that defines them -/

def Mode.code : Sys2Proof.Mode → Nat
  | .harbour => 0
  | .sea => 1
  | .maintenance => 2

def stationCode : Station → Nat
  | .bridge => 0
  | .stand => 1

def holderCode : Holder → Nat
  | .none => 0
  | .bridge => 1
  | .stand => 2

def regionCode : Region → Nat
  | .tuning => 0
  | .struct => 1

def roleCode : Role → Nat
  | .visorLock => 0
  | .stowageLock => 1
  | .cleat => 2
  | .flap => 3
  | .other => 4

def lockDirCode : LockDir → Nat
  | .engage => 0
  | .retract => 1

def axisDirCode : AxisDir → Nat
  | .opening => 0
  | .closing => 1

def policyCode : Policy → Nat
  | .stopGroup => 0
  | .carryOn => 1

def triCode : Tri → Nat
  | .yes => 0
  | .no => 1
  | .unknown => 2

def closedCode : Closed → Nat
  | .secured => 0
  | .notSecured => 1
  | .unknown => 2

def resultCode : Result → Nat
  | .ok => 0
  | .busy => 1
  | .refusedAuthority => 2
  | .refusedStation => 3
  | .refusedMode => 4
  | .refusedState => 5
  | .stillHeld => 6
  | .wrongLayout => 7
  | .badRecord => 8
  | .badValue => 9
  | .full => 10
  | .notFound => 11

def faultCodeCode : FaultCode → Nat
  | .sensorConflict => 0
  | .travelTimeout => 1
  | .coilFault => 2
  | .channelFault => 3
  | .skew => 4
  | .overtravel => 5
  | .stall => 6
  | .inposFailed => 7

def confirmedCode : Confirmed → Nat
  | .engaged => 0
  | .retracted => 1
  | .between => 2
  | .conflict => 3

def zoneCode : Zone → Nat
  | .closedEnd => 0
  | .openEnd => 1
  | .mid => 2
  | .unknown => 3

def driveCode : Drive → Nat
  | .idle => 0
  | .driving => 1
  | .settling => 2
  | .float => 3
  | .halted => 4

def freshnessCode : Freshness → Nat
  | .none => 0
  | .fresh => 1
  | .stale => 2

def pumpStateCode : PumpState → Nat
  | .stopped => 0
  | .starting => 1
  | .running => 2
  | .faulted => 3

def pumpCauseCode : PumpCause → Nat
  | .noStart => 0
  | .tripped => 1
  | .contactorFault => 2

def classCode : FlowClass → Nat
  | .locking => 0
  | .travel => 1

/-- The state of a GROUP_DRIVE, in the list of R72. -/
def groupStateCode : MotionState → Nat
  | .waitingFlow => 0
  | .driving => 1
  | .halted => 2
  | .done => 3
  | .failed => 4
  | .settling => 5

/-- The state of an AXIS_MOVE, in the list of R88. -/
def moveStateCode : MotionState → Nat
  | .waitingFlow => 0
  | .driving => 1
  | .settling => 2
  | .halted => 3
  | .done => 4
  | .failed => 5

def haltCode : HaltCause → Nat
  | .hold => 0
  | .noFlow => 1

/-- A GROUP_DRIVE's failure cause, in the list of R72. -/
def groupCauseCode : FailCause → Nat
  | .memberFaulted => 0
  | .point .sensorConflict => 1
  | .point .travelTimeout => 2
  | .point .coilFault => 3
  | .noFlow => 4
  | _ => 5

/-- An AXIS_MOVE's failure cause, in the list of R88. -/
def moveCauseCode : FailCause → Nat
  | .axisFaulted => 0
  | .windowProtected => 1
  | .notLanded => 2
  | .noFlow => 3
  | .point .channelFault => 4
  | .point .skew => 5
  | .point .stall => 6
  | .point .overtravel => 7
  | .point .inposFailed => 8
  | .point .coilFault => 9
  | .point .travelTimeout => 10
  | _ => 11

/-- A step's failure cause (R111): WAIT_EXPIRED is 0 for a WAIT; a motion's cause as its unit numbers it. -/
def stepCauseCode (k : StepKind) (c : FailCause) : Nat :=
  match k with
  | .driveGroup _ _ => groupCauseCode c
  | .moveAxis _ _ _ => moveCauseCode c
  | .floatAxis _ => 0
  | .wait _ _ _ => 0
  | .pause _ => 0
  | .call _ => 0

def memberCode : MemberState → Nat
  | .driving => 0
  | .backingOff => 1
  | .done => 2
  | .failed => 3

/-- An operation state; IDLE is 0 (R181). -/
def opStateCode : OpState → Nat
  | .running => 1
  | .holding => 2
  | .complete => 3
  | .aborted => 4

def causeKindCode : CauseKind → Nat
  | .stopRequest => 0
  | .permissive => 1
  | .stepFailed => 2
  | .authorityLost => 3
  | .runReleased => 4
  | .estop => 5
  | .pointFault => 6

def entryCode : EntryState → Nat
  | .active => 0
  | .halted => 1
  | .failed => 2

def stepKindCode : StepKind → Nat
  | .driveGroup _ _ => 0
  | .moveAxis _ _ _ => 1
  | .floatAxis _ => 2
  | .wait _ _ _ => 3
  | .pause _ => 4
  | .call _ => 5

def phaseCode : JogPhase → Nat
  | .waitingFlow => 0
  | .driving => 1
  | .ended => 2

def jogEndCode : JogEnd → Nat
  | .completed => 0
  | .expired => 1
  | .stopped => 2
  | .runReleased => 3
  | .estop => 4
  | .authorityLost => 5
  | .noFlow => 6
  | .positionLost => 7
  | .overtravel => 8

/-- CLEAR or ACTIVE (R150); the state before the first report is numbered after them (assumption 21). -/
def estopCode : Estop → Nat
  | .clear => 0
  | .active => 1
  | .undecided => 2

def alarmKindCode : AlarmKind → Nat
  | .closureLost => 0
  | .lockMovedAtSea => 1
  | .pointFault => 2
  | .transducerLost => 3
  | .pumpFault => 4
  | .estopActive => 5
  | .estopDiscrepancy => 6
  | .coilBankOff => 7
  | .floatLimit => 8
  | .rampLiftoff => 9
  | .bridgeLinkLost => 10
  | .vesselDataLost => 11
  | .restart => 12

def alarmStateCode : AlarmState → Nat
  | .unackActive => 0
  | .ackActive => 1
  | .unackCleared => 2

def raiseCode : RaiseDetail → Nat
  | .entered => 0
  | .displaced => 1
  | .lost => 2
  | .reactivated => 3

def resetCode : ResetKind → Nat
  | .por => 0
  | .xrst => 1

def estopDetailCode : EstopDetail → Nat
  | .active => 0
  | .discrepancy => 1
  | .clear => 2

def partPhaseCode : Phase → Nat
  | .checking => 0
  | .unconfigured => 1
  | .configured => 2

def commitCode : Commit → Nat
  | .idle => 0
  | .writing => 1
  | .done => 2

/-! ### Layout records (R185) -/

def putLock (d : LockDef) : List Byte :=
  b1 (roleCode d.role) ++ b1 d.engagedIn ++ b1 d.retractedIn ++ b1 d.engageCoil ++ b1 d.retractCoil ++ b2 d.flow ++
    b2 d.travelLimit

def putTransducer (t : Transducer) : List Byte := b1 t.input ++ b2 t.closedCount ++ b2 t.openCount

def putFloat (f : FloatDef) : List Byte := b1 f.coil ++ b2 f.low ++ b2 f.high

def putTip (t : TipDef) : List Byte := b1 t.input ++ b2 t.fullScale ++ b2 t.landing ++ b2 t.liftOff

/-- R4, R5 and R6 in their order. -/
def putAxis (d : AxisDef) : List Byte :=
  putTransducer d.transA ++ bOpt putTransducer d.transB ++ b2 d.travel ++ b2 d.endBand ++ b2 d.skewLimit ++
    b1 d.openOut ++ b1 d.closeOut ++ b2 d.qFull ++ b2 d.vMin ++ b2 d.vOpen ++ b2 d.vClose ++ b2 d.approach ++
    b2 d.inPos ++ b2 d.settle ++ b2 d.stallDelta ++ b2 d.stallWindow ++ b2 d.limitOpen ++ b2 d.limitClose ++
    bOpt putFloat d.float ++ bOpt putTip d.tip

/-- The kind, then R2, or R4, R5 and R6. -/
def putBody : PointBody → List Byte
  | .lock d => b1 0 ++ putLock d
  | .axis d => b1 1 ++ putAxis d

def putWindowRec (w : Window) : List Byte := bFlag w.enabled ++ b2 w.start ++ b2 w.range ++ b2 w.level ++ bFlag w.protect

def putGroupRec (g : GroupDef) : List Byte := bList b1 g.members ++ b1 (policyCode g.policy) ++ b2 g.retryLimit ++ b2 g.backOff

/-- A requirement; the six are numbered as chapter 3 names them (assumption 21). -/
def putReq : Requirement → List Byte
  | .engaged => b1 0
  | .retracted => b1 1
  | .atClosed => b1 2
  | .atOpen => b1 3
  | .atLeast x => b1 4 ++ b2 x
  | .atMost x => b1 5 ++ b2 x

def putTerm (t : Term) : List Byte := b1 t.point ++ putReq t.req

def putConditionRec (ts : List Term) : List Byte := bList putTerm ts

/-- Subject and direction: a kind byte, GROUP 0 or AXIS 1, then the index and the direction (assumption 21). -/
def putSubject : Subject → List Byte
  | .group g d => b1 0 ++ b1 g ++ b1 (lockDirCode d)
  | .axis p d => b1 1 ++ b1 p ++ b1 (axisDirCode d)

/-- R48; each set is sent as a counted list of ids (assumption 21). -/
def putPermRec (e : PermEntry) : List Byte := putSubject e.subject ++ bList b1 e.require ++ bList b1 e.forbid

/-- R109; the allowed-mode set is sent as a counted list of modes (assumption 21). -/
def putOpRec (d : OpDef) : List Byte :=
  bList (fun c => [c]) d.name ++ bList (fun m => b1 (Mode.code m)) d.modes ++ b1 d.list ++ bOpt b1 d.reverse

/-- The target of a MOVE_AXIS step: a selecting byte, CLOSED_END 0, OPEN_END 1 or a position 2, and then the two bytes of a position (assumption 21). -/
def putTarget : Target → List Byte
  | .closedEnd => b1 0
  | .openEnd => b1 1
  | .position x => b1 2 ++ b2 x

def putKind : StepKind → List Byte
  | .driveGroup g d => b1 0 ++ b1 g ++ b1 (lockDirCode d)
  | .moveAxis p t l => b1 1 ++ b1 p ++ putTarget t ++ bFlag l
  | .floatAxis p => b1 2 ++ b1 p
  | .wait c w l => b1 3 ++ b1 c ++ b1 (triCode (Tri.ofBool w)) ++ b2 l
  | .pause t => b1 4 ++ b2 t
  | .call l => b1 5 ++ b1 l

/-- The kind, its operands, the join and the on-fail. -/
def putStepRec (st : Step) : List Byte :=
  putKind st.kind ++ b1 (match st.join with
    | .afterAll => 0
    | .withPrevious => 1) ++ b1 (match st.onFail with
    | .hold => 0
    | .reverse => 1)

def putPumpRec (p : PumpDef) : List Byte := b2 p.capacity ++ b2 p.startTime

def putHeaderRec (h : Header) : List Byte := b1 h.visorCond ++ b1 h.innerCond ++ bOpt b1 h.deckClear ++ bOpt b1 h.linkspan

def putTuningRec (t : Tuning) : List Byte :=
  b2 t.travelPromotion ++ b2 t.flowWait ++ b2 t.idleTime ++ b2 t.heelLimit ++ b2 t.pitchLimit ++ b2 t.attitudeHyst ++
    b2 t.windLimit ++ b2 t.windHyst ++ b2 t.debSensor ++ b2 t.debGeneral ++ b2 t.debFeedback

end Sys2Proof.Machine

/-- The record of a present point without its travel windows (R185). -/
def Sys2Proof.PointDef.body : Sys2Proof.PointDef → Sys2Proof.PointBody
  | .lock d => .lock d
  | .axis d _ => .axis d

namespace Sys2Proof.Machine

/-! ### The layout in bytes (R186) -/

/-- One indexed record as its GET reply carries it: index, presence flag, fields. -/
def putIndexed (f : α → List Byte) (e : Nat × α) : List Byte := b1 e.1 ++ bFlag true ++ f e.2

/-- The STRUCTURE records in the byte form of their GET replies, in kind order and then index order (R186). A list gives its LIST_BEGIN
record; its steps follow in the order of the kinds. -/
def structBytes (l : Layout) : List Byte :=
  (match l.header with
    | some h => putHeaderRec h
    | none => []) ++
    l.pumps.flatMap (putIndexed putPumpRec) ++
    l.points.flatMap (putIndexed (fun d => putBody d.body)) ++
    l.groups.flatMap (putIndexed putGroupRec) ++
    l.conditions.flatMap (putIndexed putConditionRec) ++
    l.permissives.flatMap (putIndexed putPermRec) ++
    l.operations.flatMap (putIndexed putOpRec) ++
    l.lists.flatMap (fun e => b1 e.1 ++ bFlag true) ++
    l.lists.flatMap (fun e => (e.2.mapIdx (fun i st => b1 e.1 ++ b1 i ++ putStepRec st)).flatten)

/-- The image of both regions: the STRUCTURE records, then the travel windows and the tuning record (assumption 22). -/
def imageBytes (l : Layout) : List Byte :=
  structBytes l ++
    l.points.flatMap (fun e =>
      ((match e.2 with
        | .axis _ ws => ws
        | .lock _ => []).mapIdx (fun i w => b1 e.1 ++ b1 i ++ bFlag true ++ putWindowRec w)).flatten) ++
    (match l.tuning with
      | some t => putTuningRec t
      | none => [])

/-- The layout tag (R186): the CRC-32 of the STRUCTURE records, 1 in place of 0. -/
def tagOf (l : Layout) : Word32 :=
  let c := crc32 (structBytes l)
  if c = 0 then 1 else c

/-! ### Reading request bodies -/

/-- A reader of a body: from the bytes left, with whether a value outside its list has been met, to every way of filling the fields. There
is more than one way only after a selecting byte outside its list, which leaves open which form the rest of the body has (assumption 21). -/
abbrev Reader (α : Type) := List Byte × Bool → List (α × (List Byte × Bool))

/-- A reader that takes nothing. -/
def rPure (a : α) : Reader α := fun x => [(a, x)]

/-- One reader after another. -/
def rThen (r : Reader α) (f : α → Reader β) : Reader β := fun x => (r x).flatMap (fun p => f p.1 p.2)

/-- A one-byte field. -/
def r1 : Reader Nat := fun x =>
  match x.1 with
  | b :: bs => [(b.toNat, (bs, x.2))]
  | [] => []

/-- A two-byte number. -/
def r2 : Reader Nat := rThen r1 (fun h => rThen r1 (fun l => rPure (h * 256 + l)))

/-- A two-byte number in two's complement. -/
def rInt : Reader Int := rThen r2 (fun n => rPure (BitVec.ofNat 16 n).toInt)

/-- A four-byte number. -/
def r4 : Reader Word32 := rThen r2 (fun h => rThen r2 (fun l => rPure (BitVec.ofNat 32 (h * 65536 + l))))

/-- A value outside its list has been met. -/
def rOutOfList (a : α) : Reader α := fun x => [(a, (x.1, true))]

/-- A named value from its list. -/
def rNamed (xs : List α) (d : α) : Reader α := rThen r1 (fun n =>
  match xs[n]? with
  | some a => rPure a
  | none => rOutOfList d)

/-- A set-or-clear item. -/
def rFlag : Reader Bool := rNamed [false, true] false

/-- A byte that selects the form of what follows: a byte outside the list leaves every form open (assumption 21). -/
def rSelect (forms : List (Reader α)) : Reader α := rThen r1 (fun n =>
  match forms[n]? with
  | some r => r
  | none => fun x => forms.flatMap (fun r => r (x.1, true)))

/-- An optional field: its presence byte selects between nothing and the field. -/
def rOpt (r : Reader α) : Reader (Option α) := rSelect [rPure none, rThen r (fun a => rPure (some a))]

/-- One way of reading for each number of bytes left. -/
def oneByLength (ways : List (α × (List Byte × Bool))) : List (α × (List Byte × Bool)) :=
  ways.foldr (fun p kept => if kept.any (fun q => q.2.1.length == p.2.1.length) then kept else p :: kept) []

/-- A field read a number of times. -/
def rMany (r : Reader α) : Nat → Reader (List α)
  | 0 => rPure []
  | n + 1 => fun x => oneByLength (rThen (rMany r n) (fun as => rThen r (fun a => rPure (as ++ [a]))) x)

/-- A counted list. -/
def rList (r : Reader α) : Reader (List α) := rThen r1 (rMany r)

/-- Two fields. -/
def rPair (r : Reader α) (q : Reader β) : Reader (α × β) := rThen r (fun a => rThen q (fun b => rPure (a, b)))

/-- Reads a whole body: none where its length is not one that the fields can fill; the flag says that a value lay outside its list. -/
def readBody (r : Reader α) (bs : List Byte) : Option (α × Bool) :=
  ((r (bs, false)).find? (fun p => p.2.1.isEmpty)).map (fun p => (p.1, p.2.2))

def getLock : Reader LockDef :=
  rThen (rNamed [.visorLock, .stowageLock, .cleat, .flap, .other] .other) (fun role =>
  rThen (rMany r1 4) (fun io => rThen (rMany r2 2) (fun n =>
    rPure { role := role, engagedIn := io.getD 0 0, retractedIn := io.getD 1 0, engageCoil := io.getD 2 0
            retractCoil := io.getD 3 0, flow := n.getD 0 0, travelLimit := n.getD 1 0 })))

def getTransducer : Reader Transducer :=
  rThen r1 (fun i => rThen r2 (fun c => rThen r2 (fun o => rPure { input := i, closedCount := c, openCount := o })))

def getFloat : Reader FloatDef :=
  rThen r1 (fun c => rThen r2 (fun l => rThen r2 (fun h => rPure { coil := c, low := l, high := h })))

def getTip : Reader TipDef :=
  rThen r1 (fun i => rThen (rMany r2 3) (fun n =>
    rPure { input := i, fullScale := n.getD 0 0, landing := n.getD 1 0, liftOff := n.getD 2 0 }))

def getAxis : Reader AxisDef :=
  rThen getTransducer (fun a => rThen (rOpt getTransducer) (fun b => rThen (rMany r2 3) (fun n => rThen (rMany r1 2) (fun o =>
  rThen (rMany r2 11) (fun m => rThen (rOpt getFloat) (fun f => rThen (rOpt getTip) (fun t =>
    rPure { transA := a, transB := b, travel := n.getD 0 0, endBand := n.getD 1 0, skewLimit := n.getD 2 0
            openOut := o.getD 0 0, closeOut := o.getD 1 0
            qFull := m.getD 0 0, vMin := m.getD 1 0, vOpen := m.getD 2 0, vClose := m.getD 3 0, approach := m.getD 4 0
            inPos := m.getD 5 0, settle := m.getD 6 0, stallDelta := m.getD 7 0, stallWindow := m.getD 8 0
            limitOpen := m.getD 9 0, limitClose := m.getD 10 0, float := f, tip := t })))))))

/-- A point record: the kind, then its fields. -/
def getBody : Reader PointBody :=
  rSelect [rThen getLock (fun d => rPure (.lock d)), rThen getAxis (fun d => rPure (.axis d))]

def getWindowRec : Reader Window :=
  rThen rFlag (fun e => rThen (rMany r2 3) (fun n => rThen rFlag (fun p =>
    rPure { enabled := e, start := n.getD 0 0, range := n.getD 1 0, level := n.getD 2 0, protect := p })))

def getGroupRec : Reader GroupDef :=
  rThen (rList r1) (fun ms => rThen (rNamed [.stopGroup, .carryOn] .stopGroup) (fun p => rThen (rMany r2 2) (fun n =>
    rPure { members := ms, policy := p, retryLimit := n.getD 0 0, backOff := n.getD 1 0 })))

def getReq : Reader Requirement :=
  rSelect [rPure .engaged, rPure .retracted, rPure .atClosed, rPure .atOpen, rThen r2 (fun x => rPure (.atLeast x)),
    rThen r2 (fun x => rPure (.atMost x))]

def getTerm : Reader Term := rThen r1 (fun p => rThen getReq (fun q => rPure { point := p, req := q }))

def getSubject : Reader Subject :=
  rSelect [rThen r1 (fun g => rThen (rNamed [.engage, .retract] .engage) (fun d => rPure (.group g d))),
    rThen r1 (fun p => rThen (rNamed [.opening, .closing] .opening) (fun d => rPure (.axis p d)))]

def getPermRec : Reader PermEntry :=
  rThen getSubject (fun subj => rThen (rList r1) (fun q => rThen (rList r1) (fun f =>
    rPure { subject := subj, require := q, forbid := f })))

def getOpRec : Reader OpDef :=
  rThen (rList r1) (fun n => rThen (rList (rNamed [.harbour, .sea, .maintenance] .harbour)) (fun ms => rThen r1 (fun l =>
  rThen (rOpt r1) (fun r => rPure { name := n.map (BitVec.ofNat 8), modes := ms, list := l, reverse := r }))))

/-- The target of a MOVE_AXIS step: a position has its two bytes after the selecting byte 2 (assumption 21). -/
def getTarget : Reader Target := rSelect [rPure .closedEnd, rPure .openEnd, rThen r2 (fun x => rPure (.position x))]

/-- The step kinds in the order of R110, each with its operands. -/
def getKind : Reader StepKind :=
  rSelect [rThen r1 (fun g => rThen (rNamed [.engage, .retract] .engage) (fun d => rPure (.driveGroup g d))),
    rThen r1 (fun p => rThen getTarget (fun t => rThen rFlag (fun l => rPure (.moveAxis p t l)))),
    rThen r1 (fun p => rPure (.floatAxis p)),
    rThen r1 (fun c => rThen (rNamed [true, false] true) (fun w => rThen r2 (fun l => rPure (.wait c w l)))),
    rThen r2 (fun t => rPure (.pause t)),
    rThen r1 (fun l => rPure (.call l))]

def getStepRec : Reader Step :=
  rThen getKind (fun k => rThen (rNamed [.afterAll, .withPrevious] .afterAll) (fun j =>
    rThen (rNamed [.hold, .reverse] .hold) (fun f => rPure { kind := k, join := j, onFail := f })))

def getPumpRec : Reader PumpDef := rThen r2 (fun c => rThen r2 (fun t => rPure { capacity := c, startTime := t }))

def getHeaderRec : Reader Header :=
  rThen r1 (fun v => rThen r1 (fun i => rThen (rOpt r1) (fun d => rThen (rOpt r1) (fun l =>
    rPure { visorCond := v, innerCond := i, deckClear := d, linkspan := l }))))

def getTuningRec : Reader Tuning :=
  rThen (rMany r2 11) (fun n =>
    rPure { travelPromotion := n.getD 0 0, flowWait := n.getD 1 0, idleTime := n.getD 2 0, heelLimit := n.getD 3 0
            pitchLimit := n.getD 4 0, attitudeHyst := n.getD 5 0, windLimit := n.getD 6 0, windHyst := n.getD 7 0
            debSensor := n.getD 8 0, debGeneral := n.getD 9 0, debFeedback := n.getD 10 0 })

/-- A PUT body's record part: the index, the presence flag, then the record. The index is one byte, a permissive entry's too (assumption 21). -/
def getGiven (r : Reader α) : Reader (Nat × Option α) := rPair r1 (rOpt r)

/-- The record part of a PUT from what was read of it. -/
def givenOf (bad : Bool) (r : Option α) : Given α :=
  if bad then .outOfList
  else
    match r with
    | none => .absent
    | some a => .present a

end Sys2Proof.Machine
end

