-- ==== Sys2Proof/Machine/Lst.lean ====
section
/-! DEFINITION. Machine/Lst.lean: the Layout Store: the consistency checks of a commit (R186), what the blocks take from a layout (R17,
R20, R71, R105, R153), the write's end (R186, R188) and the judgement of the stored image (R188). -/
namespace Sys2Proof.Machine

/-! ### The twelve consistency checks -/

/-- The index of the first record that fails a test. -/
def firstBad (t : Table α) (bad : Nat → α → Bool) : Option Nat := (t.find? (fun e => bad e.1 e.2)).map (fun e => e.1)

/-- A condition id that a layout leaves undefined (R36). -/
def undefinedCond (l : Layout) (c : Nat) : Bool := decide (c ≥ 8) && (tget l.conditions c).isNone

/-- c4 or c5 without its input (R36). -/
def unassignedCond (l : Layout) (c : Nat) : Bool :=
  match l.header with
  | some h => (c == 4 && h.deckClear.isNone) || (c == 5 && h.linkspan.isNone)
  | none => c == 4 || c == 5

/-- A term names a present point of the kind its requirement calls for (R39, R40). -/
def termFits (l : Layout) (t : Term) : Bool :=
  match t.req with
  | .engaged => (l.lock? t.point).isSome
  | .retracted => (l.lock? t.point).isSome
  | .atClosed => (l.axis? t.point).isSome
  | .atOpen => (l.axis? t.point).isSome
  | .atLeast _ => (l.axis? t.point).isSome
  | .atMost _ => (l.axis? t.point).isSome

/-- The references of a step (R110). -/
def stepRefers (l : Layout) (st : Step) : Bool :=
  match st.kind with
  | .driveGroup g _ => (tget l.groups g).isSome
  | .moveAxis p _ _ => (l.axis? p).isSome
  | .floatAxis p => (l.axis? p).isSome
  | .wait c _ _ => !undefinedCond l c
  | .pause _ => true
  | .call x => (tget l.lists x).isSome

/-- Check 1: references to present records of the right kind. -/
def check1 (l : Layout) : Option Nat :=
  (if l.header.any (fun h => undefinedCond l h.visorCond || undefinedCond l h.innerCond) then some 0 else none).or
  ((firstBad l.groups (fun _ g => !g.members.all (fun p => (l.lock? p).isSome) || !noRepeat g.members)).or
  ((firstBad l.conditions (fun _ ts => !ts.all (termFits l) || decide (ts.length > 8))).or
  ((firstBad l.permissives (fun _ e =>
    (match e.subject with
      | .group g _ => (tget l.groups g).isNone
      | .axis p _ => (l.axis? p).isNone) || e.require.any (undefinedCond l) || e.forbid.any (undefinedCond l))).or
  ((firstBad l.operations (fun i d => (tget l.lists d.list).isNone ||
    d.reverse.any (fun r => (tget l.operations r).isNone || r == i))).or
  (firstBad l.lists (fun _ ss => !ss.all (stepRefers l)))))))

/-- The AXIS records of a layout. -/
def axes (l : Layout) : List (Nat × AxisDef × List Window) :=
  l.points.filterMap (fun e =>
    match e.2 with
    | .axis d ws => some (e.1, d, ws)
    | .lock _ => none)

/-- Check 2: the counts of axes and pumps, the header and the tuning record. -/
def check2 (l : Layout) : Option Nat :=
  if (axes l).length > 4 || l.pumps.isEmpty || l.pumps.length > 3 || l.header.isNone || l.tuning.isNone then some 0 else none

/-- The discrete sensor inputs of a point. -/
def sensorsOf : PointDef → List Nat
  | .lock d => [d.engagedIn, d.retractedIn]
  | .axis _ _ => []

/-- The analog inputs of a point. -/
def analogsOf : PointDef → List Nat
  | .lock _ => []
  | .axis d _ => d.transA.input :: (d.transB.toList.map (fun t => t.input) ++ d.tip.toList.map (fun t => t.input))

/-- The first point, in index order, that uses something a second time. -/
def firstShared (use : PointDef → List Nat) (t : Table PointDef) : Option Nat :=
  firstBad t (fun i d =>
    !noRepeat (use d) || (use d).any (fun x => (t.filter (fun e => decide (e.1 < i))).any (fun e => (use e.2).contains x)))

/-- The discrete inputs that the header assigns to c4 and c5 (R38). -/
def headerInputs (l : Layout) : List Nat :=
  match l.header with
  | some h => h.deckClear.toList ++ h.linkspan.toList
  | none => []

/-- Check 3: inputs and outputs are used once; sensor inputs first, then analog inputs, coils and proportional outputs, each over all points
(assumption 10). A sensor input that the header also assigns to c4 or c5 is used twice, DEDUCED (assumption 9). -/
def check3 (l : Layout) : Option Nat :=
  (firstShared sensorsOf l.points).or ((firstBad l.points (fun _ d => (sensorsOf d).any (headerInputs l).contains)).or
    ((firstShared analogsOf l.points).or ((firstShared coilsOf l.points).or (firstShared propsOf l.points))))

/-- Check 4: the banks of coils; a float coil outside bank 5 has been refused on arrival (assumption 10). -/
def check4 (l : Layout) : Option Nat :=
  firstBad l.points (fun _ d =>
    match d with
    | .lock x => bankOf x.engageCoil == 5 || bankOf x.retractCoil == 5
    | .axis x _ => x.float.any (fun f => bankOf f.coil != 5))

/-- The calibration counts of a transducer (R4). -/
def calibrated (t : Transducer) : Bool :=
  inRange Config.channelLow Config.channelHigh t.closedCount && inRange Config.channelLow Config.channelHigh t.openCount &&
    decide (distanceOf t.closedCount t.openCount ≥ 400)

/-- Check 5: calibration. -/
def check5 (l : Layout) : Option Nat :=
  firstBad l.points (fun _ d =>
    match d with
    | .lock _ => false
    | .axis x _ => !calibrated x.transA || !x.transB.all calibrated)

/-- The relations within an AXIS record (R4 to R7). -/
def axisConsistent (d : AxisDef) (ws : List Window) : Bool :=
  decide (d.vMin ≤ d.vOpen) && decide (d.vMin ≤ d.vClose) && decide (d.inPos ≤ d.endBand) && decide (2 * d.endBand < d.travel) &&
    ws.all (fun w => decide (w.start ≤ d.travel) && decide (w.range ≤ d.travel)) &&
    d.float.all (fun f => decide (f.low < f.high) && decide (f.high ≤ d.travel)) &&
    d.tip.all (fun t => decide (t.liftOff ≤ t.landing))

/-- A term's position lies within the axis's travel (R39). -/
def termWithin (l : Layout) (t : Term) : Bool :=
  match t.req, l.axis? t.point with
  | .atLeast x, some d => decide (x ≤ d.travel)
  | .atMost x, some d => decide (x ≤ d.travel)
  | _, _ => true

/-- Check 6: the relations on axes; a term that reaches beyond its axis names its condition. -/
def check6 (l : Layout) : Option Nat :=
  (firstBad l.points (fun _ d =>
    match d with
    | .lock _ => false
    | .axis x ws => !axisConsistent x ws)).or
  (firstBad l.conditions (fun _ ts => !ts.all (termWithin l)))

/-- The summed capacity of a layout's pumps. -/
def pumpCapacity (l : Layout) : Nat := (l.pumps.map (fun e => e.2.capacity)).sum

/-- Check 7: flows within the pump capacity, groups before points (assumption 10). -/
def check7 (l : Layout) : Option Nat :=
  (firstBad l.groups (fun _ g =>
    decide ((g.members.map (fun p => ((l.lock? p).map (fun d => d.flow)).getD 0)).sum > pumpCapacity l))).or
  (firstBad l.points (fun _ d =>
    match d with
    | .lock _ => false
    | .axis x _ => decide (commandFlow x.vMin x.qFull > pumpCapacity l)))

/-- A step's operands fit their targets (R110). -/
def stepFits (l : Layout) (st : Step) : Bool :=
  match st.kind with
  | .moveAxis p t landing =>
    match l.axis? p with
    | some d =>
      (match t with
        | .position x => decide (x ≤ d.travel)
        | .closedEnd => true
        | .openEnd => true) && (!landing || d.tip.isSome)
    | none => false
  | .floatAxis p => (l.axis? p).any (fun d => d.float.isSome)
  | .call x => (tget l.lists x).any (fun ss => !ss.isEmpty)
  | .driveGroup _ _ => true
  | .wait _ _ _ => true
  | .pause _ => true

/-- Check 8: the steps; a list that holds no step is no list of R110. -/
def check8 (l : Layout) : Option Nat :=
  (if (l.lists.map (fun e => e.2.length)).sum > Config.stepsMax then some 0 else none).or
  (firstBad l.lists (fun _ ss => ss.isEmpty || !ss.all (stepFits l)))

/-- The lists that a list calls. -/
def callsOf (ss : List Step) : List Nat :=
  ss.filterMap (fun st =>
    match st.kind with
    | .call x => some x
    | .driveGroup _ _ => none
    | .moveAxis _ _ _ => none
    | .floatAxis _ => none
    | .wait _ _ _ => none
    | .pause _ => none)

/-- The longest chain of calls from each list, counted up to a bound. -/
def callDepths (l : Layout) : Nat → Table Nat
  | 0 => l.lists.map (fun e => (e.1, 0))
  | n + 1 =>
    let before := callDepths l n
    l.lists.map (fun e => (e.1, ((callsOf e.2).map (fun x => (tget before x).getD 0 + 1)).foldl max 0))

/-- Check 9: no call leads back, and no operation calls deeper than 4. A chain longer than there are lists has led back.
Every list is checked before the operations (assumption 10). -/
def check9 (l : Layout) : Option Nat :=
  let depths := callDepths l (Config.listMax + 1)
  (firstBad depths (fun _ n => decide (n > Config.listMax))).or
  (firstBad l.operations (fun _ d => decide ((tget depths d.list).getD 0 > Config.stackMax)))

/-- The lists reached from some lists within a number of calls. -/
def reached (l : Layout) : Nat → List Nat → List Nat
  | 0, xs => xs
  | n + 1, xs =>
    reached l n ((l.lists.map (fun e => e.1)).filter (fun i =>
      xs.contains i || xs.any (fun x => (callsOf ((tget l.lists x).getD [])).contains i)))

/-- A step that may run at sea (R159). -/
def seaStep (st : Step) : Bool :=
  match st.kind with
  | .driveGroup _ .engage => true
  | .driveGroup _ .retract => false
  | .moveAxis _ _ _ => false
  | .floatAxis _ => false
  | .wait _ _ _ => true
  | .pause _ => true
  | .call _ => true

/-- Check 10: SEA operations (R159). -/
def check10 (l : Layout) : Option Nat :=
  firstBad l.operations (fun _ d =>
    d.modes.contains .sea && (reached l Config.listMax [d.list]).any (fun x => !((tget l.lists x).getD []).all seaStep))

/-- Check 11: c4 and c5 only with their inputs. -/
def check11 (l : Layout) : Option Nat :=
  (if l.header.any (fun h => unassignedCond l h.visorCond || unassignedCond l h.innerCond) then some 0 else none).or
  ((firstBad l.permissives (fun _ e => e.require.any (unassignedCond l) || e.forbid.any (unassignedCond l))).or
  (firstBad l.lists (fun _ ss => ss.any (fun st =>
    match st.kind with
    | .wait c _ _ => unassignedCond l c
    | .driveGroup _ _ => false
    | .moveAxis _ _ _ => false
    | .floatAxis _ => false
    | .pause _ => false
    | .call _ => false))))

/-- Check 12: the permissive entries (R48) and the attitude hysteresis (R41). -/
def check12 (l : Layout) : Option Nat :=
  (firstBad l.permissives (fun i e =>
    l.permissives.any (fun x => decide (x.1 < i) && x.2.subject == e.subject) || e.require.any e.forbid.contains ||
      e.forbid.contains 0)).or
  (if l.tuning.any (fun t => decide (t.attitudeHyst ≥ t.heelLimit) || decide (t.attitudeHyst ≥ t.pitchLimit)) then some 0
    else none)

/-- The checks by number. -/
def checks : List (Nat × (Layout → Option Nat)) :=
  [(1, check1), (2, check2), (3, check3), (4, check4), (5, check5), (6, check6), (7, check7), (8, check8), (9, check9),
    (10, check10), (11, check11), (12, check12)]

/-- The first failure of a layout: the check's number and its subject (R186). -/
def firstFailure (l : Layout) : Option (Nat × Nat) := checks.findSome? (fun c => (c.2 l).map (fun x => (c.1, x)))

/-! ### What the blocks take from a layout -/

/-- The class of every discrete field input that a layout assigns (R18); an input assigned to c4 or c5 is GENERAL (R38). -/
def fieldInputs (l : Layout) : Table DebounceClass :=
  (headerInputs l).foldl (fun t i => tput t i .general)
    ((l.points.flatMap (fun e => sensorsOf e.2)).foldl (fun t i => tput t i .sensor) [])

/-- The analog inputs that a layout assigns (R21). -/
def analogInputs (l : Layout) : Table Unit :=
  (l.points.flatMap (fun e => analogsOf e.2)).foldl (fun t i => tput t i ()) []

/-- ISC's inputs taken from a layout, every discrete input to be rescanned; an analog input assigned before keeps what it holds (R20, R21,
R24). -/
def Isc.take (l : Layout) (scan : Bool) (i : Isc) : Isc :=
  { field := tmap (fun k c => { cls := c, debounced := (tget i.field k).any (fun d => d.debounced), rescan := true }) (fieldInputs l)
    feedback := tmap (fun k _ =>
      { cls := .feedback, debounced := (tget i.feedback k).any (fun d => d.debounced), rescan := true }) l.pumps
    analog := tmap (fun k _ => (tget i.analog k).getD {}) (analogInputs l)
    scanPending := scan }

/-- The dynamic part of a point after a reset or a STRUCTURE commit (R17); an axis whose float is kept floats on. -/
def State.freshPoint (s : State) (i : Nat) : PointDef → PointDyn
  | .lock _ => .lock {}
  | .axis d _ =>
    .axis
      { healthyA := s.channelOk d.transA.input
        healthyB := match d.transB with
          | some t => s.channelOk t.input
          | none => false
        drive := if s.floats i then .float else .idle }

/-- PMN's records taken from a layout (R17). -/
def State.takePoints (l : Layout) (s : State) : State := { s with pmn := { points := tmap s.freshPoint l.points } }

/-- PMN hands ADU the records of the axes that a STRUCTURE commit leaves in FLOAT: their positions and tip loads have become absent (R8, R17, R105). -/
def State.handFloats (s : State) : State := s.adu.floats.foldl (fun x e => x.handFloat e.1) s

/-- HPA's pump records taken from a layout (R71): a pump that goes is stopped first and its alarm condition clears,
in rising pump index, DESIGN CHOICE (assumption 2). -/
def State.takePumps (l : Layout) (s : State) : State :=
  let gone := (List.range 3).filter (fun i => (tget s.hpa.pumps i).isSome && (tget l.pumps i).isNone)
  let s1 := gone.foldl (fun x i => (x.stopPump i).clearAlarm .pumpFault i) s
  let pumps := tmap (fun k (p : PumpDef) =>
    match tget s1.hpa.pumps k with
    | some q => { q with capacity := p.capacity, startTime := p.startTime }
    | none => { capacity := p.capacity, startTime := p.startTime : Pump }) l.pumps
  emit .pass (({ s1 with hpa := { s1.hpa with pumps := pumps } }).capacityDrop)

/-- Floats that a layout does not keep end: the axis has no float coil on the same output any more (R105). A float that goes on without a tip-load
input is not supervised for lift-off, and its timer stops (R107; assumption 30). -/
def State.takeFloats (old new : Layout) (s : State) : State :=
  let coil (l : Layout) (i : Nat) : Option Nat := ((l.axis? i).bind (fun d => d.float)).map (fun f => f.coil)
  let gone := (s.adu.floats.filter (fun e => (coil new e.1).isNone || coil new e.1 != coil old e.1)).map (fun e => e.1)
  let s1 := gone.foldl (fun x i =>
    ({ x with adu := { x.adu with floats := tdel x.adu.floats i } }.clearAlarm .floatLimit i).clearAlarm .rampLiftoff i) s
  { s1 with adu := { s1.adu with
    floats := tmap (fun i f => if ((new.axis? i).bind (fun d => d.tip)).isNone then { f with liftTimer := none } else f) s1.adu.floats } }

/-- Every point fault and DEGRADED flag is cleared, and AEU is told that the conditions have cleared (R186, step 4). No FAULT_CLEARED event is recorded:
DESIGN CHOICE (assumption 12). -/
def State.clearFaults (s : State) : State :=
  s.pmn.points.foldl (fun x e =>
    let x1 := if e.2.fault.isSome then x.clearAlarm .pointFault e.1 else x
    match e.2 with
    | .axis y => if y.degraded then x1.clearAlarm .transducerLost e.1 else x1
    | .lock _ => x1)
    { s with pmn := { points := tmap (fun _ d =>
      match d with
      | .lock y => .lock { y with fault := none }
      | .axis y => .axis { y with fault := none, degraded := false }) s.pmn.points } }

/-! ### The end of the write -/

/-- The stored image after a write: marker, image and check word (R186). -/
def Stored.write (l : Layout) : Stored := { marker := true, image := l, check := crc32 (imageBytes l) }

/-- The image is valid (R188). -/
def Stored.valid (x : Stored) : Bool := x.marker && crc32 (imageBytes x.image) == x.check

/-- The pending layout becomes active (R186). -/
def State.activate (r : Region) (l : Layout) (s : State) : State :=
  let tag := match r with
    | .tuning => s.lst.tag
    | .struct => tagOf l
  { s with lst := { s.lst with
      stored := Stored.write l, active := some l, tag := tag, commit := .done, pendingLayout := none } }.event
    (.layoutCommitted r tag)

/-- The effects of a TUNING commit (R45, R65, R186). -/
def State.commitTuning (l : Layout) (s : State) : State :=
  let K := s.tune.travelPromotion
  let s1 := (s.activate .tuning l).recompute [1, 2]
  if s1.tune.travelPromotion == K then s1 else emit .pass s1

/-- The effects of a STRUCTURE commit, in order (R186). -/
def State.commitStruct (l : Layout) (s : State) : State :=
  let old := s.layout
  let s1 := finish (s.abortContext.endJog .authorityLost)
  let s2 := (s1.activate .struct l).changeHolder .none
  let s3 := s2.clearFaults
  let s4 := { s3 with isc := s3.isc.take l s3.isc.scanPending }
  let s5 := ((s4.takeFloats old l).takePoints l).handFloats
  let s6 := s5.takePumps l
  let s7 := s6.modOst (Ost.takeOwners l)
  let s8 := s7.releaseLatches (fun _ => true) (fun _ => true)
  s8.recompute (List.range 32)

/-- The first commit of an UNCONFIGURED part (R188). DESIGN CHOICE (assumption 35): the conditions that the commit has computed stand, and follow every
change, until the first completed scan computes all of them again. -/
def State.firstCommit (s : State) : State :=
  let s1 := { s with lst := { s.lst with phase := .configured } }.changeMode .harbour
  let s2 := s1.modOst Ost.startupOver
  { s2 with isc := { s2.isc with scanPending := true } }

/-- The store write ends (R186). -/
def State.writeEnd (s : State) : State :=
  match s.lst.commit, s.lst.pendingLayout with
  | .writing, some (.tuning, l) => s.commitTuning l
  | .writing, some (.struct, l) =>
    let s1 := s.commitStruct l
    if s.lst.phase == .unconfigured then s1.firstCommit else s1
  | _, _ => s

end Sys2Proof.Machine
end

