-- ==== Sys2Proof/Machine/LayoutRecords.lean ====
section
/-! DEFINITION. Machine/LayoutRecords.lean: the LAYOUT records: LAYOUT_OPEN and LAYOUT_DISCARD (R184), LAYOUT_COMMIT and the end of the
write (R186), the PUT records and LIST_BEGIN, and their GET forms (R185). -/
namespace Sys2Proof

/-- The record part lies in its ranges. -/
def Given.fits {α : Type} (ok : α → Bool) : Given α → Bool
  | .absent => true
  | .present a => ok a
  | .outOfList => false

/-- The record that the index is to hold. -/
def Given.record {α : Type} : Given α → Option α
  | .absent => none
  | .present a => some a
  | .outOfList => none

end Sys2Proof

namespace Sys2Proof.Machine

/-! ### Open, discard, commit -/

/-- LAYOUT_OPEN's rule (R184). -/
def ruleOpen (st : Station) (code : Nat) (s : State) : Answer :=
  match regionOf code with
  | none => s.refuse .badValue
  | some r =>
    if !s.holds st then s.refuse .refusedAuthority
    else if s.lst.buffer.isSome then s.refuse .busy
    else if s.lst.phase == .unconfigured && r == .tuning then s.refuse .refusedState
    else if !regionAdmitted r s.amu.mode then s.refuse .refusedMode
    else if r == .tuning && (s.contextLive || s.jogActive) then s.refuse .busy
    else
      State.accept { s with lst := { s.lst with buffer := some { region := r, owner := st, content := s.layout }, commit := .idle } }

/-- The record of LAYOUT_OPEN. -/
def recOpen (st : Station) (run : Bool) (region : Nat) (s : State) : State := s.serve st run 0x30 .setup (ruleOpen st region)

/-- LAYOUT_OPEN (R184). -/
def execLayoutOpen (st : Station) (run : Bool) (region : Nat) (s : State) : Host.Outcome State Fault Refusal :=
  .next (recOpen st run region s)

/-- LAYOUT_DISCARD's rule (R184). -/
def ruleDiscard (st : Station) (s : State) : Answer :=
  match s.lst.buffer with
  | none => s.accept
  | some b => if b.owner == st then s.dropBuffer.accept else s.refuse .refusedAuthority

/-- The record of LAYOUT_DISCARD. -/
def recDiscard (st : Station) (run : Bool) (s : State) : State := s.serve st run 0x32 .setup (ruleDiscard st)

/-- LAYOUT_DISCARD (R184). -/
def execLayoutDiscard (st : Station) (run : Bool) (s : State) : Host.Outcome State Fault Refusal := .next (recDiscard st run s)

/-- WRITING begins (R186): the buffer closes, its content becomes the pending layout, and the valid marker is erased. -/
def State.beginWrite (b : EditBuffer) (s : State) : State :=
  { s with lst := { s.lst with
      commit := .writing, buffer := none, pendingLayout := some (b.region, b.content)
      stored := { s.lst.stored with marker := false } } }

/-- LAYOUT_COMMIT's rule (R186). A failed check's subject is one byte (assumption 21). -/
def ruleCommit (st : Station) (s : State) : Answer :=
  match s.lst.buffer with
  | none => s.refuse .refusedState
  | some b =>
    if b.owner != st then s.refuse .refusedAuthority
    else if b.region == .tuning && (s.contextLive || s.jogActive) then s.refuse .busy
    else
      match firstFailure b.content with
      | some (n, subj) => (s, .refusedState, b2 n ++ b1 subj)
      | none => (s.beginWrite b).accept

/-- The record of LAYOUT_COMMIT. -/
def recCommit (st : Station) (run : Bool) (s : State) : State := s.serve st run 0x31 .setup (ruleCommit st)

/-- LAYOUT_COMMIT (R186). -/
def execLayoutCommit (st : Station) (run : Bool) (s : State) : Host.Outcome State Fault Refusal := .next (recCommit st run s)

/-- LAYOUT_WRITE_END (R186). -/
def execLayoutWriteEnd (s : State) : Host.Outcome State Fault Refusal := .next (s.act State.writeEnd)

/-! ### The checks of a PUT -/

/-- A PUT's checks before its own range check (R185): the buffer, its owner, and whether a TUNING buffer admits the record. `store` answers
for the rest with the buffer it leaves when its result is OK. -/
def putWith (admits : EditBuffer → Bool) (store : EditBuffer → Result × EditBuffer) (st : Station) (s : State) : Answer :=
  match s.lst.buffer with
  | none => s.refuse .refusedState
  | some b =>
    if b.owner != st then s.refuse .refusedAuthority
    else if b.region == .tuning && !admits b then s.refuse .refusedState
    else
      match store b with
      | (.ok, c) => State.accept { s with lst := { s.lst with buffer := some c } }
      | (r, _) => s.refuse r

/-- Stores changed content when the fields lie in their ranges (R185, checks 4 and 5). -/
def storeIf (ok : Bool) (f : Layout → Layout) (b : EditBuffer) : Result × EditBuffer :=
  if ok then (.ok, { b with content := f b.content }) else (.badValue, b)

/-! ### Header, tuning, pumps -/

/-- The record of PUT_HEADER (R185); none for one with a presence byte outside its list (assumption 21). -/
def recPutHeader (st : Station) (run : Bool) (h : Option Header) (s : State) : State :=
  s.serve st run 0x40 .setup (putWith (fun _ => false) (storeIf (h.any headerInRange) (fun l => { l with header := h })) st)

/-- PUT_HEADER (R185). -/
def execPutHeader (st : Station) (run : Bool) (h : Option Header) (s : State) : Host.Outcome State Fault Refusal :=
  .next (recPutHeader st run h s)

/-- The record of PUT_TUNING (R183, R185); a TUNING buffer admits it. -/
def recPutTuning (st : Station) (run : Bool) (t : Tuning) (s : State) : State :=
  s.serve st run 0x4A .setup (putWith (fun _ => true) (storeIf (tuningInRange t) (fun l => { l with tuning := some t })) st)

/-- PUT_TUNING (R185). -/
def execPutTuning (st : Station) (run : Bool) (t : Tuning) (s : State) : Host.Outcome State Fault Refusal :=
  .next (recPutTuning st run t s)

/-- The record of PUT_PUMP (R54, R185). -/
def recPutPump (st : Station) (run : Bool) (index : Nat) (r : Given PumpDef) (s : State) : State :=
  s.serve st run 0x41 .setup (putWith (fun _ => false)
    (storeIf (inRange 0 2 index && r.fits pumpInRange) (fun l => { l with pumps := tset l.pumps index r.record })) st)

/-- PUT_PUMP (R185). -/
def execPutPump (st : Station) (run : Bool) (index : Nat) (r : Given PumpDef) (s : State) : Host.Outcome State Fault Refusal :=
  .next (recPutPump st run index r s)

/-! ### Points and travel windows -/

/-- A LOCK record as it stands outside the TUNING region (R183). -/
def lockFixed (d : LockDef) : LockDef := { d with travelLimit := 0 }

/-- An AXIS record as it stands outside the TUNING region (R183). -/
def axisFixed (d : AxisDef) : AxisDef :=
  { d with
    qFull := 0, vMin := 0, vOpen := 0, vClose := 0, approach := 0, inPos := 0, settle := 0, stallDelta := 0, stallWindow := 0
    limitOpen := 0, limitClose := 0 }

/-- A point record as it stands outside the TUNING region. -/
def bodyFixed : PointBody → PointBody
  | .lock d => .lock (lockFixed d)
  | .axis d => .axis (axisFixed d)

/-- A TUNING buffer admits a PUT_POINT (R185): every field outside the TUNING region equals the buffer's present record. -/
def pointAdmitted (index : Nat) (r : Given PointBody) (b : EditBuffer) : Bool :=
  match r, tget b.content.points index with
  | .present p, some d => bodyFixed p == bodyFixed d.body
  | _, _ => false

/-- The record that a PUT_POINT leaves: an AXIS record keeps the travel windows the index held (assumption 23). -/
def pointRecord (l : Layout) (index : Nat) : PointBody → PointDef
  | .lock d => .lock d
  | .axis d => .axis d (l.windows index)

/-- The record of PUT_POINT (R2 to R6, R185). -/
def recPutPoint (st : Station) (run : Bool) (index : Nat) (r : Given PointBody) (s : State) : State :=
  s.serve st run 0x42 .setup (putWith (pointAdmitted index r)
    (storeIf (inRange 0 47 index && r.fits bodyInRange)
      (fun l => { l with points := tset l.points index (r.record.map (pointRecord l index)) })) st)

/-- PUT_POINT (R185). -/
def execPutPoint (st : Station) (run : Bool) (index : Nat) (r : Given PointBody) (s : State) : Host.Outcome State Fault Refusal :=
  .next (recPutPoint st run index r s)

/-- Travel windows after a PUT_WINDOW (R185): appended at the length, replaced or removed below it, none beyond it. An absent window at
the length has nothing to remove (assumption 23). -/
def putInWindows (ws : List Window) (position : Nat) (r : Option Window) : Option (List Window) :=
  if position > 3 then none
  else
    match r with
    | some w => if position < ws.length then some (ws.set position w) else if position = ws.length then some (ws ++ [w]) else none
    | none => if position < ws.length then some (ws.eraseIdx position) else none

/-- The buffer after a PUT_WINDOW (R7, R185). -/
def storeWindow (axis position : Nat) (r : Given Window) (b : EditBuffer) : Result × EditBuffer :=
  match b.content.axis? axis with
  | some d =>
    if r.fits windowInRange then
      match putInWindows (b.content.windows axis) position r.record with
      | some ws => (.ok, { b with content := { b.content with points := tput b.content.points axis (.axis d ws) } })
      | none => (.badValue, b)
    else (.badValue, b)
  | none => (.badValue, b)

/-- The record of PUT_WINDOW (R7, R185); a TUNING buffer admits it. -/
def recPutWindow (st : Station) (run : Bool) (axis position : Nat) (r : Given Window) (s : State) : State :=
  s.serve st run 0x43 .setup (putWith (fun _ => true) (storeWindow axis position r) st)

/-- PUT_WINDOW (R185). -/
def execPutWindow (st : Station) (run : Bool) (axis position : Nat) (r : Given Window) (s : State) :
    Host.Outcome State Fault Refusal :=
  .next (recPutWindow st run axis position r s)

/-! ### Groups, conditions, permissives, operations -/

/-- The record of PUT_GROUP (R10, R185). -/
def recPutGroup (st : Station) (run : Bool) (index : Nat) (r : Given GroupDef) (s : State) : State :=
  s.serve st run 0x44 .setup (putWith (fun _ => false)
    (storeIf (inRange 0 11 index && r.fits groupInRange) (fun l => { l with groups := tset l.groups index r.record })) st)

/-- PUT_GROUP (R185). -/
def execPutGroup (st : Station) (run : Bool) (index : Nat) (r : Given GroupDef) (s : State) : Host.Outcome State Fault Refusal :=
  .next (recPutGroup st run index r s)

/-- The record of PUT_CONDITION (R39, R185). -/
def recPutCondition (st : Station) (run : Bool) (index : Nat) (r : Given (List Term)) (s : State) : State :=
  s.serve st run 0x45 .setup (putWith (fun _ => false)
    (storeIf (inRange 8 31 index && r.fits conditionInRange) (fun l => { l with conditions := tset l.conditions index r.record })) st)

/-- PUT_CONDITION (R185). -/
def execPutCondition (st : Station) (run : Bool) (index : Nat) (r : Given (List Term)) (s : State) :
    Host.Outcome State Fault Refusal :=
  .next (recPutCondition st run index r s)

/-- The record of PUT_PERMISSIVE (R48, R185). -/
def recPutPermissive (st : Station) (run : Bool) (index : Nat) (r : Given PermEntry) (s : State) : State :=
  s.serve st run 0x46 .setup (putWith (fun _ => false)
    (storeIf (inRange 0 63 index && r.fits permInRange) (fun l => { l with permissives := tset l.permissives index r.record })) st)

/-- PUT_PERMISSIVE (R185). -/
def execPutPermissive (st : Station) (run : Bool) (index : Nat) (r : Given PermEntry) (s : State) :
    Host.Outcome State Fault Refusal :=
  .next (recPutPermissive st run index r s)

/-- The record of PUT_OPERATION (R109, R185). -/
def recPutOperation (st : Station) (run : Bool) (index : Nat) (r : Given OpDef) (s : State) : State :=
  s.serve st run 0x47 .setup (putWith (fun _ => false)
    (storeIf (inRange 0 15 index && r.fits opInRange) (fun l => { l with operations := tset l.operations index r.record })) st)

/-- PUT_OPERATION (R185). -/
def execPutOperation (st : Station) (run : Bool) (index : Nat) (r : Given OpDef) (s : State) : Host.Outcome State Fault Refusal :=
  .next (recPutOperation st run index r s)

/-! ### Step lists -/

/-- The buffer after a LIST_BEGIN (R185): no flag stands for one outside its list. -/
def storeList (list : Nat) (present : Option Bool) (b : EditBuffer) : Result × EditBuffer :=
  match present with
  | none => (.badValue, b)
  | some p =>
    if inRange 0 31 list then
      (.ok, { b with
        content := { b.content with lists := tset b.content.lists list (if p then some [] else none) }
        cursor := if p then some (list, 0) else none })
    else (.badValue, b)

/-- The record of LIST_BEGIN (R185). -/
def recListBegin (st : Station) (run : Bool) (list : Nat) (present : Option Bool) (s : State) : State :=
  s.serve st run 0x48 .setup (putWith (fun _ => false) (storeList list present) st)

/-- LIST_BEGIN (R185). -/
def execListBegin (st : Station) (run : Bool) (list : Nat) (present : Option Bool) (s : State) : Host.Outcome State Fault Refusal :=
  .next (recListBegin st run list present s)

/-- The buffer after a PUT_STEP (R185). The cursor's own answers come before the range check (assumption 23). -/
def storeStep (step : Option Step) (b : EditBuffer) : Result × EditBuffer :=
  match b.cursor with
  | none => (.refusedState, b)
  | some (list, position) =>
    if position ≥ Config.listMax then (.full, b)
    else
      match step with
      | none => (.badValue, b)
      | some x =>
        if stepInRange x then
          (.ok, { b with
            content := { b.content with lists := tput b.content.lists list (((tget b.content.lists list).getD []) ++ [x]) }
            cursor := some (list, position + 1) })
        else (.badValue, b)

/-- The record of PUT_STEP (R110, R185). -/
def recPutStep (st : Station) (run : Bool) (step : Option Step) (s : State) : State :=
  s.serve st run 0x49 .setup (putWith (fun _ => false) (storeStep step) st)

/-- PUT_STEP (R185). -/
def execPutStep (st : Station) (run : Bool) (step : Option Step) (s : State) : Host.Outcome State Fault Refusal :=
  .next (recPutStep st run step s)

/-! ### GET forms -/

/-- The layout that a GET reads: the buffer of a requester that owns one, else the active layout (R185). -/
def State.view (st : Station) (s : State) : Layout :=
  match s.lst.buffer with
  | some b => if b.owner == st then b.content else s.layout
  | none => s.layout

/-- A GET's answer: the fields of the record, or NOT_FOUND (R185). -/
def getWith (fields : Layout → Option (List Byte)) (st : Station) (s : State) : Answer :=
  match fields (s.view st) with
  | some f => (s, .ok, f)
  | none => s.refuse .notFound

/-- An indexed record as a GET reply carries it (R185). -/
def indexed (f : α → List Byte) (t : Table α) (index : Nat) : Option (List Byte) :=
  (tget t index).map (fun a => putIndexed f (index, a))

/-- The record of GET_HEADER. -/
def recGetHeader (st : Station) (run : Bool) (s : State) : State :=
  s.serve st run 0x50 .setup (getWith (fun l => l.header.map putHeaderRec) st)

/-- GET_HEADER (R185). -/
def execGetHeader (st : Station) (run : Bool) (s : State) : Host.Outcome State Fault Refusal := .next (recGetHeader st run s)

/-- The record of GET_PUMP. -/
def recGetPump (st : Station) (run : Bool) (index : Nat) (s : State) : State :=
  s.serve st run 0x51 .setup (getWith (fun l => indexed putPumpRec l.pumps index) st)

/-- GET_PUMP (R185). -/
def execGetPump (st : Station) (run : Bool) (index : Nat) (s : State) : Host.Outcome State Fault Refusal :=
  .next (recGetPump st run index s)

/-- The record of GET_POINT. -/
def recGetPoint (st : Station) (run : Bool) (index : Nat) (s : State) : State :=
  s.serve st run 0x52 .setup (getWith (fun l => indexed (fun d => putBody d.body) l.points index) st)

/-- GET_POINT (R185). -/
def execGetPoint (st : Station) (run : Bool) (index : Nat) (s : State) : Host.Outcome State Fault Refusal :=
  .next (recGetPoint st run index s)

/-- The fields of GET_WINDOW: the axis, the position in one byte (assumption 21), the presence flag, R7. -/
def windowFields (axis position : Nat) (l : Layout) : Option (List Byte) :=
  (l.windows axis)[position]?.map (fun w => b1 axis ++ b1 position ++ bFlag true ++ putWindowRec w)

/-- The record of GET_WINDOW. -/
def recGetWindow (st : Station) (run : Bool) (axis position : Nat) (s : State) : State :=
  s.serve st run 0x53 .setup (getWith (windowFields axis position) st)

/-- GET_WINDOW (R185). -/
def execGetWindow (st : Station) (run : Bool) (axis position : Nat) (s : State) : Host.Outcome State Fault Refusal :=
  .next (recGetWindow st run axis position s)

/-- The record of GET_GROUP. -/
def recGetGroup (st : Station) (run : Bool) (index : Nat) (s : State) : State :=
  s.serve st run 0x54 .setup (getWith (fun l => indexed putGroupRec l.groups index) st)

/-- GET_GROUP (R185). -/
def execGetGroup (st : Station) (run : Bool) (index : Nat) (s : State) : Host.Outcome State Fault Refusal :=
  .next (recGetGroup st run index s)

/-- The record of GET_CONDITION. -/
def recGetCondition (st : Station) (run : Bool) (index : Nat) (s : State) : State :=
  s.serve st run 0x55 .setup (getWith (fun l => indexed putConditionRec l.conditions index) st)

/-- GET_CONDITION (R185). -/
def execGetCondition (st : Station) (run : Bool) (index : Nat) (s : State) : Host.Outcome State Fault Refusal :=
  .next (recGetCondition st run index s)

/-- The record of GET_PERMISSIVE. -/
def recGetPermissive (st : Station) (run : Bool) (index : Nat) (s : State) : State :=
  s.serve st run 0x56 .setup (getWith (fun l => indexed putPermRec l.permissives index) st)

/-- GET_PERMISSIVE (R185). -/
def execGetPermissive (st : Station) (run : Bool) (index : Nat) (s : State) : Host.Outcome State Fault Refusal :=
  .next (recGetPermissive st run index s)

/-- The record of GET_OPERATION. -/
def recGetOperation (st : Station) (run : Bool) (index : Nat) (s : State) : State :=
  s.serve st run 0x57 .setup (getWith (fun l => indexed putOpRec l.operations index) st)

/-- GET_OPERATION (R185). -/
def execGetOperation (st : Station) (run : Bool) (index : Nat) (s : State) : Host.Outcome State Fault Refusal :=
  .next (recGetOperation st run index s)

/-- The record of GET_LIST_BEGIN: the list's id and presence flag. -/
def recGetListBegin (st : Station) (run : Bool) (list : Nat) (s : State) : State :=
  s.serve st run 0x58 .setup (getWith (fun l => indexed (fun _ => []) l.lists list) st)

/-- GET_LIST_BEGIN (R185). -/
def execGetListBegin (st : Station) (run : Bool) (list : Nat) (s : State) : Host.Outcome State Fault Refusal :=
  .next (recGetListBegin st run list s)

/-- The fields of GET_STEP: the list, the index in one byte (assumption 21), then R110. -/
def stepFields (list index : Nat) (l : Layout) : Option (List Byte) :=
  (((tget l.lists list).getD [])[index]?).map (fun x => b1 list ++ b1 index ++ putStepRec x)

/-- The record of GET_STEP. -/
def recGetStep (st : Station) (run : Bool) (list index : Nat) (s : State) : State :=
  s.serve st run 0x59 .setup (getWith (stepFields list index) st)

/-- GET_STEP (R185). -/
def execGetStep (st : Station) (run : Bool) (list index : Nat) (s : State) : Host.Outcome State Fault Refusal :=
  .next (recGetStep st run list index s)

/-- The record of GET_TUNING. -/
def recGetTuning (st : Station) (run : Bool) (s : State) : State :=
  s.serve st run 0x5A .setup (getWith (fun l => l.tuning.map putTuningRec) st)

/-- GET_TUNING (R185). -/
def execGetTuning (st : Station) (run : Bool) (s : State) : Host.Outcome State Fault Refusal := .next (recGetTuning st run s)

end Sys2Proof.Machine
end

