-- ==== Sys2Proof/Machine/Reads.lean ====
section
/-! DEFINITION. Machine/Reads.lean: the records that report: STATUS (R181), READ_POINT (R16), READ_CONDITIONS (R52), READ_OPERATION
(R125), READ_PUMPS (R70), READ_ALARMS (R166), and the event list's SEEK_EVENTS and READ_EVENTS (R169, R170). -/
namespace Sys2Proof.Machine

/-! ### STATUS -/

/-- The fields of STATUS (R181). The order of the two link states, and one presence byte for the edit buffer's region and owner, are DESIGN CHOICE
(assumption 21). -/
def State.statusFields (st : Station) (s : State) : List Byte :=
  b1 (partPhaseCode s.lst.phase) ++ b4 s.lst.tag ++ b1 (commitCode s.lst.commit) ++
    bOpt (fun b : EditBuffer => b1 (regionCode b.region) ++ b1 (stationCode b.owner)) s.lst.buffer ++
    b1 (Mode.code s.amu.mode) ++ b1 (holderCode s.amu.holder) ++ bFlag s.amu.consent ++ bFlag s.runAsserted ++
    b1 (estopCode s.ost.estop) ++ bFlag s.ost.latch ++
    b1 (closedCode s.cev.closure.visor) ++ b1 (closedCode s.cev.closure.inner) ++ b1 (closedCode s.cev.closure.overall) ++
    (match s.osq.context with
      | some x => b1 (opStateCode x.state) ++ bOpt b1 (some x.op) ++ b2 x.causes.length
      | none => b1 0 ++ bOpt b1 none ++ b2 0) ++
    bFlag s.jogActive ++ b2 s.aeu.alarms.length ++ bFlag (s.aeu.alarms.any (fun e => e.state.unack)) ++ bFlag s.aeu.overflow ++
    b4 s.aeu.nextSerial ++ b4 (s.link st).cursor ++ bFlag (!(s.link .bridge).active) ++ bFlag (!(s.link .stand).active) ++
    b4 s.aeu.stamp

/-- The record of STATUS. -/
def recStatus (st : Station) (run : Bool) (s : State) : State :=
  s.serve st run 0x01 .always (fun x => (x, .ok, x.statusFields st))

/-- STATUS (R181). -/
def execStatus (st : Station) (run : Bool) (s : State) : Host.Outcome State Fault Refusal := .next (recStatus st run s)

/-! ### READ_POINT -/

/-- The dynamic fields of a LOCK record (R3, R16). -/
def lockFields (y : LockDyn) : List Byte :=
  b1 (confirmedCode y.confirmed) ++ bOpt b2 y.conflict ++ bOpt (fun c => b1 (faultCodeCode c)) y.fault ++ bOpt b1 y.reserved

/-- The dynamic fields of an AXIS record (R8, R16); those of transducer B while it is configured. -/
def axisDynFields (hasB : Bool) (y : AxisDyn) : List Byte :=
  bOpt b2 y.posA ++ (if hasB then bOpt b2 y.posB else []) ++ bFlag (!y.healthyA) ++ (if hasB then bFlag (!y.healthyB) else []) ++
    bOpt b2 y.p ++ b1 (zoneCode y.zone) ++ bOpt bInt y.skew ++ bFlag y.degraded ++ bOpt b2 y.tip ++
    bOpt (fun c => b1 (faultCodeCode c)) y.fault ++ b1 (driveCode y.drive) ++ bOpt b1 y.reserved

/-- The fields of READ_POINT (R16). -/
def State.pointFields (s : State) (i : Nat) : Option (List Byte) :=
  match tget s.layout.points i, tget s.pmn.points i with
  | some (.lock d), some (.lock y) => some (putBody (.lock d) ++ lockFields y)
  | some (.axis d ws), some (.axis y) => some (putBody (.axis d) ++ bList putWindowRec ws ++ axisDynFields d.transB.isSome y)
  | _, _ => none

/-- READ_POINT's rule (R16). -/
def ruleReadPoint (i : Nat) (s : State) : Answer :=
  match s.pointFields i with
  | some f => (s, .ok, f)
  | none => s.refuse .notFound

/-- The record of READ_POINT. -/
def recReadPoint (st : Station) (run : Bool) (point : Nat) (s : State) : State := s.serve st run 0x20 .always (ruleReadPoint point)

/-- READ_POINT (R16). -/
def execReadPoint (st : Station) (run : Bool) (point : Nat) (s : State) : Host.Outcome State Fault Refusal :=
  .next (recReadPoint st run point s)

/-! ### READ_CONDITIONS -/

/-- Whether a condition is built in, defined or undefined (R36, R52). -/
def State.condClass (s : State) (i : Nat) : Nat := if i < 8 then 0 else if (tget s.layout.conditions i).isSome then 1 else 2

/-- The vessel data, absent while freshness is NONE (R52). -/
def vesselFields : Option Vessel → List Byte
  | some v => bOpt bInt (some v.heel) ++ bOpt bInt (some v.pitch) ++ bOpt b2 (some v.wind)
  | none => bOpt bInt none ++ bOpt bInt none ++ bOpt b2 none

/-- The fields of READ_CONDITIONS (R52). -/
def State.conditionFields (s : State) : List Byte :=
  (List.range 32).flatMap (fun i => b1 (triCode (s.cond i)) ++ b1 (s.condClass i)) ++ vesselFields s.cev.vessel ++
    b1 (freshnessCode s.cev.freshness) ++ bOpt b2 s.cev.staleness ++ bFlag s.amu.consent ++
    b1 (closedCode s.cev.closure.visor) ++ b1 (closedCode s.cev.closure.inner) ++ b1 (closedCode s.cev.closure.overall)

/-- The record of READ_CONDITIONS. -/
def recReadConditions (st : Station) (run : Bool) (s : State) : State :=
  s.serve st run 0x21 .always (fun x => (x, .ok, x.conditionFields))

/-- READ_CONDITIONS (R52). -/
def execReadConditions (st : Station) (run : Bool) (s : State) : Host.Outcome State Fault Refusal := .next (recReadConditions st run s)

/-! ### READ_OPERATION -/

/-- A step reference: the list id, then the step index in one byte (assumption 21). -/
def putRef (r : StepRef) : List Byte := b1 r.list ++ b1 r.index

/-- The points that a step would claim now; a FLOAT_AXIS names its axis (R104). -/
def State.pointsWanted (s : State) : StepKind → List Nat
  | .driveGroup g d => s.driveSet g d
  | .moveAxis p _ _ => [p]
  | .floatAxis p => [p]
  | .wait _ _ _ => []
  | .pause _ => []
  | .call _ => []

/-- What the step at the pointer waits on (R125): the join 0, room 1, a reserved point 2, or nothing 3. DESIGN CHOICE (assumption 33): the
wait is worked out when the record is handled and the reason of the last issue attempt is not kept, so a step whose work has been done
since, or that nothing stops any more, waits on nothing; a terminal context walks no more and waits on nothing, whatever layout has
followed the one it ran under (R126). -/
def State.waitsOn (s : State) (x : Context) : Nat :=
  match ((tget s.layout.lists x.pointer.list).getD [])[x.pointer.index]? with
  | none => 3
  | some st =>
    if x.state == .complete || x.state == .aborted then 3
    else if st.join == .afterAll && !x.inFlight.isEmpty then 0
    else if s.satisfied st.kind then 3
    else if st.kind.needsRoom && decide (x.inFlight.length ≥ Config.inFlightMax) then 1
    else if (s.pointsWanted st.kind).any (fun p => (s.reservedBy p).isSome) then 2
    else 3

/-- The subject of a hold cause (8.1); the absent subject of an ESTOP cause sends no byte (assumption 21). -/
def putCauseSubject : CauseSubject → List Byte
  | .station st => b1 (stationCode st)
  | .condition c => b1 c
  | .step r => putRef r
  | .holder h => b1 (holderCode h)
  | .nothing => []
  | .point i => b1 i

/-- A hold cause with its subject. -/
def putCause (c : HoldCause) : List Byte := b1 (causeKindCode c.kind) ++ putCauseSubject c.subject

/-- A drive-set member (R125). -/
def putMember (e : Member) : List Byte :=
  b1 e.point ++ b1 (memberCode e.state) ++ bOpt b2 e.travel ++ bOpt b2 e.back ++ b2 e.retries

/-- A motion record as LDU or ADU holds it (R125). -/
def State.motionFields (s : State) (m : Nat) : List Byte :=
  match s.ldu? m, s.adu? m with
  | some g, _ =>
    b1 (groupStateCode g.state) ++ bOpt (fun h => b1 (haltCode h)) g.halt ++ bOpt (fun c => b1 (groupCauseCode c)) g.cause ++
      bOpt b2 g.granted ++ bList putMember g.members
  | none, some a =>
    b1 (moveStateCode a.state) ++ bOpt (fun h => b1 (haltCode h)) a.halt ++ bOpt (fun c => b1 (moveCauseCode c)) a.cause ++
      bOpt b2 a.granted
  | none, none => []

/-- An in-flight entry (R111, R125); the motion id stands before the motion record, both after one presence byte (assumption 21). -/
def State.entryFields (s : State) (e : Entry) : List Byte :=
  putRef e.ref ++ b1 (stepKindCode e.step.kind) ++ b1 (entryCode e.state) ++
    bOpt (fun c => b1 (stepCauseCode e.step.kind c)) e.cause ++ bOpt b2 e.remaining ++
    bOpt (fun m => b1 m ++ s.motionFields m) e.motion

/-- The first items whose bytes together stay within a room. -/
def fitting : Nat → List (List Byte) → List (List Byte)
  | _, [] => []
  | room, x :: xs => if x.length ≤ room then x :: fitting (room - x.length) xs else []

/-- A jog's kind and direction: LOCK 0 or AXIS 1, then the direction. -/
def putJogDir : JogDir → List Byte
  | .lock d => b1 0 ++ b1 (lockDirCode d)
  | .axis d => b1 1 ++ b1 (axisDirCode d)

/-- The jog record (R138). -/
def putJog (j : Jog) : List Byte :=
  b1 j.point ++ putJogDir j.dir ++ b1 (stationCode j.station) ++ b1 (phaseCode j.phase) ++ b2 j.duration ++ bOpt b2 j.timer ++
    bOpt b2 j.granted ++ bOpt (fun c => b1 (jogEndCode c)) j.cause

/-- The fields of READ_OPERATION (R125); in-flight entries that would pass the body limit are left out and counted (12.5). The count
follows the entries sent, and is sent as 0 when none is left out; without a context the state IDLE stands alone before the next motion id
(assumption 21). -/
def State.operationFields (s : State) : List Byte :=
  let tail := b1 s.osq.nextMotion ++ bOpt putJog s.osq.jog
  match s.osq.context with
  | none => b1 0 ++ tail
  | some x =>
    let head := b1 x.op ++ bList (fun c => [c]) x.name ++ b1 (stationCode x.origin) ++ b1 (opStateCode x.state) ++
      bOpt b1 x.reversed ++ b4 x.start ++ bList putRef x.stack ++ putRef x.pointer ++ b1 (s.waitsOn x) ++ bList putCause x.causes
    let all := x.inFlight.map s.entryFields
    let shown := fitting (Config.bodyMax - (1 + head.length + 1 + 2 + tail.length)) all
    head ++ b1 shown.length ++ shown.flatten ++ b2 (all.length - shown.length) ++ tail

/-- The record of READ_OPERATION. -/
def recReadOperation (st : Station) (run : Bool) (s : State) : State :=
  s.serve st run 0x22 .always (fun x => (x, .ok, x.operationFields))

/-- READ_OPERATION (R125). -/
def execReadOperation (st : Station) (run : Bool) (s : State) : Host.Outcome State Fault Refusal := .next (recReadOperation st run s)

/-! ### READ_PUMPS -/

/-- A pump as READ_PUMPS reports it (R70). -/
def putPumpDyn (p : Pump) : List Byte :=
  b2 p.capacity ++ b2 p.startTime ++ b1 (pumpStateCode p.state) ++ bOpt (fun c => b1 (pumpCauseCode c)) p.cause ++
    bFlag p.feedback ++ bOpt b2 (p.start.or p.runDown)

/-- A request (R70). -/
def putRequest (r : Request) : List Byte :=
  b1 r.motion ++ b1 (classCode r.cls) ++ b2 r.requested ++ b2 r.minimum ++ b4 r.stamp ++ b2 r.passed ++ b2 r.wait

/-- A grant (R70). -/
def putGrant (g : Grant) : List Byte := b1 g.motion ++ b1 (classCode g.cls) ++ b2 g.flow ++ b4 g.stamp

/-- The travel promotion that READ_PUMPS reports; without a tuning record the manual states none (assumption 5). -/
def State.travelPromotion (s : State) : Nat :=
  match s.layout.tuning with
  | some t => t.travelPromotion
  | none => (Config.travelPromotionUnset s.free).toNat

/-- The fields of READ_PUMPS (R70). -/
def State.pumpFields (s : State) : List Byte :=
  [0, 1, 2].flatMap (fun i => bOpt putPumpDyn (tget s.hpa.pumps i)) ++ b2 s.hpa.capacity ++ b2 s.hpa.allocation ++
    b2 s.travelPromotion ++ bOpt b2 s.hpa.idle ++ bList putRequest s.hpa.requests ++ bList putGrant s.hpa.grants

/-- READ_PUMPS's rule; a report of the unstated K takes the next free value. -/
def ruleReadPumps (s : State) : Answer :=
  (if s.layout.tuning.isNone then { s with free := s.free + 1 } else s, .ok, s.pumpFields)

/-- The record of READ_PUMPS. -/
def recReadPumps (st : Station) (run : Bool) (s : State) : State := s.serve st run 0x23 .always ruleReadPumps

/-- READ_PUMPS (R70). -/
def execReadPumps (st : Station) (run : Bool) (s : State) : Host.Outcome State Fault Refusal := .next (recReadPumps st run s)

/-! ### READ_ALARMS and ACK_ALARM -/

/-- An alarm entry (R166); its subject is one byte (assumption 21). -/
def putAlarm (e : Alarm) : List Byte := b1 (alarmKindCode e.kind) ++ b1 e.subject ++ b1 (alarmStateCode e.state) ++ b4 e.stamp

/-- The fields of READ_ALARMS from a position (R166). -/
def State.alarmFields (position : Nat) (s : State) : List Byte :=
  b2 s.aeu.alarms.length ++ bFlag s.aeu.overflow ++ bFlag s.aeu.general ++ bFlag s.aeu.sea ++
    bList putAlarm ((s.aeu.alarms.drop position).take Config.readMax)

/-- The record of READ_ALARMS. -/
def recReadAlarms (st : Station) (run : Bool) (position : Nat) (s : State) : State :=
  s.serve st run 0x24 .always (fun x => (x, .ok, x.alarmFields position))

/-- READ_ALARMS (R166). -/
def execReadAlarms (st : Station) (run : Bool) (position : Nat) (s : State) : Host.Outcome State Fault Refusal :=
  .next (recReadAlarms st run position s)

/-- ACK_ALARM's rule (R165). -/
def ruleAckAlarm (st : Station) (what : AckWhat) (s : State) : Answer :=
  match what with
  | .all => (s.withAeu (Aeu.ack (fun _ => true) none st)).accept
  | .pair k subj =>
    match alarmKindOf k with
    | none => s.refuse .badValue
    | some kind =>
      if s.aeu.alarms.any (Alarm.is kind subj) then (s.withAeu (Aeu.ack (Alarm.is kind subj) (some (kind, subj)) st)).accept
      else s.refuse .notFound

/-- The record of ACK_ALARM. -/
def recAckAlarm (st : Station) (run : Bool) (what : AckWhat) (s : State) : State := s.serve st run 0x25 .work (ruleAckAlarm st what)

/-- ACK_ALARM (R165). -/
def execAckAlarm (st : Station) (run : Bool) (what : AckWhat) (s : State) : Host.Outcome State Fault Refusal :=
  .next (recAckAlarm st run what s)

/-! ### SEEK_EVENTS and READ_EVENTS -/

/-- Sets the read cursor of a station (R169). -/
def State.setCursor (st : Station) (c : Word32) (s : State) : State := s.modLink st (fun l => { l with cursor := c })

/-- The cursor of NEWEST_LESS n (R169). -/
def Aeu.newestLess (n : Nat) (a : Aeu) : Word32 :=
  if clampSeek n ≥ a.events.length then a.oldest else a.nextSerial - 1 - BitVec.ofNat 32 (clampSeek n)

/-- SEEK_EVENTS's rule (R169); OLDEST is 0 and NEWEST_LESS is 1. -/
def ruleSeekEvents (st : Station) (choice n : Nat) (s : State) : Answer :=
  match choice with
  | 0 => (s.setCursor st s.aeu.oldest, .ok, b4 s.aeu.oldest)
  | 1 => (s.setCursor st (s.aeu.newestLess n), .ok, b4 (s.aeu.newestLess n))
  | _ => s.refuse .badValue

/-- The record of SEEK_EVENTS. -/
def recSeekEvents (st : Station) (run : Bool) (choice n : Nat) (s : State) : State :=
  s.serve st run 0x26 .work (ruleSeekEvents st choice n)

/-- SEEK_EVENTS (R169). -/
def execSeekEvents (st : Station) (run : Bool) (choice n : Nat) (s : State) : Host.Outcome State Fault Refusal :=
  .next (recSeekEvents st run choice n s)

/-- An event's kind, subject and detail, the kinds in the order of the table of 11.2. ALARM_ACKED's subject is a presence byte, 0 for ALL, then
the pair; an alarm's subject and the constant subject of ESTOP are one byte; a detail given as a dash sends no byte (assumption 21). -/
def putEvent : Event → List Byte
  | .operationStarted op o => b1 0 ++ b1 op ++ b1 (stationCode o)
  | .operationEnded op c => b1 1 ++ b1 op ++ b1 (if c then 0 else 1)
  | .hold c => b1 2 ++ putCause c
  | .resumed op => b1 3 ++ b1 op
  | .reversed op old => b1 4 ++ b1 op ++ b1 old
  | .pointFault p c => b1 5 ++ b1 p ++ b1 (faultCodeCode c)
  | .faultCleared p => b1 6 ++ b1 p
  | .pumpState p st c => b1 7 ++ b1 p ++ b1 (pumpStateCode st) ++ bOpt (fun x => b1 (pumpCauseCode x)) c
  | .modeChanged n o => b1 8 ++ b1 (Mode.code n) ++ b1 (Mode.code o)
  | .authorityChanged n o => b1 9 ++ b1 (holderCode n) ++ b1 (holderCode o)
  | .alarmRaised k subj d => b1 10 ++ b1 (alarmKindCode k) ++ b1 subj ++ b1 (raiseCode d)
  | .alarmAcked w st => b1 11 ++ bOpt (fun x : AlarmKind × Nat => b1 (alarmKindCode x.1) ++ b1 x.2) w ++ b1 (stationCode st)
  | .layoutCommitted r t => b1 12 ++ b1 (regionCode r) ++ b4 t
  | .estop d => b1 13 ++ b1 0 ++ b1 (estopDetailCode d)
  | .powerUp k => b1 14 ++ b1 (resetCode k)

/-- A record of the event list (R168). -/
def putEventRec (r : EventRec) : List Byte := b4 r.serial ++ b4 r.stamp ++ putEvent r.event

/-- READ_EVENTS's rule (R170): a cursor that is behind moves to the oldest record, the reply is marked SKIPPED and counts the lost. -/
def ruleReadEvents (st : Station) (s : State) : Answer :=
  let c := (s.link st).cursor
  let behind := s.aeu.behind c
  let start := if behind then s.aeu.oldest else c
  let lost := if behind then s.aeu.distance c - s.aeu.events.length else 0
  let rs := s.aeu.readFrom start
  (s.setCursor st (start + BitVec.ofNat 32 rs.length), .ok, bFlag behind ++ b4 (BitVec.ofNat 32 lost) ++ bList putEventRec rs)

/-- The record of READ_EVENTS. -/
def recReadEvents (st : Station) (run : Bool) (s : State) : State := s.serve st run 0x27 .always (ruleReadEvents st)

/-- READ_EVENTS (R170). -/
def execReadEvents (st : Station) (run : Bool) (s : State) : Host.Outcome State Fault Refusal := .next (recReadEvents st run s)

end Sys2Proof.Machine
end

