-- ==== Sys2Proof/Machine/Outputs.lean ====
section
/-! DEFINITION. Machine/Outputs.lean: what OST finds on its outputs and on the emergency-stop loop: coil faults (R144 to R146), proportional
faults (R148), the loop's channels, the stop and its discrepancy (R150, R151, R153). -/
namespace Sys2Proof.Machine

/-! ### Coils -/

/-- COIL_FAULT_OPEN (R144). -/
def execCoilFaultOpen (out : Nat) (s : State) : Host.Outcome State Fault Refusal := .next (s.act (State.coilLatch out .faultOpen))

/-- COIL_FAULT_SHORT (R144). -/
def execCoilFaultShort (out : Nat) (s : State) : Host.Outcome State Fault Refusal := .next (s.act (State.coilLatch out .faultShort))

/-- The outputs found stuck at one reading enter FAULT_STUCK one after the other (R144, R146); each was OFF in an ON bank at the reading. -/
def State.foundStuck (outs : List Nat) (s : State) : State :=
  let found := outs.filterMap (fun o => (s.supervised o .off).map (fun p => (o, p)))
  found.foldl (fun x e => x.coilStuck e.1 e.2) s

/-- COIL_FAULT_STUCK (R146). -/
def execCoilFaultStuck (outs : List Nat) (s : State) : Host.Outcome State Fault Refusal := .next (s.act (State.foundStuck outs))

/-- The current at the end of an output's dark pulse, in milliamperes (R145). -/
def State.darkPulse (out milliamps : Nat) (s : State) : State :=
  match s.supervised out .on with
  | some p => if milliamps > Config.stuckThreshold then s.coilStuck out p else s
  | none => s

/-- DARK_PULSE (R145). -/
def execDarkPulse (out milliamps : Nat) (s : State) : Host.Outcome State Fault Refusal := .next (s.act (State.darkPulse out milliamps))

/-! ### Proportional outputs -/

/-- An open proportional output is judged only while its command is at least 50 (R148). -/
def State.propOpen (out : Nat) (s : State) : State :=
  if s.ost.props[out]?.any (fun p => decide (p.command ≥ Config.propOpenFloor)) then s.propLatch out .faultOpen else s

/-- PROP_FAULT_OPEN (R148). -/
def execPropFaultOpen (out : Nat) (s : State) : Host.Outcome State Fault Refusal := .next (s.act (State.propOpen out))

/-- PROP_FAULT_SHORT (R148). -/
def execPropFaultShort (out : Nat) (s : State) : Host.Outcome State Fault Refusal := .next (s.act (State.propLatch out .faultShort))

/-! ### The emergency-stop loop -/

/-- The emergency stop becomes ACTIVE: OST's own acts, then its reports to HPA, OSQ, CEV and AEU (R150). -/
def State.estopActive (s : State) : State :=
  let s1 := (s.modOst Ost.stopAll).hpaStop.osqStop
  ((s1.recompute [0]).raise .estopActive 0).event (.estop .active)

/-- The readings of the two channels, with the discrepancy timer that follows them (R151). -/
def Ost.read (a b : Bool) (o : Ost) : Ost :=
  { o with
    openA := a, openB := b
    discrepancy :=
      if a == b then none
      else if o.openA == o.openB then some Config.discrepancyTime
      else o.discrepancy }

/-- OST's first report after a reset (R153): CLEAR when both channels are closed, ACTIVE with its consequences otherwise. -/
def State.firstReport (a b : Bool) (s : State) : State :=
  if s.ost.estop == .undecided then
    let s1 := s.modOst (Ost.read a b)
    if a || b then s1.estopActive else (emit .pass (s1.modOst (fun o => { o with estop := .clear }))).recompute [0]
  else s

/-- ESTOP_FIRST_REPORT (R153). -/
def execEstopFirstReport (openA openB : Bool) (s : State) : Host.Outcome State Fault Refusal :=
  .next (s.act (State.firstReport openA openB))

/-- A channel of the loop opens or closes again (R150). -/
def State.channelChange (second opened : Bool) (s : State) : State :=
  let s1 := s.modOst (fun o => if second then o.read o.openA opened else o.read opened o.openB)
  if opened && s.ost.estop == .clear then s1.estopActive else s1

/-- ESTOP_CHANNEL_CHANGE (R150). -/
def execEstopChannelChange (second opened : Bool) (s : State) : Host.Outcome State Fault Refusal :=
  .next (s.act (State.channelChange second opened))

/-- The discrepancy timer expires (R151). Each expiry raises the alarm, also while the latch is set, DESIGN CHOICE (assumption 37). -/
def State.discrepancyOut (s : State) : State :=
  if s.ost.discrepancy.isSome then
    ((s.modOst (fun o => { o with discrepancy := none, latch := true })).raise .estopDiscrepancy 0).event (.estop .discrepancy)
  else s

/-- DISCREPANCY_TIMER_EXPIRY (R151). -/
def execDiscrepancyTimerExpiry (s : State) : Host.Outcome State Fault Refusal := .next (s.act State.discrepancyOut)

end Sys2Proof.Machine
end

