-- ==== Sys2Proof/Machine/Records.lean ====
section
/-! DEFINITION. Machine/Records.lean: the records that act: authority and hold-to-run (R177, R178, R180), mode, consent and vessel data
(R157, R46, R42), operations (R113, R129, R132, R134, R137), the jog (R138), fault clearing (R14, R59) and RESET_ESTOP (R152). -/
namespace Sys2Proof.Machine

/-! ### Authority -/

/-- CLAIM_CONTROL's rule (R177). -/
def ruleClaim (st : Station) (tag : Word32) (s : State) : Answer :=
  if tag != s.lst.tag then s.refuse .wrongLayout
  else if s.holds st then s.accept
  else if s.amu.holder == .none then (s.changeHolder (holderOf st)).accept
  else
    match st with
    | .stand => if s.contextLive || s.jogActive then s.refuse .refusedState else (s.changeHolder .stand).accept
    | .bridge => s.refuse .refusedAuthority

/-- The record of CLAIM_CONTROL. -/
def recClaim (st : Station) (run : Bool) (tag : Word32) (s : State) : State := s.serve st run 0x02 .setup (ruleClaim st tag)

/-- CLAIM_CONTROL (R177). -/
def execClaimControl (st : Station) (run : Bool) (tag : Word32) (s : State) : Host.Outcome State Fault Refusal :=
  .next (recClaim st run tag s)

/-- RELEASE_CONTROL's rule (R178). -/
def ruleRelease (st : Station) (s : State) : Answer :=
  if s.holds st then (s.changeHolder .none).accept else s.refuse .refusedAuthority

/-- The record of RELEASE_CONTROL. -/
def recRelease (st : Station) (run : Bool) (s : State) : State := s.serve st run 0x03 .always (ruleRelease st)

/-- RELEASE_CONTROL (R178). -/
def execReleaseControl (st : Station) (run : Bool) (s : State) : Host.Outcome State Fault Refusal := .next (recRelease st run s)

/-- HOLD_TO_RUN's rule (R180). -/
def ruleHoldToRun (st : Station) (s : State) : Answer := if s.holds st then s.accept else s.refuse .refusedAuthority

/-- The record of HOLD_TO_RUN. -/
def recHoldToRun (st : Station) (run : Bool) (s : State) : State := s.serve st run 0x04 .work (ruleHoldToRun st)

/-- HOLD_TO_RUN (R180). -/
def execHoldToRun (st : Station) (run : Bool) (s : State) : Host.Outcome State Fault Refusal := .next (recHoldToRun st run s)

/-! ### Mode, consent, vessel data -/

/-- SET_MODE's rule (R157). -/
def ruleSetMode (st : Station) (code : Nat) (s : State) : Answer :=
  match st with
  | .stand => s.refuse .refusedStation
  | .bridge =>
    match modeOf code with
    | none => s.refuse .badValue
    | some m =>
      if m == s.amu.mode then s.accept
      else
        match m with
        | .sea =>
          if s.amu.mode != .harbour || s.contextLive || s.cev.closure.overall != .secured then s.refuse .refusedState
          else (s.changeMode .sea).accept
        | .maintenance =>
          if s.amu.mode != .harbour || s.contextLive then s.refuse .refusedState else (s.changeMode .maintenance).accept
        | .harbour => if s.contextLive || s.jogActive then s.refuse .busy else (s.changeMode .harbour).accept

/-- The record of SET_MODE. -/
def recSetMode (st : Station) (run : Bool) (mode : Nat) (s : State) : State := s.serve st run 0x05 .full (ruleSetMode st mode)

/-- SET_MODE (R157). -/
def execSetMode (st : Station) (run : Bool) (mode : Nat) (s : State) : Host.Outcome State Fault Refusal :=
  .next (recSetMode st run mode s)

/-- Start-up CHECKING without a valid image (R188). -/
def State.bareCheck (s : State) : Bool := s.lst.phase == .checking && s.lst.active.isNone

/-- CONSENT's rule (R46). `none` stands for an argument that is neither on nor off, for which R46 gives no answer: BAD_VALUE after its checks
of phase and station, with no change (assumption 21). -/
def ruleConsent (st : Station) (on : Option Bool) (s : State) : Answer :=
  if s.bareCheck then s.refuse .refusedState
  else
    match st with
    | .stand => s.refuse .refusedStation
    | .bridge =>
      match on with
      | none => s.refuse .badValue
      | some x => if x && s.amu.mode != .harbour then s.refuse .refusedMode else (s.setConsent x).accept

/-- The record of CONSENT. -/
def recConsent (st : Station) (run : Bool) (on : Option Bool) (s : State) : State := s.serve st run 0x06 .work (ruleConsent st on)

/-- CONSENT (R46). -/
def execConsent (st : Station) (run : Bool) (on : Bool) (s : State) : Host.Outcome State Fault Refusal :=
  .next (recConsent st run (some on) s)

/-- VESSEL_STATE's acceptance (R42). -/
def State.takeVessel (heel pitch wind : Int) (s : State) : State :=
  let v : Vessel := { heel := clampAngle heel, pitch := clampAngle pitch, wind := clampWind wind }
  let s1 := { s with cev := { s.cev with
    vessel := some v, freshness := .fresh, staleness := some Config.stalenessTime } }.recompute [1, 2]
  if s.cev.freshness == .stale then s1.clearAlarm .vesselDataLost 0 else s1

/-- VESSEL_STATE's rule (R42). -/
def ruleVessel (st : Station) (heel pitch wind : Int) (s : State) : Answer :=
  if s.bareCheck then s.refuse .refusedState
  else
    match st with
    | .stand => s.refuse .refusedStation
    | .bridge =>
      (s.takeVessel heel pitch wind, .ok, bInt (clampAngle heel) ++ bInt (clampAngle pitch) ++ b2 (clampWind wind))

/-- The record of VESSEL_STATE. -/
def recVessel (st : Station) (run : Bool) (heel pitch wind : Int) (s : State) : State :=
  s.serve st run 0x07 .work (ruleVessel st heel pitch wind)

/-- VESSEL_STATE (R42). -/
def execVesselState (st : Station) (run : Bool) (heel pitch wind : Int) (s : State) : Host.Outcome State Fault Refusal :=
  .next (recVessel st run heel pitch wind s)

/-! ### Operations -/

/-- An accepted START_OPERATION (R114). -/
def State.startContext (op : Nat) (d : OpDef) (st : Station) (s : State) : State :=
  let s1 := { s with osq := { s.osq with context := some (newContext op d st none s.aeu.stamp) } }
  emit .issue (s1.event (.operationStarted op st))

/-- START_OPERATION's rule (R113). -/
def ruleStart (st : Station) (op : Nat) (s : State) : Answer :=
  match tget s.layout.operations op with
  | none => s.refuse .notFound
  | some d =>
    if !s.holds st then s.refuse .refusedAuthority
    else if !d.modes.contains s.amu.mode then s.refuse .refusedMode
    else if s.contextLive || s.jogActive then s.refuse .busy
    else (s.startContext op d st).accept

/-- The record of START_OPERATION. -/
def recStart (st : Station) (run : Bool) (op : Nat) (s : State) : State := s.serve st run 0x10 .full (ruleStart st op)

/-- START_OPERATION (R113). -/
def execStartOperation (st : Station) (run : Bool) (op : Nat) (s : State) : Host.Outcome State Fault Refusal :=
  .next (recStart st run op s)

/-- The hold cause of a STOP (R129). -/
def stopCause (st : Station) : HoldCause := { kind := .stopRequest, subject := .station st }

/-- STOP's rule (R129). -/
def ruleStop (st : Station) (s : State) : Answer := ((s.endJog .stopped).giveCause (stopCause st)).accept

/-- The record of STOP. -/
def recStop (st : Station) (run : Bool) (s : State) : State := s.serve st run 0x11 .work (ruleStop st)

/-- STOP (R129). -/
def execStop (st : Station) (run : Bool) (s : State) : Host.Outcome State Fault Refusal := .next (recStop st run s)

/-- A hold cause kind stands in the set. -/
def Context.has (x : Context) (k : CauseKind) : Bool := x.causes.any (fun c => c.kind == k)

/-- A point reserved by the motion of a HALTED entry has a fault (R132, check 4). -/
def State.haltedFault (s : State) (x : Context) : Bool :=
  x.inFlight.any (fun e => e.state == .halted && e.motion.any (fun m =>
    s.pmn.points.any (fun p => p.2.reserved == some m && p.2.fault.isSome)))

/-- The points of a step (R132, check 5). -/
def State.stepPoints (s : State) : StepKind → List Nat
  | .driveGroup g _ => ((tget s.layout.groups g).map (fun d => d.members)).getD []
  | .moveAxis p _ _ => [p]
  | .floatAxis _ => []
  | .wait _ _ _ => []
  | .pause _ => []
  | .call _ => []

/-- The step a reference names. -/
def State.stepAt (s : State) (r : StepRef) : Option Step := ((tget s.layout.lists r.list).getD [])[r.index]?

/-- A point of the step of STEP_FAILED has a fault (R132, check 5). -/
def State.failedStepFault (s : State) (x : Context) : Bool :=
  x.causes.any (fun c =>
    match c.kind, c.subject with
    | .stepFailed, .step r => (s.stepAt r).any (fun st => (s.stepPoints st.kind).any (fun p => (s.faultOf p).isSome))
    | _, _ => false)

/-- The step is a MOVE_AXIS. -/
def isMove : StepKind → Bool
  | .moveAxis _ _ _ => true
  | .driveGroup _ _ => false
  | .floatAxis _ => false
  | .wait _ _ _ => false
  | .pause _ => false
  | .call _ => false

/-- An in-flight entry or the step at the pointer is a MOVE_AXIS (R132, check 6). -/
def State.moveAhead (s : State) (x : Context) : Bool :=
  x.inFlight.any (fun e => isMove e.step.kind) || (s.stepAt x.pointer).any (fun st => isMove st.kind)

/-- RESUME's rule (R132). -/
def ruleResume (st : Station) (run : Bool) (s : State) : Answer :=
  if !s.holds st then s.refuse .refusedAuthority
  else
    match s.osq.context with
    | none => s.refuse .refusedState
    | some x =>
      if x.state != .holding then s.refuse .refusedState
      else if x.has .estop && s.ost.estop == .active then s.refuse .stillHeld
      else if s.haltedFault x then s.refuse .stillHeld
      else if s.failedStepFault x then s.refuse .stillHeld
      else if !run && s.moveAhead x then s.refuse .stillHeld
      else s.resumeAccepted.accept

/-- The record of RESUME. -/
def recResume (st : Station) (run : Bool) (s : State) : State := s.serve st run 0x12 .full (ruleResume st run)

/-- RESUME (R132). -/
def execResume (st : Station) (run : Bool) (s : State) : Host.Outcome State Fault Refusal := .next (recResume st run s)

/-- REVERSE's rule (R134). -/
def ruleReverse (st : Station) (s : State) : Answer :=
  if !s.holds st then s.refuse .refusedAuthority
  else
    match s.osq.context with
    | none => s.refuse .refusedState
    | some x =>
      if x.state != .running && x.state != .holding then s.refuse .refusedState
      else
        match s.reverseOf x with
        | none => s.refuse .refusedState
        | some (_, d) =>
          if !d.modes.contains s.amu.mode then s.refuse .refusedState
          else if x.has .estop && s.ost.estop == .active then s.refuse .refusedState
          else
            let s1 := if x.state == .running then s.giveCause (stopCause st) else s
            (s1.reversal st).accept

/-- The record of REVERSE. -/
def recReverse (st : Station) (run : Bool) (s : State) : State := s.serve st run 0x13 .full (ruleReverse st)

/-- REVERSE (R134). -/
def execReverse (st : Station) (run : Bool) (s : State) : Host.Outcome State Fault Refusal := .next (recReverse st run s)

/-- ABORT's rule (R137). -/
def ruleAbort (st : Station) (s : State) : Answer :=
  if !s.holds st then s.refuse .refusedAuthority
  else if !s.contextLive then s.refuse .refusedState
  else s.abortContext.accept

/-- The record of ABORT. -/
def recAbort (st : Station) (run : Bool) (s : State) : State := s.serve st run 0x14 .full (ruleAbort st)

/-- ABORT (R137). -/
def execAbort (st : Station) (run : Bool) (s : State) : Host.Outcome State Fault Refusal := .next (recAbort st run s)

/-! ### The jog -/

/-- The class and the flow of a jog's request (R61). -/
def State.jogFlow (s : State) (p : Nat) : FlowClass × Nat :=
  match tget s.layout.points p with
  | some (.lock d) => (.locking, d.flow)
  | some (.axis d _) => (.travel, commandFlow d.vMin d.qFull)
  | none => (.locking, 0)

/-- An accepted JOG (R138). -/
def State.startJog (st : Station) (p : Nat) (dir : JogDir) (duration : Nat) (s : State) : State :=
  let j : Jog := { point := p, dir := dir, station := st, duration := clampDuration duration }
  if s.jogThere p dir then
    { s with osq := { s.osq with jog := some { j with phase := .ended, cause := some .completed } } }
  else
    match s.claim Config.jogMotion [p] with
    | some s1 =>
      let f := s1.jogFlow p
      ({ s1 with osq := { s1.osq with jog := some j } }).request Config.jogMotion f.1 f.2 f.2
    | none => s

/-- JOG's rule (R138). -/
def ruleJog (st : Station) (run : Bool) (p d duration : Nat) (s : State) : Answer :=
  if (tget s.layout.points p).isNone then s.refuse .notFound
  else
    match jogDirOf s.layout p d with
    | none => s.refuse .badValue
    | some dir =>
      if !s.holds st then s.refuse .refusedAuthority
      else if s.amu.mode != .maintenance then s.refuse .refusedMode
      else if !run || s.ost.estop == .active then s.refuse .refusedState
      else if s.contextLive || s.jogActive || (s.reservedBy p).isSome then s.refuse .busy
      else (s.startJog st p dir duration).accept

/-- The record of JOG. -/
def recJog (st : Station) (run : Bool) (p d duration : Nat) (s : State) : State := s.serve st run 0x15 .full (ruleJog st run p d duration)

/-- JOG (R138). -/
def execJog (st : Station) (run : Bool) (point dir duration : Nat) (s : State) : Host.Outcome State Fault Refusal :=
  .next (recJog st run point dir duration s)

/-! ### Fault clearing -/

/-- The DEGRADED flag of a point. -/
def State.degraded (s : State) (p : Nat) : Bool := (s.axis? p).any (fun y => y.degraded)

/-- The DEGRADED flag cannot be cleared yet (R14, check 5). -/
def State.degradedStays (s : State) (p : Nat) : Bool := s.degraded p && !(s.layout.axis? p).any s.allChannelsOk

/-- Clears a point's fault and DEGRADED flag (R14, R147); the changed record goes to CEV and, of a floating axis, to ADU (R8). -/
def State.clearPoint (p : Nat) (s : State) : State :=
  let was := s.degraded p
  let s1 := { s with pmn := { s.pmn with points := tmod s.pmn.points p (fun d =>
    match d with
    | .lock y => .lock { y with fault := none }
    | .axis y => .axis { y with fault := none, degraded := false }) } }
  let owned := tget s.layout.points p
  let s2 := s1.releaseLatches (fun o => owned.any (fun d => (coilsOf d).contains o)) (fun o => owned.any (fun d => (propsOf d).contains o))
  let s3 := ((s2.pointToCev p).event (.faultCleared p)).clearAlarm .pointFault p
  (if was then s3.clearAlarm .transducerLost p else s3).handFloat p

/-- The rule of CLEAR_FAULT naming a point (R14). -/
def ruleClearPoint (st : Station) (p : Nat) (s : State) : Answer :=
  if (tget s.pmn.points p).isNone then s.refuse .notFound
  else if !s.holds st then s.refuse .refusedAuthority
  else if s.amu.mode == .sea then s.refuse .refusedMode
  else if (s.faultOf p).isNone && !s.degraded p then s.accept
  else if (s.faultOf p).any (s.underlying p) || s.degradedStays p then s.refuse .refusedState
  else (s.clearPoint p).accept

/-- The record of CLEAR_FAULT naming a point. -/
def recClearPoint (st : Station) (run : Bool) (p : Nat) (s : State) : State := s.serve st run 0x16 .full (ruleClearPoint st p)

/-- CLEAR_FAULT naming a point (R14). -/
def execClearFaultPoint (st : Station) (run : Bool) (point : Nat) (s : State) : Host.Outcome State Fault Refusal :=
  .next (recClearPoint st run point s)

/-- The rule of CLEAR_FAULT naming a pump (R59). -/
def ruleClearPump (st : Station) (p : Nat) (s : State) : Answer :=
  match tget s.hpa.pumps p with
  | none => s.refuse .notFound
  | some q =>
    if !s.holds st then s.refuse .refusedAuthority
    else if q.state != .faulted then s.accept
    else if q.feedback then s.refuse .refusedState
    else (s.setPump p .stopped none none).accept

/-- The record of CLEAR_FAULT naming a pump. -/
def recClearPump (st : Station) (run : Bool) (p : Nat) (s : State) : State := s.serve st run 0x16 .full (ruleClearPump st p)

/-- CLEAR_FAULT naming a pump (R59). -/
def execClearFaultPump (st : Station) (run : Bool) (pump : Nat) (s : State) : Host.Outcome State Fault Refusal :=
  .next (recClearPump st run pump s)

/-! ### RESET_ESTOP -/

/-- The emergency stop returns to CLEAR, and OST reports it to HPA, CEV and AEU (R69, R152). -/
def State.estopOver (s : State) : State :=
  let s1 := (emit .pass (s.modOst Ost.stopOver)).recompute [0]
  let s2 := s1.clearAlarm .estopActive 0
  let s3 := if s.ost.latch then s2.clearAlarm .estopDiscrepancy 0 else s2
  s3.event (.estop .clear)

/-- RESET_ESTOP's rule (R152); the state before the first report is neither CLEAR nor ACTIVE, and takes the checks of
any state but CLEAR, DESIGN CHOICE (assumption 25). -/
def ruleResetEstop (st : Station) (s : State) : Answer :=
  if s.amu.holder != .none && !s.holds st then s.refuse .refusedAuthority
  else if s.ost.estop == .clear then s.accept
  else if s.ost.openA || s.ost.openB then s.refuse .refusedState
  else s.estopOver.accept

/-- The record of RESET_ESTOP. -/
def recResetEstop (st : Station) (run : Bool) (s : State) : State := s.serve st run 0x17 .full (ruleResetEstop st)

/-- RESET_ESTOP (R152). -/
def execResetEstop (st : Station) (run : Bool) (s : State) : Host.Outcome State Fault Refusal := .next (recResetEstop st run s)

end Sys2Proof.Machine
end

