-- ==== Sys2Proof/Machine/Frames.lean ====
section
/-! DEFINITION. Machine/Frames.lean: the Station Link Interface: the receive states (R173), the structure of a frame, its records and the reply
frame (R174), and records that no kind of 12.6 can take (R175). -/
namespace Sys2Proof.Machine

/-! ### Records of a frame -/

/-- A record of a request frame (12.6). -/
structure RawRecord where
  kind  : Byte
  flags : Byte
  body  : List Byte
deriving DecidableEq, Repr

/-- RUN is set. -/
def RawRecord.run (r : RawRecord) : Bool := r.flags.getLsbD 0

/-- MORE is set. -/
def RawRecord.more (r : RawRecord) : Bool := r.flags.getLsbD 7

/-- What a FRAME_ERROR reports (R174). -/
inductive FrameError
  | length
  | count
  | chain
deriving DecidableEq, Repr

/-- The body byte of a FRAME_ERROR (12.6). -/
def frameErrorCode : FrameError → Nat
  | .length => 0
  | .count => 1
  | .chain => 2

/-- Walks record bytes header by header (R174), given how many records may still begin. The first failure found is the answer. -/
def splitRecords : Nat → List Byte → Except FrameError (List RawRecord)
  | 0, _ => .error .count
  | n + 1, k :: f :: l :: rest =>
    if rest.length < l.toNat then .error .length
    else
      let r : RawRecord := { kind := k, flags := f, body := rest.take l.toNat }
      let tail := rest.drop l.toNat
      match tail.isEmpty, r.more with
      | true, true => .error .chain
      | true, false => .ok [r]
      | false, false => .error .length
      | false, true =>
        match splitRecords n tail with
        | .ok rs => .ok (r :: rs)
        | .error e => .error e
  | _ + 1, _ => .error .length

/-! ### Records that cannot be taken -/

/-- A BAD_RECORD reply (R175): a kind below 80h with 80h added, or 80h. Nothing else changes, hold-to-run included (R180). -/
def State.badRecord (st : Station) (kind : Byte) (s : State) : State :=
  s.setReply st (if kind < 0x80 then kind + 0x80 else 0x80) .badRecord []

/-- BAD_RECORD (R175). -/
def execBadRecord (st : Station) (kind : Byte) (s : State) : Host.Outcome State Fault Refusal :=
  .next (if s.held then s else s.badRecord st kind)

/-! ### From a record's bytes to its rule -/

/-- Reads the body of a record and hands the arguments on, with whether a value lay outside its list; BAD_RECORD where the body length is not
one that the kind's fields can fill (R175). -/
def takeBody {α : Type} (rd : Reader α) (f : Bool → α → State → State) (st : Station) (r : RawRecord) (s : State) : State :=
  if r.body.length > Config.bodyMax then s.badRecord st r.kind
  else
    match readBody rd r.body with
    | some (a, bad) => f bad a s
    | none => s.badRecord st r.kind

/-- A record with an empty body. -/
def takeEmpty (f : State → State) (st : Station) (r : RawRecord) (s : State) : State := takeBody (rPure ()) (fun _ _ => f) st r s

/-- A record of a PUT with index and presence flag. -/
def takeGiven {α : Type} (rd : Reader α) (f : Nat → Given α → State → State) (st : Station) (r : RawRecord) (s : State) : State :=
  takeBody (getGiven rd) (fun bad a => f a.1 (givenOf bad a.2)) st r s

/-- The arguments of CLEAR_FAULT: POINT or PUMP, then the index. Another first argument has no owner: BAD_VALUE (assumption 21). -/
def recClear (st : Station) (run : Bool) (what index : Nat) (s : State) : State :=
  match what with
  | 0 => recClearPoint st run index s
  | 1 => recClearPump st run index s
  | _ => s.serve st run 0x16 .full (fun x => x.refuse .badValue)

/-- The arguments of ACK_ALARM: ALL is 0; a pair is 1, its kind and its subject in one byte (assumption 21). -/
def getAckWhat : Reader AckWhat := rSelect [rPure .all, rThen r1 (fun kind => rThen r1 (fun subj => rPure (.pair kind subj)))]

/-- The arguments of SEEK_EVENTS: OLDEST is 0; NEWEST_LESS is 1 and its count. -/
def getSeek : Reader (Nat × Nat) := rSelect [rPure (0, 0), rThen r2 (fun n => rPure (1, n))]

/-- Handles a record of the kinds 01h to 17h (12.6). -/
def handleControl (st : Station) (r : RawRecord) (s : State) : State :=
  let run := r.run
  match r.kind.toNat with
  | 0x01 => takeEmpty (recStatus st run) st r s
  | 0x02 => takeBody r4 (fun _ tag => recClaim st run tag) st r s
  | 0x03 => takeEmpty (recRelease st run) st r s
  | 0x04 => takeEmpty (recHoldToRun st run) st r s
  | 0x05 => takeBody r1 (fun _ m => recSetMode st run m) st r s
  | 0x06 => takeBody rFlag (fun bad on => recConsent st run (if bad then none else some on)) st r s
  | 0x07 => takeBody (rPair rInt (rPair rInt r2)) (fun _ v => recVessel st run v.1 v.2.1 v.2.2) st r s
  | 0x10 => takeBody r1 (fun _ op => recStart st run op) st r s
  | 0x11 => takeEmpty (recStop st run) st r s
  | 0x12 => takeEmpty (recResume st run) st r s
  | 0x13 => takeEmpty (recReverse st run) st r s
  | 0x14 => takeEmpty (recAbort st run) st r s
  | 0x15 => takeBody (rPair r1 (rPair r1 r2)) (fun _ v => recJog st run v.1 v.2.1 v.2.2) st r s
  | 0x16 => takeBody (rPair r1 r1) (fun _ v => recClear st run v.1 v.2) st r s
  | 0x17 => takeEmpty (recResetEstop st run) st r s
  | _ => s.badRecord st r.kind

/-- Handles a record of the kinds 20h to 32h. READ_ALARMS carries its position in one byte (assumption 21). -/
def handleReads (st : Station) (r : RawRecord) (s : State) : State :=
  let run := r.run
  match r.kind.toNat with
  | 0x20 => takeBody r1 (fun _ p => recReadPoint st run p) st r s
  | 0x21 => takeEmpty (recReadConditions st run) st r s
  | 0x22 => takeEmpty (recReadOperation st run) st r s
  | 0x23 => takeEmpty (recReadPumps st run) st r s
  | 0x24 => takeBody r1 (fun _ p => recReadAlarms st run p) st r s
  | 0x25 => takeBody getAckWhat (fun bad w => recAckAlarm st run (if bad then .pair 255 0 else w)) st r s
  | 0x26 => takeBody getSeek (fun bad v => recSeekEvents st run (if bad then 255 else v.1) v.2) st r s
  | 0x27 => takeEmpty (recReadEvents st run) st r s
  | 0x30 => takeBody r1 (fun _ g => recOpen st run g) st r s
  | 0x31 => takeEmpty (recCommit st run) st r s
  | 0x32 => takeEmpty (recDiscard st run) st r s
  | _ => s.badRecord st r.kind

/-- Handles a record of the kinds 40h to 4Ah. PUT_WINDOW carries its position in one byte (assumption 21). -/
def handlePuts (st : Station) (r : RawRecord) (s : State) : State :=
  let run := r.run
  match r.kind.toNat with
  | 0x40 => takeBody getHeaderRec (fun bad h => recPutHeader st run (if bad then none else some h)) st r s
  | 0x41 => takeGiven getPumpRec (recPutPump st run) st r s
  | 0x42 => takeGiven getBody (recPutPoint st run) st r s
  | 0x43 => takeBody (rPair r1 (getGiven getWindowRec)) (fun bad v => recPutWindow st run v.1 v.2.1 (givenOf bad v.2.2)) st r s
  | 0x44 => takeGiven getGroupRec (recPutGroup st run) st r s
  | 0x45 => takeGiven (rList getTerm) (recPutCondition st run) st r s
  | 0x46 => takeGiven getPermRec (recPutPermissive st run) st r s
  | 0x47 => takeGiven getOpRec (recPutOperation st run) st r s
  | 0x48 => takeBody (rPair r1 rFlag) (fun bad v => recListBegin st run v.1 (if bad then none else some v.2)) st r s
  | 0x49 => takeBody getStepRec (fun bad x => recPutStep st run (if bad then none else some x)) st r s
  | 0x4A => takeBody getTuningRec (fun _ t => recPutTuning st run t) st r s
  | _ => s.badRecord st r.kind

/-- Handles a record of the kinds 50h to 5Ah. GET_WINDOW's position and GET_STEP's step index are one byte each (assumption 21). -/
def handleGets (st : Station) (r : RawRecord) (s : State) : State :=
  let run := r.run
  match r.kind.toNat with
  | 0x50 => takeEmpty (recGetHeader st run) st r s
  | 0x51 => takeBody r1 (fun _ i => recGetPump st run i) st r s
  | 0x52 => takeBody r1 (fun _ i => recGetPoint st run i) st r s
  | 0x53 => takeBody (rPair r1 r1) (fun _ v => recGetWindow st run v.1 v.2) st r s
  | 0x54 => takeBody r1 (fun _ i => recGetGroup st run i) st r s
  | 0x55 => takeBody r1 (fun _ i => recGetCondition st run i) st r s
  | 0x56 => takeBody r1 (fun _ i => recGetPermissive st run i) st r s
  | 0x57 => takeBody r1 (fun _ i => recGetOperation st run i) st r s
  | 0x58 => takeBody r1 (fun _ i => recGetListBegin st run i) st r s
  | 0x59 => takeBody (rPair r1 r1) (fun _ v => recGetStep st run v.1 v.2) st r s
  | 0x5A => takeEmpty (recGetTuning st run) st r s
  | _ => s.badRecord st r.kind

/-- Handles one record of a frame (R174, R175). -/
def handleRecord (st : Station) (r : RawRecord) (s : State) : State :=
  if r.kind < 0x20 then handleControl st r s
  else if r.kind < 0x40 then handleReads st r s
  else if r.kind < 0x50 then handlePuts st r s
  else handleGets st r s

/-! ### Reply frames -/

/-- A reply record in bytes (R174): RUN is clear. -/
def replyRecord (more : Bool) (r : Reply) : List Byte :=
  [r.kind, if more then 0x80 else 0x00] ++ b1 (r.fields.length + 1) ++ b1 (resultCode r.result) ++ r.fields

/-- Reply records in bytes, MORE set on all but the last (R174). -/
def replyRecords : List Reply → List Byte
  | [] => []
  | [r] => replyRecord false r
  | r :: q :: rs => replyRecord true r ++ replyRecords (q :: rs)

/-- The part's station address (R172). -/
def State.address (s : State) : Byte := 0x20 + s.sli.straps.address.zeroExtend 8

/-- A frame (12.6): A5h, the address, the length, the record bytes and the CRC-16. -/
def frameBytes (address : Byte) (records : List Byte) : List Byte :=
  let body := address :: (b2 records.length ++ records)
  0xA5 :: (body ++ b2 (crc16 body).toNat)

/-- SLI sends a reply frame (R174). -/
def State.sendReply (st : Station) (records : List Byte) (s : State) : State :=
  s.modLink st (fun l => { l with sent := frameBytes s.address records })

/-- Handles records one at a time, in frame order, and gathers their replies (R174). -/
def handleRecords (st : Station) : List RawRecord → State → State × List Reply
  | [], s => (s, [])
  | r :: rs, s =>
    let s1 := handleRecord st r s
    let q := handleRecords st rs s1
    (q.1, (s1.link st).reply.toList ++ q.2)

/-- Handles the record bytes of a frame that has passed its CRC, and sends the reply frame (R174). -/
def State.handleFrame (st : Station) (records : List Byte) (s : State) : State :=
  match splitRecords (Config.frameRecordsMax) records with
  | .ok rs =>
    let q := handleRecords st rs s
    q.1.sendReply st (replyRecords q.2)
  | .error e => s.sendReply st ([0xFF, 0x00] ++ b1 1 ++ b1 (frameErrorCode e))

/-! ### Receiving -/

/-- The link returns to HUNT with no bytes held (R173). -/
def Link.hunt (l : Link) : Link := { l with rx := .hunt, bytes := [], ignored := false }

/-- The length that the bytes of a frame state, from its address byte on (12.6). -/
def statedLength (bytes : List Byte) : Nat := (bytes.getD 1 0).toNat * 256 + (bytes.getD 2 0).toNat

/-- The CRC of a frame passes (R173): `bytes` run from the address byte to the last CRC byte. -/
def crcPasses (bytes : List Byte) : Bool :=
  let n := bytes.length - 2
  bytes.drop n == b2 (crc16 (bytes.take n)).toNat

/-- A complete frame for the part's address (R173, R174): a frame that fails its CRC is dropped without a reply. -/
def State.frameIn (st : Station) (bytes : List Byte) (s : State) : State :=
  let s1 := s.modLink st Link.hunt
  if crcPasses bytes then (s1.linkHeard st).handleFrame st ((bytes.drop 3).take (statedLength bytes)) else s1

/-- A byte received on a link (R173). -/
def State.takeByte (st : Station) (b : Byte) (s : State) : State :=
  let l := { s.link st with gapOver := false }
  let bytes := l.bytes ++ [b]
  let set (x : Link) : State := s.modLink st (fun _ => x)
  match l.rx with
  | .hunt => set (if b == 0xA5 then { l.hunt with rx := .address } else l)
  | .address => set { l with rx := .length, bytes := bytes, ignored := b != s.address }
  | .length =>
    if bytes.length < 3 then set { l with bytes := bytes }
    else if inRange 1 1020 (statedLength bytes) then set { l with rx := .records, bytes := bytes }
    else set l.hunt
  | .records => set { l with rx := if bytes.length < 3 + statedLength bytes then .records else .check, bytes := bytes }
  | .check =>
    if bytes.length < 5 + statedLength bytes then set { l with bytes := bytes }
    else if l.ignored then set l.hunt
    else (set l).frameIn st bytes

/-- RECEIVED_BYTE (R173); while the reset input is energized the links receive nothing (R187). -/
def execReceivedByte (link : Station) (b : Byte) (s : State) : Host.Outcome State Fault Refusal :=
  .next (if s.held then s else s.takeByte link b)

/-- INTER_BYTE_GAP (R173): more than 20 ms have passed since the last byte, and a frame under way is discarded. -/
def execInterByteGap (link : Station) (s : State) : Host.Outcome State Fault Refusal :=
  .next (if s.held then s else s.modLink link (fun l => { l.hunt with gapOver := true }))

/-- The bytes are those of one complete frame for the part's address: A5h, the address, a length of 1 to 1020 with its record bytes, the
CRC (R173, 12.6). -/
def State.completeFrame (s : State) : List Byte → Bool
  | [] => false
  | a :: bytes =>
    a == 0xA5 && bytes.head? == some s.address && inRange 1 1020 (statedLength bytes) &&
      decide (bytes.length = 5 + statedLength bytes)

/-- REQUEST_FRAME (R173, R174): a whole frame at once, with the receive state in HUNT before and after. Bytes that are no complete frame for the
part's address are dropped. -/
def execRequestFrame (link : Station) (bytes : List Byte) (s : State) : Host.Outcome State Fault Refusal :=
  .next
    (if s.held then s
    else
      let s1 := s.modLink link (fun l => { l.hunt with gapOver := false })
      if s.completeFrame bytes then s1.frameIn link bytes.tail else s1)

end Sys2Proof.Machine
end

