-- ==== Sys2Proof/Machine/Sensing.lean ====
section
/-! DEFINITION. Machine/Sensing.lean: the sensing commands: discrete samples and debounced changes (R18 to R20, R24, R25), analog samples and
recovery (R21 to R24, R34), the conflict timer (R26). -/
namespace Sys2Proof.Machine

/-! ### Discrete inputs -/

/-- The sample count n of a class (R18). -/
def sampleCount (t : Tuning) : DebounceClass → Nat
  | .sensor => divUp t.debSensor Config.samplePeriod
  | .general => divUp t.debGeneral Config.samplePeriod
  | .feedback => divUp t.debFeedback Config.samplePeriod

/-- One sample of an assigned input: the input after it, and whether its value is handed over (R19, R20, R24). -/
def Discrete.sample (n : Nat) (raw : Bool) (d : Discrete) : Discrete × Bool :=
  if d.rescan then ({ d with debounced := raw, count := 0, rescan := false }, true)
  else if raw = d.debounced then ({ d with count := 0 }, false)
  else if d.count + 1 < n then ({ d with count := d.count + 1 }, false)
  else ({ d with debounced := raw, count := 0 }, true)

/-- The debounced value changes at a sample that reaches n, or at a rescan (R19, R20). -/
def Discrete.flips (n : Nat) (raw : Bool) (d : Discrete) : Bool :=
  d.rescan || (raw != d.debounced && decide (n ≤ d.count + 1))

/-- The changes of one sample instant are handed over together (R18, R19): to PMN, lock by lock in ascending index, to CEV, to HPA. HPA takes them
pump by pump in ascending index, each with every consequence of R56 before the next (assumption 2). -/
def State.handDiscrete (field feedback : List Nat) (s : State) : State :=
  let locks := (s.layout.points.filter (fun e => (sensorsOf e.2).any field.contains)).map (fun e => e.1)
  let s1 := locks.foldl (fun x i => x.lockSensors i) s
  let deck := s.layout.header.any (fun h => h.deckClear.any field.contains)
  let span := s.layout.header.any (fun h => h.linkspan.any field.contains)
  let s2 := if deck || span then s1.recompute ((if deck then [4] else []) ++ (if span then [5] else [])) else s1
  feedback.foldl (fun x p => emit (.feedback p ((tget x.isc.feedback p).any (fun d => d.debounced))) x) s2

/-- Every assigned analog input has its first filtered value, and the first discrete samples have been taken (R24). -/
def Isc.complete (i : Isc) : Bool :=
  i.analog.all (fun e => e.2.filtered.isSome) && i.field.all (fun e => !e.2.rescan) && i.feedback.all (fun e => !e.2.rescan)

/-- The first completed scan: PMN derives every axis from the values then held, in ascending index, and CEV computes its first values (R17, R24,
R53). -/
def State.firstScan (s : State) : State :=
  if s.isc.scanPending && s.isc.complete then
    let all : List Nat := (axes s.layout).map (fun e => e.1)
    let s1 : State := { s with isc := { s.isc with scanPending := false } }
    (all.foldl (fun x i => x.axisRecompute i) s1).firstCompute
  else s

/-- ISC takes a sample of every assigned input; `on` lists the inputs whose raw level is on (R19). -/
def State.discreteSample (on : List DiscreteInput) (s : State) : State :=
  let t := s.tune
  let field : Table (Discrete × Bool) := tmap (fun i (d : Discrete) => d.sample (sampleCount t d.cls) (on.contains (.field i))) s.isc.field
  let feedback : Table (Discrete × Bool) := tmap (fun i (d : Discrete) => d.sample (sampleCount t d.cls) (on.contains (.feedback i))) s.isc.feedback
  let s1 := { s with isc := { s.isc with field := tmap (fun _ (r : Discrete × Bool) => r.1) field, feedback := tmap (fun _ (r : Discrete × Bool) => r.1) feedback } }
  let handed (t : Table (Discrete × Bool)) : List Nat := (t.filter (fun e => e.2.2)).map (fun e => e.1)
  (s1.handDiscrete (handed field) (handed feedback)).firstScan

/-- DISCRETE_SAMPLE (R19). -/
def execDiscreteSample (on : List DiscreteInput) (s : State) : Host.Outcome State Fault Refusal :=
  .next (s.act (State.discreteSample on))

/-- The debounced value of an input takes a raw level, where this sample makes it change (R19). -/
def Discrete.change (n : Nat) (raw : Bool) (d : Discrete) : Discrete :=
  if d.flips n raw then { d with debounced := raw, count := 0, rescan := false } else d

/-- The inputs of one instant whose disagreement count reaches n take their raw level (R19); an input for which it does not, or that is not
assigned, is left. -/
def State.debouncedChange (changes : List (DiscreteInput × Bool)) (s : State) : State :=
  let t := s.tune
  let raw (x : DiscreteInput) : Option Bool := (changes.find? (fun c => c.1 == x)).map (fun c => c.2)
  let field := (s.isc.field.filter (fun e => (raw (.field e.1)).any (fun r => e.2.flips (sampleCount t e.2.cls) r))).map
    (fun e => e.1)
  let feedback := (s.isc.feedback.filter (fun e => (raw (.feedback e.1)).any (fun r => e.2.flips (sampleCount t e.2.cls) r))).map
    (fun e => e.1)
  let take (mk : Nat → DiscreteInput) (i : Nat) (d : Discrete) : Discrete :=
    match raw (mk i) with
    | some r => d.change (sampleCount t d.cls) r
    | none => d
  let s1 := { s with isc := { s.isc with
    field := tmap (take .field) s.isc.field, feedback := tmap (take .feedback) s.isc.feedback } }
  (s1.handDiscrete field feedback).firstScan

/-- DEBOUNCED_VALUE_CHANGE (R19). -/
def execDebouncedValueChange (changes : List (DiscreteInput × Bool)) (s : State) : Host.Outcome State Fault Refusal :=
  .next (s.act (State.debouncedChange changes))

/-! ### Analog inputs -/

/-- The filtered value of four samples (R21). -/
def filterValue (samples : List Nat) : Nat := (samples.sum + 2) / 4

/-- A value lies in the channel range (R22). -/
def inChannel (v : Nat) : Bool := inRange Config.channelLow Config.channelHigh v

/-- A filtered value moves the health state (R22). -/
def Analog.judge (v : Nat) (a : Analog) : Analog :=
  let b := { a with filtered := some v }
  match a.health, inChannel v with
  | none, true => { b with health := some .healthy }
  | none, false => { b with health := some .unhealthy }
  | some .healthy, true => b
  | some .healthy, false => { b with health := some .unhealthy }
  | some .unhealthy, true => { b with health := some .recovering, recovery := some Config.recoveryTime }
  | some .unhealthy, false => b
  | some .recovering, true => b
  | some .recovering, false => { b with health := some .unhealthy, recovery := none }

/-- A new sample replaces the oldest of four (R21). -/
def Analog.sample (count : Nat) (a : Analog) : Analog :=
  let b := { a with samples := (count :: a.samples).take 4 }
  if b.samples.length < 4 then b else b.judge (filterValue b.samples)

/-- Before the first completed scan PMN takes the reported health of an axis's channels and derives nothing (R17, R24). -/
def State.axisHealth (i : Nat) (s : State) : State :=
  match s.layout.axis? i with
  | some d => s.modAxis i (fun y =>
      { y with
        healthyA := s.channelOk d.transA.input
        healthyB := match d.transB with
          | some t => s.channelOk t.input
          | none => false })
  | none => s

/-- PMN recomputes every axis on which the input is used (R23, R34), once the first scan is complete (R17). -/
def State.handAnalog (input : Nat) (s : State) : State :=
  (axesOf s.layout input).foldl (fun x i => if x.isc.scanPending then x.axisHealth i else x.axisRecompute i) s

/-- A sample of an assigned analog input (R21 to R24); without four samples there is no filtered value and nothing is handed over. -/
def State.analogSample (input count : Nat) (s : State) : State :=
  match tget s.isc.analog input with
  | none => s
  | some a =>
    let b := a.sample count
    let s1 := { s with isc := { s.isc with analog := tput s.isc.analog input b } }
    if b.filtered.isSome then (s1.handAnalog input).firstScan else s1

/-- ANALOG_FILTERED_VALUE (R21). -/
def execAnalogFilteredValue (input count : Nat) (s : State) : Host.Outcome State Fault Refusal :=
  .next (s.act (State.analogSample input count))

/-- A recovering channel becomes HEALTHY and its value is handed over again (R22, R23). -/
def State.recovered (input : Nat) (s : State) : State :=
  match tget s.isc.analog input with
  | none => s
  | some a =>
    if a.health == some .recovering then
      ({ s with isc := { s.isc with
        analog := tput s.isc.analog input { a with health := some .healthy, recovery := none } } }).handAnalog input
    else s

/-- RECOVERY_TIMER_EXPIRY (R22). -/
def execRecoveryTimerExpiry (input : Nat) (s : State) : Host.Outcome State Fault Refusal := .next (s.act (State.recovered input))

/-! ### The conflict timer -/

/-- A running conflict timer expires (R26). -/
def State.conflictOut (i : Nat) (s : State) : State :=
  match s.lock? i with
  | some y =>
    if y.conflict.isSome then (s.modLock i (fun x => { x with conflict := none })).recordFault i .sensorConflict else s
  | none => s

/-- CONFLICT_TIMER_EXPIRY (R26). -/
def execConflictTimerExpiry (point : Nat) (s : State) : Host.Outcome State Fault Refusal := .next (s.act (State.conflictOut point))

end Sys2Proof.Machine
end

