-- ==== Sys2Proof/Machine/Start.lean ====
section
/-! DEFINITION. Machine/Start.lean: power-on reset, external reset and the start-up check (R17, R24, R53, R71, R87, R108, R126, R141, R153,
R156, R171, R182, R184, R187, R188), each command's meaning among them. -/
namespace Sys2Proof.Machine

/-- AEU's act after a reset, steps 1 to 4 of R171; the event list, the next serial and the counter are kept through XRST. -/
def Aeu.restart (k : ResetKind) (a : Aeu) : Aeu :=
  let kept : Aeu := match k with
    | .por => {}
    | .xrst => { events := a.events, nextSerial := a.nextSerial, stamp := a.stamp }
  (kept.record (.powerUp k)).raise .restart (resetCode k)

/-- LST judges the stored image: the layout it gives, if any (R188). -/
def Stored.load (x : Stored) : Option Layout := if x.valid then some x.image else none

/-- The part after a reset: every block in its reset state, the stored image judged, phase CHECKING. The model's own queue and free-value
counter are kept. -/
def State.restart (k : ResetKind) (straps : Straps) (s : State) : State :=
  let active := s.lst.stored.load
  let l := active.getD {}
  let aeu := s.aeu.restart k
  let link : Link := { cursor := aeu.oldest }
  let base : State :=
    { sli := { straps := straps, bridge := link, stand := link }
      amu := { mode := if active.isSome then .harbour else .maintenance }
      isc := Isc.take l active.isSome {}
      hpa := { pumps := tmap (fun _ (p : PumpDef) => { capacity := p.capacity, startTime := p.startTime }) l.pumps }
      ost := Ost.takeOwners l {}
      aeu := aeu
      lst := { stored := s.lst.stored, active := active, tag := match active with
        | some x => tagOf x
        | none => 0 }
      free := s.free
      pending := s.pending }
  base.takePoints l

/-- XRST begins: the part is held in reset with every output off and the links deaf (R187). An interrupted write leaves the marker erased
(R186). -/
def State.enterReset (s : State) : State :=
  { s with held := true, ost := {}, todo := [], aeu := { s.aeu with demanding := false, general := false, sea := false } }

/-- The end of the start-up check (R188): phase, STARTUP, RESTART's condition and the first relay demands; without a valid layout CEV
computes the conditions now (R53). -/
def State.endCheck (s : State) : State :=
  if s.lst.phase == .checking then
    let s1 :=
      if s.lst.active.isSome then { s with lst := { s.lst with phase := .configured } }.modOst Ost.startupOver
      else { s with lst := { s.lst with phase := .unconfigured } }.firstCompute
    s1.withAeu (fun a =>
      { (a.clearKind .restart) with demanding := true, sea := wantsSea s1.amu.mode s1.cev.closure })
  else s

/-- POWER_ON_RESET (R188). -/
def execPowerOnReset (straps : Straps) (s : State) : Host.Outcome State Fault Refusal := .next (s.restart .por straps)

/-- XRST (R187). -/
def execXrst (s : State) : Host.Outcome State Fault Refusal := .next (if s.held then s else s.enterReset)

/-- XRST_RELEASE (R187). -/
def execXrstRelease (straps : Straps) (s : State) : Host.Outcome State Fault Refusal :=
  .next (if s.held then s.restart .xrst straps else s)

/-- STARTUP_CHECK_END (R188). -/
def execStartupCheckEnd (s : State) : Host.Outcome State Fault Refusal := .next (s.act State.endCheck)

end Sys2Proof.Machine
end

