-- ==== Sys2Proof/Machine/Dispatch.lean ====
section
/-! DEFINITION. Machine/Dispatch.lean: one arm per command, each one direct call of its meaning. -/
namespace Sys2Proof.Machine

/-- The effect of a command on everything but the queue. -/
def exec (i : Instr) (s : State) : Host.Outcome State Fault Refusal :=
  match i with
  | .powerOnReset straps => Sys2Proof.Machine.execPowerOnReset straps s
  | .xrst => Sys2Proof.Machine.execXrst s
  | .xrstRelease straps => Sys2Proof.Machine.execXrstRelease straps s
  | .startupCheckEnd => Sys2Proof.Machine.execStartupCheckEnd s
  | .estopFirstReport openA openB => Sys2Proof.Machine.execEstopFirstReport openA openB s
  | .timeStampTick => Sys2Proof.Machine.execTimeStampTick s
  | .debouncedValueChange changes => Sys2Proof.Machine.execDebouncedValueChange changes s
  | .analogFilteredValue input count => Sys2Proof.Machine.execAnalogFilteredValue input count s
  | .recoveryTimerExpiry input => Sys2Proof.Machine.execRecoveryTimerExpiry input s
  | .conflictTimerExpiry point => Sys2Proof.Machine.execConflictTimerExpiry point s
  | .stalenessTimerExpiry => Sys2Proof.Machine.execStalenessTimerExpiry s
  | .startTimerExpiry pump => Sys2Proof.Machine.execStartTimerExpiry pump s
  | .runDownTimerExpiry pump => Sys2Proof.Machine.execRunDownTimerExpiry pump s
  | .idleTimerExpiry => Sys2Proof.Machine.execIdleTimerExpiry s
  | .flowWaitExpiry motion => Sys2Proof.Machine.execFlowWaitExpiry motion s
  | .memberTravelTimeout motion point => Sys2Proof.Machine.execMemberTravelTimeout motion point s
  | .backOffExpiry motion point => Sys2Proof.Machine.execBackOffExpiry motion point s
  | .controlInterval motion => Sys2Proof.Machine.execControlInterval motion s
  | .stallWindowEnd motion => Sys2Proof.Machine.execStallWindowEnd motion s
  | .axisTravelTimeout motion => Sys2Proof.Machine.execAxisTravelTimeout motion s
  | .settleEnd motion => Sys2Proof.Machine.execSettleEnd motion s
  | .liftOffTimerExpiry point => Sys2Proof.Machine.execLiftOffTimerExpiry point s
  | .waitStepExpiry slot => Sys2Proof.Machine.execWaitStepExpiry slot s
  | .pauseExpiry slot => Sys2Proof.Machine.execPauseExpiry slot s
  | .jogDurationExpiry => Sys2Proof.Machine.execJogDurationExpiry s
  | .jogAxisCheck => Sys2Proof.Machine.execJogAxisCheck s
  | .coilFaultOpen out => Sys2Proof.Machine.execCoilFaultOpen out s
  | .coilFaultShort out => Sys2Proof.Machine.execCoilFaultShort out s
  | .coilFaultStuck outs => Sys2Proof.Machine.execCoilFaultStuck outs s
  | .darkPulse out milliamps => Sys2Proof.Machine.execDarkPulse out milliamps s
  | .propFaultOpen out => Sys2Proof.Machine.execPropFaultOpen out s
  | .propFaultShort out => Sys2Proof.Machine.execPropFaultShort out s
  | .estopChannelChange second opened => Sys2Proof.Machine.execEstopChannelChange second opened s
  | .discrepancyTimerExpiry => Sys2Proof.Machine.execDiscrepancyTimerExpiry s
  | .silenceTimerExpiry link => Sys2Proof.Machine.execSilenceTimerExpiry link s
  | .holdToRunExpiry => Sys2Proof.Machine.execHoldToRunExpiry s
  | .interByteGap link => Sys2Proof.Machine.execInterByteGap link s
  | .requestFrame link bytes => Sys2Proof.Machine.execRequestFrame link bytes s
  | .badRecord st kind => Sys2Proof.Machine.execBadRecord st kind s
  | .status st run => Sys2Proof.Machine.execStatus st run s
  | .claimControl st run tag => Sys2Proof.Machine.execClaimControl st run tag s
  | .releaseControl st run => Sys2Proof.Machine.execReleaseControl st run s
  | .holdToRun st run => Sys2Proof.Machine.execHoldToRun st run s
  | .setMode st run mode => Sys2Proof.Machine.execSetMode st run mode s
  | .consent st run on => Sys2Proof.Machine.execConsent st run on s
  | .vesselState st run heel pitch wind => Sys2Proof.Machine.execVesselState st run heel pitch wind s
  | .startOperation st run op => Sys2Proof.Machine.execStartOperation st run op s
  | .stop st run => Sys2Proof.Machine.execStop st run s
  | .resume st run => Sys2Proof.Machine.execResume st run s
  | .reverse st run => Sys2Proof.Machine.execReverse st run s
  | .abort st run => Sys2Proof.Machine.execAbort st run s
  | .jog st run point dir duration => Sys2Proof.Machine.execJog st run point dir duration s
  | .clearFaultPoint st run point => Sys2Proof.Machine.execClearFaultPoint st run point s
  | .clearFaultPump st run pump => Sys2Proof.Machine.execClearFaultPump st run pump s
  | .resetEstop st run => Sys2Proof.Machine.execResetEstop st run s
  | .readPoint st run point => Sys2Proof.Machine.execReadPoint st run point s
  | .readConditions st run => Sys2Proof.Machine.execReadConditions st run s
  | .readOperation st run => Sys2Proof.Machine.execReadOperation st run s
  | .readPumps st run => Sys2Proof.Machine.execReadPumps st run s
  | .readAlarms st run position => Sys2Proof.Machine.execReadAlarms st run position s
  | .ackAlarm st run what => Sys2Proof.Machine.execAckAlarm st run what s
  | .seekEvents st run choice n => Sys2Proof.Machine.execSeekEvents st run choice n s
  | .readEvents st run => Sys2Proof.Machine.execReadEvents st run s
  | .layoutOpen st run region => Sys2Proof.Machine.execLayoutOpen st run region s
  | .layoutDiscard st run => Sys2Proof.Machine.execLayoutDiscard st run s
  | .layoutCommit st run => Sys2Proof.Machine.execLayoutCommit st run s
  | .layoutWriteEnd => Sys2Proof.Machine.execLayoutWriteEnd s
  | .putHeader st run h => Sys2Proof.Machine.execPutHeader st run h s
  | .putPump st run index r => Sys2Proof.Machine.execPutPump st run index r s
  | .putPoint st run index r => Sys2Proof.Machine.execPutPoint st run index r s
  | .putWindow st run axis position r => Sys2Proof.Machine.execPutWindow st run axis position r s
  | .putGroup st run index r => Sys2Proof.Machine.execPutGroup st run index r s
  | .putCondition st run index r => Sys2Proof.Machine.execPutCondition st run index r s
  | .putPermissive st run index r => Sys2Proof.Machine.execPutPermissive st run index r s
  | .putOperation st run index r => Sys2Proof.Machine.execPutOperation st run index r s
  | .listBegin st run list present => Sys2Proof.Machine.execListBegin st run list present s
  | .putStep st run step => Sys2Proof.Machine.execPutStep st run step s
  | .putTuning st run t => Sys2Proof.Machine.execPutTuning st run t s
  | .getHeader st run => Sys2Proof.Machine.execGetHeader st run s
  | .getPump st run index => Sys2Proof.Machine.execGetPump st run index s
  | .getPoint st run index => Sys2Proof.Machine.execGetPoint st run index s
  | .getWindow st run axis position => Sys2Proof.Machine.execGetWindow st run axis position s
  | .getGroup st run index => Sys2Proof.Machine.execGetGroup st run index s
  | .getCondition st run index => Sys2Proof.Machine.execGetCondition st run index s
  | .getPermissive st run index => Sys2Proof.Machine.execGetPermissive st run index s
  | .getOperation st run index => Sys2Proof.Machine.execGetOperation st run index s
  | .getListBegin st run list => Sys2Proof.Machine.execGetListBegin st run list s
  | .getStep st run list index => Sys2Proof.Machine.execGetStep st run list index s
  | .getTuning st run => Sys2Proof.Machine.execGetTuning st run s
  | .discreteSample on => Sys2Proof.Machine.execDiscreteSample on s
  | .receivedByte link b => Sys2Proof.Machine.execReceivedByte link b s

end Sys2Proof.Machine
end

