-- ==== Sys2Proof/Machine/Encode.lean ====
section
/-! DEFINITION. Machine/Encode.lean: the record that carries each record command in a request frame: kind, flags byte and body (12.6, R176,
R185), written from the same field lists as the readers of Codec.lean and Frames.lean. -/
namespace Sys2Proof.Machine

/-- A record with RUN as given and MORE clear. -/
def rawRecord (kind : Nat) (run : Bool) (body : List Byte) : RawRecord :=
  { kind := BitVec.ofNat 8 kind, flags := if run then 1 else 0, body := body }

/-- The presence flag and the fields of a PUT (R185); a value outside its list has no one form. -/
def putGiven {α : Type} (f : α → List Byte) : Given α → Option (List Byte)
  | .absent => some [0]
  | .present a => some (1 :: f a)
  | .outOfList => none

/-- The arguments of ACK_ALARM (assumption 21). -/
def putAck : AckWhat → List Byte
  | .all => b1 0
  | .pair kind subj => b1 1 ++ b1 kind ++ b1 subj

/-- The arguments of SEEK_EVENTS. -/
def putSeek (choice n : Nat) : List Byte :=
  match choice with
  | 1 => b1 1 ++ b2 n
  | c => b1 c

end Sys2Proof.Machine

namespace Sys2Proof
open Machine

/-- The record that carries a record command; none for an event of the part, and for a PUT with a value outside its list. -/
def Instr.raw : Instr → Option RawRecord
  | .status _ run => some (rawRecord 0x01 run [])
  | .claimControl _ run tag => some (rawRecord 0x02 run (b4 tag))
  | .releaseControl _ run => some (rawRecord 0x03 run [])
  | .holdToRun _ run => some (rawRecord 0x04 run [])
  | .setMode _ run mode => some (rawRecord 0x05 run (b1 mode))
  | .consent _ run on => some (rawRecord 0x06 run (bFlag on))
  | .vesselState _ run heel pitch wind => some (rawRecord 0x07 run (bInt heel ++ bInt pitch ++ b2 wind.toNat))
  | .startOperation _ run op => some (rawRecord 0x10 run (b1 op))
  | .stop _ run => some (rawRecord 0x11 run [])
  | .resume _ run => some (rawRecord 0x12 run [])
  | .reverse _ run => some (rawRecord 0x13 run [])
  | .abort _ run => some (rawRecord 0x14 run [])
  | .jog _ run point dir duration => some (rawRecord 0x15 run (b1 point ++ b1 dir ++ b2 duration))
  | .clearFaultPoint _ run point => some (rawRecord 0x16 run (b1 0 ++ b1 point))
  | .clearFaultPump _ run pump => some (rawRecord 0x16 run (b1 1 ++ b1 pump))
  | .resetEstop _ run => some (rawRecord 0x17 run [])
  | .readPoint _ run point => some (rawRecord 0x20 run (b1 point))
  | .readConditions _ run => some (rawRecord 0x21 run [])
  | .readOperation _ run => some (rawRecord 0x22 run [])
  | .readPumps _ run => some (rawRecord 0x23 run [])
  | .readAlarms _ run position => some (rawRecord 0x24 run (b1 position))
  | .ackAlarm _ run what => some (rawRecord 0x25 run (putAck what))
  | .seekEvents _ run choice n => some (rawRecord 0x26 run (putSeek choice n))
  | .readEvents _ run => some (rawRecord 0x27 run [])
  | .layoutOpen _ run region => some (rawRecord 0x30 run (b1 region))
  | .layoutCommit _ run => some (rawRecord 0x31 run [])
  | .layoutDiscard _ run => some (rawRecord 0x32 run [])
  | .putHeader _ run h => h.map (fun x => rawRecord 0x40 run (putHeaderRec x))
  | .putPump _ run index r => (putGiven putPumpRec r).map (fun x => rawRecord 0x41 run (b1 index ++ x))
  | .putPoint _ run index r => (putGiven putBody r).map (fun x => rawRecord 0x42 run (b1 index ++ x))
  | .putWindow _ run axis position r => (putGiven putWindowRec r).map (fun x => rawRecord 0x43 run (b1 axis ++ b1 position ++ x))
  | .putGroup _ run index r => (putGiven putGroupRec r).map (fun x => rawRecord 0x44 run (b1 index ++ x))
  | .putCondition _ run index r => (putGiven putConditionRec r).map (fun x => rawRecord 0x45 run (b1 index ++ x))
  | .putPermissive _ run index r => (putGiven putPermRec r).map (fun x => rawRecord 0x46 run (b1 index ++ x))
  | .putOperation _ run index r => (putGiven putOpRec r).map (fun x => rawRecord 0x47 run (b1 index ++ x))
  | .listBegin _ run list present => present.map (fun x => rawRecord 0x48 run (b1 list ++ bFlag x))
  | .putStep _ run step => step.map (fun x => rawRecord 0x49 run (putStepRec x))
  | .putTuning _ run t => some (rawRecord 0x4A run (putTuningRec t))
  | .getHeader _ run => some (rawRecord 0x50 run [])
  | .getPump _ run index => some (rawRecord 0x51 run (b1 index))
  | .getPoint _ run index => some (rawRecord 0x52 run (b1 index))
  | .getWindow _ run axis position => some (rawRecord 0x53 run (b1 axis ++ b1 position))
  | .getGroup _ run index => some (rawRecord 0x54 run (b1 index))
  | .getCondition _ run index => some (rawRecord 0x55 run (b1 index))
  | .getPermissive _ run index => some (rawRecord 0x56 run (b1 index))
  | .getOperation _ run index => some (rawRecord 0x57 run (b1 index))
  | .getListBegin _ run list => some (rawRecord 0x58 run (b1 list))
  | .getStep _ run list index => some (rawRecord 0x59 run (b1 list ++ b1 index))
  | .getTuning _ run => some (rawRecord 0x5A run [])
  | .powerOnReset _ => none
  | .xrst => none
  | .xrstRelease _ => none
  | .startupCheckEnd => none
  | .estopFirstReport _ _ => none
  | .timeStampTick => none
  | .debouncedValueChange _ => none
  | .analogFilteredValue _ _ => none
  | .recoveryTimerExpiry _ => none
  | .conflictTimerExpiry _ => none
  | .stalenessTimerExpiry => none
  | .startTimerExpiry _ => none
  | .runDownTimerExpiry _ => none
  | .idleTimerExpiry => none
  | .flowWaitExpiry _ => none
  | .memberTravelTimeout _ _ => none
  | .backOffExpiry _ _ => none
  | .controlInterval _ => none
  | .stallWindowEnd _ => none
  | .axisTravelTimeout _ => none
  | .settleEnd _ => none
  | .liftOffTimerExpiry _ => none
  | .waitStepExpiry _ => none
  | .pauseExpiry _ => none
  | .jogDurationExpiry => none
  | .jogAxisCheck => none
  | .coilFaultOpen _ => none
  | .coilFaultShort _ => none
  | .coilFaultStuck _ => none
  | .darkPulse _ _ => none
  | .propFaultOpen _ => none
  | .propFaultShort _ => none
  | .estopChannelChange _ _ => none
  | .discrepancyTimerExpiry => none
  | .silenceTimerExpiry _ => none
  | .holdToRunExpiry => none
  | .interByteGap _ => none
  | .requestFrame _ _ => none
  | .badRecord _ _ => none
  | .layoutWriteEnd => none
  | .discreteSample _ => none
  | .receivedByte _ _ => none

end Sys2Proof
end

