-- ==== Sys2Proof/Safety.lean ====
section
/-! DEFINITION. Safety.lean: what a safe part is, in the terms the statements use: properties of a state that every step keeps, the part of a
state that no report between the blocks touches, and how a record is served. Each cites the rule that gives it. -/
namespace Sys2Proof.Machine

/-! ### Properties that every step keeps -/

/-- The alarm list holds at most 32 entries, and at most one entry for any (kind, subject) pair (R164). -/
def Aeu.AlarmsOk (a : Aeu) : Prop :=
  a.alarms.length ≤ Config.alarmMax ∧ (a.alarms.map (fun e => (e.kind, e.subject))).Nodup

/-- The event list holds at most 128 records with contiguous serials in rising order, the newest just below the next serial (R168). -/
def Aeu.EventsOk (a : Aeu) : Prop :=
  a.events.length ≤ Config.eventMax ∧
    ∀ k, (h : k < a.events.length) → a.events[k].serial = a.nextSerial - BitVec.ofNat 32 (a.events.length - k)

/-- The allocation never exceeds the capacity (R63). -/
def Hpa.Within (h : Hpa) : Prop := h.allocation ≤ h.capacity

/-- There are 48 coil outputs, 6 banks, 8 proportional outputs and 3 contactors; a command is at most 1000, and 0 while its output is faulted
(R148); while the emergency stop is ACTIVE, banks 0 to 4 hold the cause ESTOP, no contactor is closed, no coil outside bank 5 is ON, and every
command is 0 (R143, R148, R149, R150). -/
structure Ost.OutputsOk (o : Ost) : Prop where
  coilCount      : o.coils.length = 48
  bankCount      : o.banks.length = 6
  propCount      : o.props.length = 8
  contactorCount : o.contactors.length = 3
  commandMax     : ∀ p ∈ o.props, p.command ≤ 1000
  commandFault   : ∀ p ∈ o.props, p.state ≠ .active → p.command = 0
  stopBanks      : o.estop = .active → ∀ b < 5, ∃ k, o.banks[b]? = some k ∧ k.estop = true
  stopContactors : o.estop = .active → ∀ c ∈ o.contactors, c = false
  stopCoils      : o.estop = .active → ∀ (k : Nat) (c : Coil), o.coils[k]? = some c → bankOf k ≠ 5 → c.state ≠ .on
  stopProps      : o.estop = .active → ∀ p ∈ o.props, p.command = 0

/-- Each relay stands as AEU demands it; GENERAL is demanded on exactly while an entry needs acknowledgement or OVERFLOW is set, SEA exactly
while the mode is SEA and the overall closure is not SECURED, and neither before the first demands after a reset (R149, R163, R166). -/
structure State.RelaysOk (s : State) : Prop where
  general       : s.ost.general = s.aeu.general
  sea           : s.ost.sea = s.aeu.sea
  generalDemand : s.aeu.general = (s.aeu.demanding && (s.aeu.alarms.any (fun e => e.state != .ackActive) || s.aeu.overflow))
  seaDemand     : s.aeu.sea = (s.aeu.demanding && (s.amu.mode == .sea && s.cev.closure.overall != .secured))

/-- The operation context: the hold cause set holds each kind at most once, is empty while RUNNING and not empty while HOLDING (R127); no entry is
ACTIVE while HOLDING (R128); a terminal context holds no entry (R123, R137); there are at most 6 entries (R118). -/
structure Context.Ok (x : Context) : Prop where
  kinds    : (x.causes.map (fun c => c.kind)).Nodup
  running  : x.state = .running → x.causes = []
  holding  : x.state = .holding → x.causes ≠ []
  halted   : x.state = .holding → ∀ e ∈ x.inFlight, e.state ≠ .active
  terminal : x.state = .complete ∨ x.state = .aborted → x.inFlight = []
  room     : x.inFlight.length ≤ Config.inFlightMax

/-- The context, when there is one, is as R111 and chapter 8 keep it. -/
def Osq.ContextOk (q : Osq) : Prop := ∀ x, q.context = some x → x.Ok

/-- Consent is on in HARBOUR alone (R46, R47, R158); hold-to-run runs only while a station holds authority (R178, R180); an edit buffer belongs to the
holder of authority and lies in a region that the mode admits (R178, R184). -/
structure State.AuthorityOk (s : State) : Prop where
  consent : s.amu.consent = true → s.amu.mode = .harbour
  run     : s.amu.runTimer ≠ none → s.amu.holder ≠ .none
  owner   : ∀ b, s.lst.buffer = some b → s.amu.holder = holderOf b.owner
  region  : ∀ b, s.lst.buffer = some b → match b.region with
    | .tuning => s.amu.mode ≠ .sea
    | .struct => s.amu.mode = .maintenance

/-! ### What no report between the blocks touches -/

/-- The part of a state that the settling of reports leaves alone: links, authority, mode and consent, the inputs, the layout store, the vessel data,
the emergency-stop state and the loop, the banks, the time stamp. -/
structure Fixed where
  sli         : Sli
  amu         : Amu
  isc         : Isc
  lst         : Lst
  held        : Bool
  free        : Nat
  pending     : List Instr
  vessel      : Option Vessel
  freshness   : Freshness
  staleness   : Option Nat
  started     : Bool
  estop       : Estop
  openA       : Bool
  openB       : Bool
  latch       : Bool
  discrepancy : Option Nat
  banks       : List Bank
  stamp       : Word32
  demanding   : Bool

/-- That part of a state. -/
def State.fixed (s : State) : Fixed :=
  { sli := s.sli, amu := s.amu, isc := s.isc, lst := s.lst, held := s.held, free := s.free, pending := s.pending
    vessel := s.cev.vessel, freshness := s.cev.freshness, staleness := s.cev.staleness, started := s.cev.started
    estop := s.ost.estop, openA := s.ost.openA, openB := s.ost.openB, latch := s.ost.latch, discrepancy := s.ost.discrepancy
    banks := s.ost.banks, stamp := s.aeu.stamp, demanding := s.aeu.demanding }

/-! ### States in which a command is taken -/

/-- The reset input is not energized and no report is left to settle. -/
def State.Ready (s : State) : Prop := s.held = false ∧ s.todo = []

/-- Ready, CONFIGURED and not in a BUSY period: every record reaches the rule of its kind (R175). -/
def State.Serving (s : State) : Prop := s.Ready ∧ s.lst.phase = .configured ∧ s.lst.commit ≠ .writing

/-- Changes OSQ. -/
def State.modOsq (f : Osq → Osq) (s : State) : State := { s with osq := f s.osq }

/-- The records that a full event list keeps: the newest 128 (R168). -/
def newestRecords (xs : List EventRec) : List EventRec := xs.drop (xs.length - Config.eventMax)

/-- Events as the next records of the list (R168): rising serials, the present stamp. -/
def Aeu.dated (a : Aeu) (es : List Event) : List EventRec :=
  es.mapIdx (fun k e => { serial := a.nextSerial + BitVec.ofNat 32 k, stamp := a.stamp, event := e })

/-- The newest event recorded. -/
def Aeu.newest (a : Aeu) : Option Event := a.events.getLast?.map (fun r => r.event)

/-- The owner of every coil and proportional output is the point of the layout whose static part names it, if any (R142, R153). -/
structure Ost.OwnersFrom (l : Layout) (o : Ost) : Prop where
  coil    : ∀ i c p, o.coils[i]? = some c → c.owner = some p → ∃ d, (p, d) ∈ l.points ∧ i ∈ coilsOf d
  noCoil  : ∀ i c, o.coils[i]? = some c → c.owner = none → ∀ e ∈ l.points, i ∉ coilsOf e.2
  prop    : ∀ i q p, o.props[i]? = some q → q.owner = some p → ∃ d, (p, d) ∈ l.points ∧ i ∈ propsOf d
  noProp  : ∀ i q, o.props[i]? = some q → q.owner = none → ∀ e ∈ l.points, i ∉ propsOf e.2

/-- The dynamic part of a point right after a reset (R17). -/
def freshAfterReset : PointDef → PointDyn
  | .lock _ => .lock { confirmed := .between, conflict := none, fault := none, reserved := none }
  | .axis _ _ => .axis
      { posA := none, posB := none, healthyA := false, healthyB := false, p := none, zone := .unknown, skew := none
        degraded := false, tip := none, fault := none, drive := .idle, reserved := none }

/-- Right after a reset the inputs that the layout assigns, and no others, have a record: a discrete input is off with count 0 and is to be rescanned, an
analog input holds nothing (R18, R21, R24, R38). -/
structure Isc.FreshFor (l : Layout) (i : Isc) : Prop where
  sensor   : ∀ k, (∃ e ∈ l.points, k ∈ sensorsOf e.2) → (∀ h, l.header = some h → h.deckClear ≠ some k ∧ h.linkspan ≠ some k) →
    tget i.field k = some { cls := .sensor, debounced := false, count := 0, rescan := true }
  general  : ∀ k, (∃ h, l.header = some h ∧ (h.deckClear = some k ∨ h.linkspan = some k)) →
    tget i.field k = some { cls := .general, debounced := false, count := 0, rescan := true }
  other    : ∀ k, (∀ e ∈ l.points, k ∉ sensorsOf e.2) → (∀ h, l.header = some h → h.deckClear ≠ some k ∧ h.linkspan ≠ some k) →
    tget i.field k = none
  feedback : ∀ k, tget i.feedback k =
    (tget l.pumps k).map (fun _ => { cls := .feedback, debounced := false, count := 0, rescan := true })
  analog   : ∀ k, (∃ e ∈ l.points, k ∈ analogsOf e.2) → tget i.analog k = some { samples := [], filtered := none, health := none, recovery := none }
  unused   : ∀ k, (∀ e ∈ l.points, k ∉ analogsOf e.2) → tget i.analog k = none

/-- What a reset leaves in every block that it resets, for the image that was stored (R17, R24, R53, R71, R87, R108, R126, R138, R141, R153, R156,
R171, R182, R184, R188). The event list, the alarm list and the time stamp are said apart. That the loop reads closed before the first report, that no reply
is kept and that no gap has passed is the model's choice (assumption 25). -/
structure State.FreshFrom (straps : Straps) (stored : Stored) (t : State) : Prop where
  straps   : t.sli.straps = straps
  bridge   : t.sli.bridge =
    { rx := .hunt, bytes := [], ignored := false, gapOver := false, silence := some 30, active := true, cursor := t.aeu.oldest, reply := none, sent := [] }
  stand    : t.sli.stand =
    { rx := .hunt, bytes := [], ignored := false, gapOver := false, silence := some 30, active := true, cursor := t.aeu.oldest, reply := none, sent := [] }
  holder   : t.amu.holder = .none ∧ t.amu.runTimer = none ∧ t.amu.consent = false
  mode     : t.amu.mode = if stored.valid then .harbour else .maintenance
  layout   : t.lst.active = if stored.valid then some stored.image else none
  tag      : t.lst.tag = if stored.valid then tagOf stored.image else 0
  store    : t.lst.phase = .checking ∧ t.lst.stored = stored ∧ t.lst.buffer = none ∧ t.lst.commit = .idle ∧ t.lst.pendingLayout = none
  vessel   : t.cev.vessel = none ∧ t.cev.freshness = .none ∧ t.cev.staleness = none
  conds    : (∀ i, t.cond i = .unknown) ∧ t.cev.closure = { visor := .unknown, inner := .unknown, overall := .unknown } ∧
    t.cev.started = false
  flow     : t.hpa.requests = [] ∧ t.hpa.grants = [] ∧ t.hpa.arrival = 0 ∧ t.hpa.idle = none
  pumps    : ∀ i, tget t.hpa.pumps i = (tget t.layout.pumps i).map (fun p =>
    { capacity := p.capacity, startTime := p.startTime, state := .stopped, cause := none, start := none, runDown := none, feedback := false })
  points   : ∀ i, tget t.pmn.points i = (tget t.layout.points i).map freshAfterReset
  motions  : t.ldu.motions = [] ∧ t.adu.motions = [] ∧ t.adu.floats = []
  sequence : t.osq.context = none ∧ t.osq.jog = none ∧ t.osq.nextMotion = 0
  coils    : ∀ c ∈ t.ost.coils, c.state = .off ∧ c.demand = false
  banks    : ∀ b ∈ t.ost.banks, b = { startup := true, estop := false, stuck := false }
  props    : ∀ p ∈ t.ost.props, p.state = .active ∧ p.command = 0
  counts   : t.ost.coils.length = 48 ∧ t.ost.banks.length = 6 ∧ t.ost.props.length = 8 ∧ t.ost.contactors.length = 3
  owners   : t.ost.OwnersFrom t.layout
  others   : (∀ c ∈ t.ost.contactors, c = false) ∧ t.ost.general = false ∧ t.ost.sea = false
  estop    : t.ost.estop = .undecided ∧ t.ost.openA = false ∧ t.ost.openB = false ∧ t.ost.latch = false ∧ t.ost.discrepancy = none
  inputs   : t.isc.FreshFor t.layout ∧ t.isc.scanPending = stored.valid
  ready    : t.Ready

/-- After a raise the alarm stands active in the list, or it was lost and OVERFLOW tells so (R164). -/
def Aeu.Raised (k : AlarmKind) (subj : Nat) (a : Aeu) : Prop :=
  (∃ x ∈ a.alarms, x.kind = k ∧ x.subject = subj ∧ x.state ≠ .unackCleared) ∨ a.overflow = true

/-- No entry of the pair stands acknowledged. So it is whenever the pair's condition arises anew, because a condition that ceases takes its acknowledged
entry out of the list (R165). -/
def Aeu.NotAcked (k : AlarmKind) (subj : Nat) (a : Aeu) : Prop :=
  ∀ x ∈ a.alarms, x.kind = k → x.subject = subj → x.state ≠ .ackActive

/-- No entry of the pair stands active (R165). -/
def Aeu.Cleared (k : AlarmKind) (subj : Nat) (a : Aeu) : Prop :=
  ∀ x ∈ a.alarms, x.kind = k → x.subject = subj → x.state = .unackCleared

/-- A context that is given a hold cause (R127): a RUNNING one holds with that cause and no ACTIVE entry, a HOLDING one takes it at the end of its set where its
kind does not stand there yet, and a terminal one is left. -/
def Context.GivenCause (c : HoldCause) (x y : Context) : Prop :=
  (x.state = .complete ∨ x.state = .aborted → y = x) ∧
  (x.state = .holding → y = { x with causes := if x.causes.any (fun k => k.kind == c.kind) then x.causes else x.causes ++ [c] }) ∧
  (x.state = .running → x.causes = [] →
    y.state = .holding ∧ y.causes = [c] ∧ y.op = x.op ∧ y.pointer = x.pointer ∧ y.stack = x.stack ∧
      y.inFlight.map (fun n => n.ref) = x.inFlight.map (fun n => n.ref) ∧ ∀ n ∈ y.inFlight, n.state ≠ .active)

/-- What a jog that is cancelled becomes (R141); one that has ended is left. -/
def Jog.ended (cause : JogEnd) (j : Jog) : Jog :=
  if j.phase = .ended then j else { j with phase := .ended, granted := none, timer := none, cause := some cause }

/-- The emergency stop has become ACTIVE at a reading of the two channels, with its entry acts and its reports to HPA, OSQ, CEV and AEU (R150); nothing else in
what no report touches has changed. -/
structure State.StopsAt (s e : State) (openA openB : Bool) : Prop where
  active    : e.ost.estop = .active ∧ e.ost.openA = openA ∧ e.ost.openB = openB
  outputs   : e.ost.OutputsOk
  flow      : e.hpa.requests = [] ∧ e.hpa.grants = []
  pumps     : ∀ i q, tget e.hpa.pumps i = some q → q.state ≠ .running ∧ q.state ≠ .starting
  context   : ∀ x, s.osq.context = some x → ∃ y, e.osq.context = some y ∧ x.GivenCause { kind := .estop, subject := .nothing } y
  jog       : e.osq.jog = s.osq.jog.map (Jog.ended .estop)
  condition : s.cev.started = true → s.cev.conds.length = 32 → e.cond 0 = .no
  alarm     : e.aeu.Raised .estopActive 0
  event     : e.aeu.newest = some (.estop .active)
  rest      : (finish e).fixed =
    { s.fixed with
      estop := .active
      openA := openA
      openB := openB
      discrepancy := if openA = openB then none else if s.ost.openA = s.ost.openB then some 2 else s.ost.discrepancy
      banks := e.ost.banks }

/-- PMN has handed CEV the record of a point (R37): from the first computation on (R53), every condition of the layout with a term that names the point has the value
of the state as it stands, a change of it is handed on, and the closure state is that of the condition values (R154, R155). -/
def State.CevFollows (s e : State) (p : Nat) : Prop :=
  s.cev.started = true → s.cev.conds.length = 32 →
    (∀ i ts, 8 ≤ i → i < 32 → tget s.layout.conditions i = some ts → (∃ t ∈ ts, t.point = p) →
      e.cond i = e.evalCond i ∧ (e.cond i ≠ s.cond i → ∃ cs, Task.changed cs ∈ e.todo ∧ (i, e.cond i) ∈ cs)) ∧
    e.cev.closure = e.closureNow

/-- The point that a POINT_FAULT event names. -/
def Event.faultedPoint? : Event → Option Nat
  | .pointFault p _ => some p
  | _ => none

/-- Outputs, each with its owner, have entered FAULT_STUCK at one reading (R146): each is latched, its bank is OFF for STUCK with no coil left ON, its owner and every
point below 48 that owns an output of the bank has a fault, and a point keeps the code it had. COIL_BANK_OFF is raised for the bank (R143), and the unit of each
motion that reserves such a point is told (R13); the conditions that name a point with a new fault follow (R37). Each new fault is one event POINT_FAULT (R13), and at sea raises POINT_FAULT where the
pair stands nowhere acknowledged (R162). Banks without such an output, and their coils, are left. -/
structure State.StuckAt (s e : State) (found : List (Nat × Nat)) : Prop where
  coils     : ∀ x ∈ found, ∃ k, s.ost.coils[x.1]? = some k ∧ e.ost.coils[x.1]? = some { k with state := .faultStuck }
  banks     : ∀ x ∈ found, ∃ k, s.ost.banks[bankOf x.1]? = some k ∧ e.ost.banks[bankOf x.1]? = some { k with stuck := true }
  off       : ∀ x ∈ found, ∀ i c, bankOf i = bankOf x.1 → e.ost.coils[i]? = some c → c.state ≠ .on
  elsewhere : ∀ b, (∀ x ∈ found, bankOf x.1 ≠ b) →
    e.ost.banks[b]? = s.ost.banks[b]? ∧ ∀ i, bankOf i = b → e.ost.coils[i]? = s.ost.coils[i]?
  points    : ∀ x ∈ found, ∀ p, (tget s.pmn.points p).isSome →
    (p = x.2 ∨ p < 48 ∧ ∃ i c, i < 48 ∧ bankOf i = bankOf x.1 ∧ s.ost.coils[i]? = some c ∧ c.owner = some p) → (e.faultOf p).isSome
  alarm     : ∀ x ∈ found, s.aeu.NotAcked .coilBankOff (bankOf x.1) → e.aeu.Raised .coilBankOff (bankOf x.1)
  told      : ∀ x ∈ found, ∀ p, (s.reservedBy p).isSome →
    (p = x.2 ∨ p < 48 ∧ ∃ i c, i < 48 ∧ bankOf i = bankOf x.1 ∧ s.ost.coils[i]? = some c ∧ c.owner = some p) →
      ∃ fresh, Task.faulted p .coilFault fresh ∈ e.todo
  cev       : ∀ p, s.faultOf p = none → (e.faultOf p).isSome → s.CevFollows e p
  codes     : ∀ p, e.faultOf p ≠ s.faultOf p → s.faultOf p = none ∧ e.faultOf p = some .coilFault
  events    : s.aeu.EventsOk → ∃ es : List Event, e.aeu.events = newestRecords (s.aeu.events ++ s.aeu.dated es) ∧
    (es.filterMap Event.faultedPoint?).Nodup ∧
    ∀ p c, Event.pointFault p c ∈ es ↔ s.faultOf p = none ∧ e.faultOf p = some c
  atSea     : s.amu.mode = .sea → ∀ p, s.faultOf p = none → (e.faultOf p).isSome → s.aeu.NotAcked .pointFault p → e.aeu.Raised .pointFault p
  rest      : e.ost.props = s.ost.props ∧ e.ost.contactors = s.ost.contactors ∧ e.hpa = s.hpa ∧ e.ldu = s.ldu ∧ e.adu = s.adu ∧
    e.osq = s.osq ∧ (finish e).fixed = { s.fixed with banks := e.ost.banks }

/-- The axis has the analog input as a transducer or as its tip-load input (R23). -/
def State.UsesInput (s : State) (input i : Nat) : Prop :=
  ∃ d, s.layout.axis? i = some d ∧
    (d.transA.input = input ∨ (∃ t, d.transB = some t ∧ t.input = input) ∨ ∃ t, d.tip = some t ∧ t.input = input)

/-- A channel has been handed to PMN: after the first completed scan every axis that uses the input is recomputed, in ascending index (R23, R34); before it each takes
the health of its channels and nothing else changes (R17, R24; assumption 8). -/
def State.AxesFollow (s e : State) (input : Nat) : Prop :=
  let healthy (n : Nat) : Prop := ∃ a, tget e.isc.analog n = some a ∧ a.health = some .healthy
  tsorted s.layout.points = true →
    (s.isc.scanPending = false →
      ∃ users : List Nat, users.Pairwise (fun a b => a < b) ∧ (∀ i, i ∈ users ↔ s.UsesInput input i) ∧
        e = users.foldl (fun x i => x.axisRecompute i) { s with isc := e.isc }) ∧
    (e.isc.scanPending = true →
      e = { s with isc := e.isc, pmn := e.pmn } ∧ (∀ i, ¬ s.UsesInput input i → tget e.pmn.points i = tget s.pmn.points i) ∧
        ∀ i d y, s.UsesInput input i → s.layout.axis? i = some d → s.axis? i = some y →
          ∃ z, e.axis? i = some z ∧ z = { y with healthyA := z.healthyA, healthyB := z.healthyB } ∧
            (z.healthyA = true ↔ healthy d.transA.input) ∧ (z.healthyB = true ↔ ∃ t, d.transB = some t ∧ healthy t.input))

/-- At a sample the locks follow their sensors (R20, R25, R26): a lock of which a sensor is handed over, because its debounced value has changed or it has been
rescanned, takes the state of its two sensors with the conflict timer, the conditions that name it follow, and the motion that reserves it is told; every other lock is
left. c4 and c5 follow their inputs when these are handed over (R37, R38). -/
def State.LocksFollow (s e : State) : Prop :=
  let handed (k : Nat) : Prop := e.debounced k ≠ s.debounced k ∨
    ∃ x x', tget s.isc.field k = some x ∧ tget e.isc.field k = some x' ∧ x.rescan = true ∧ x'.rescan = false
  (s.cev.started = true → s.cev.conds.length = 32 → ∀ h k, s.layout.header = some h → handed k →
    (h.deckClear = some k → e.cond 4 = if e.debounced k then .yes else .no) ∧
      (h.linkspan = some k → e.cond 5 = if e.debounced k then .yes else .no)) ∧
  ∀ p d y, tget s.layout.points p = some (.lock d) → s.lock? p = some y →
    let new := Confirmed.ofSensors (e.debounced d.engagedIn) (e.debounced d.retractedIn)
    (new = y.confirmed → e.lock? p = some y) ∧
    (new ≠ y.confirmed → handed d.engagedIn ∨ handed d.retractedIn →
      e.lock? p = some { y with confirmed := new, conflict := if new = .conflict then some 10 else none } ∧
        s.CevFollows e p ∧ (y.reserved.isSome → Task.lockMoved p ∈ e.todo)) ∧
    (tsorted s.layout.points = true → tsorted s.isc.field = true → ¬ handed d.engagedIn → ¬ handed d.retractedIn → e.lock? p = some y)

/-- The first completed scan (R24) comes with a sample that leaves every analog input with a filtered value and no input to be rescanned: every axis is derived from
the values then held (R17), and CEV computes every condition from the state then held (R53); c1 and c2 keep their hysteresis (R44, R45). Until then the scan is awaited. -/
def State.ScansFirst (s e : State) : Prop :=
  let complete := s.isc.scanPending = true ∧ (∀ a ∈ e.isc.analog, a.2.filtered ≠ none) ∧ (∀ d ∈ e.isc.field, d.2.rescan = false) ∧
    ∀ d ∈ e.isc.feedback, d.2.rescan = false
  (complete →
    e.isc.scanPending = false ∧ e.cev.started = true ∧
      (∀ i y, s.axis? i = some y → e.axis? i = (({ s with isc := e.isc } : State).axisRecompute i).axis? i) ∧
      (s.cev.conds.length = 32 →
        (∀ i < 32, i ≠ 1 → i ≠ 2 → e.cond i = e.evalCond i) ∧ e.cond 1 = s.evalCond 1 ∧ e.cond 2 = s.evalCond 2 ∧
          (s.cev.freshness ≠ .fresh → e.cond 1 = .unknown ∧ e.cond 2 = .unknown))) ∧
  (¬ complete → e.isc.scanPending = s.isc.scanPending ∧ e.cev.started = s.cev.started)

/-- A fault is reported for a present point (R13): the first code is kept, and no other point's fault changes; a newly recorded code is an event, and the unit of a
reserving motion is told; the conditions that name the point follow (R37); at sea a newly recorded fault raises POINT_FAULT (R162). -/
structure State.FaultReported (s e : State) (p : Nat) (code : FaultCode) : Prop where
  kept   : e.faultOf p = some ((s.faultOf p).getD code)
  alone  : ∀ q, q ≠ p → e.faultOf q = s.faultOf q
  event  : s.faultOf p = none → ∃ r ∈ e.aeu.events, r.event = .pointFault p code
  told   : (s.reservedBy p).isSome → Task.faulted p code (s.faultOf p).isNone ∈ e.todo
  cev    : s.faultOf p = none → s.CevFollows e p
  atSea  : s.amu.mode = .sea → s.faultOf p = none → e.aeu.Raised .pointFault p

/-- A fault is reported for a present point, and no other point is touched (R13). -/
structure State.FaultRecorded (s e : State) (p : Nat) (code : FaultCode) : Prop extends State.FaultReported s e p code where
  others : ∀ q, q ≠ p → tget e.pmn.points q = tget s.pmn.points q

/-- HPA holds neither a request nor a grant of a motion, and no point is reserved by it (R12, R67). -/
def State.NothingHeldBy (e : State) (m : Nat) : Prop :=
  e.hpa.grantOf m = none ∧ e.hpa.entryOf m = none ∧ ∀ q, e.reservedBy q ≠ some m

/-- The axis move `a` of motion `m` has ended (R103): outputs 0, flow and reservation given up, the drive state at rest, the outcome reported; the record keeps
everything else, and no other motion and no operation is touched. -/
structure State.MoveEnded (s e : State) (m : Nat) (a : AxisMotion) (st : MotionState) (cause : Option FailCause) : Prop where
  record  : e.adu? m = some { a with
    state := st, halt := none, cause := cause, granted := none, travel := none, stall := none, settle := none }
  outputs : ∀ p ∈ e.ost.props, p.owner = some a.axis → p.command = 0
  given   : e.NothingHeldBy m
  drive   : ∀ y, e.axis? a.axis = some y → y.drive = if s.floats a.axis then .float else .idle
  told    : Task.outcome m ∈ e.todo
  others  : (∀ n, n ≠ m → e.adu? n = s.adu? n) ∧ e.adu.floats = s.adu.floats ∧ e.osq = s.osq ∧ (finish e).fixed = s.fixed

/-- A coil output is demanded as given; an output demanded off is not ON (R142). -/
def State.coilDemanded (e : State) (out : Nat) (on : Bool) : Prop :=
  ∀ c, e.ost.coils[out]? = some c → c.demand = on ∧ (on = false → c.state ≠ .on)

/-- Both coils of a lock that a motion reserves are off, where the lock owns them (R11, R142). -/
def State.LockOff (s e : State) (m p : Nat) : Prop :=
  s.reservedBy p = some m → ∀ d, s.layout.lock? p = some d → ∀ o ∈ [d.engageCoil, d.retractCoil],
    (∀ c, s.ost.coils[o]? = some c → c.owner = some p) → e.coilDemanded o false

/-- A hold has halted the motion `m` (R84, R101, R128): its record is HALTED with cause HOLD and its timers stopped, its coils are off or its outputs 0, an axis
that drove or settled has drive state HALTED, HPA holds no grant and no request of it, and it keeps its reservation. -/
structure State.HaltedByHold (s e : State) (m : Nat) : Prop where
  group : ∀ g, s.ldu? m = some g → g.state = .waitingFlow ∨ g.state = .driving ∨ (g.state = .halted ∧ g.halt = some .noFlow) →
    e.ldu? m = some { g with
      state := .halted, halt := some .hold, granted := none, members := g.members.map (fun x => { x with travel := none, back := none }) } ∧
    (∀ x ∈ g.members, s.LockOff e m x.point) ∧ e.hpa.grantOf m = none ∧ e.hpa.entryOf m = none
  move  : ∀ a, s.adu? m = some a →
    a.state = .waitingFlow ∨ a.state = .driving ∨ a.state = .settling ∨ (a.state = .halted ∧ a.halt = some .noFlow) →
    e.adu? m = some { a with
      state := .halted, halt := some .hold, granted := none, travel := none, stall := none, settle := none } ∧
    (∀ p ∈ e.ost.props, p.owner = some a.axis → p.command = 0) ∧ e.hpa.grantOf m = none ∧ e.hpa.entryOf m = none ∧
    (a.state = .driving ∨ a.state = .settling → ∀ y, e.axis? a.axis = some y → y.drive = .halted)
  kept  : ∀ p, s.reservedBy p = some m → e.reservedBy p = some m

/-- The group drive of motion `m` has ended (R85): its coils off, the reservation and the flow given up, no member's timer running, the outcome reported; no
other motion and no operation is touched. -/
structure State.GroupEnded (s e : State) (m : Nat) (st : MotionState) (cause : Option FailCause) (failed : List Nat) : Prop where
  record : ∃ g, e.ldu? m = some g ∧ g.state = st ∧ g.halt = none ∧ g.cause = cause ∧ g.failed = failed ∧ g.granted = none ∧
    ∀ x ∈ g.members, x.travel = none ∧ x.back = none
  coils  : ∀ g, s.ldu? m = some g → ∀ x ∈ g.members, s.LockOff e m x.point
  given  : e.NothingHeldBy m
  told   : Task.outcome m ∈ e.todo
  others : (∀ n, n ≠ m → e.ldu? n = s.ldu? n) ∧ e.osq = s.osq ∧ (finish e).fixed = s.fixed

/-- The jog `j` has ended (R141): its record, its outputs, its flow and its reservation, and the drive state of its axis; no operation and no motion is touched. -/
structure State.JogEnded (s e : State) (j : Jog) (cause : JogEnd) : Prop where
  record  : e.osq = { s.osq with jog := some { j with phase := .ended, granted := none, timer := none, cause := some cause } }
  coil    : ∀ dir, j.dir = .lock dir → s.reservedBy j.point = some Config.jogMotion → ∀ d, s.layout.lock? j.point = some d →
    (∀ c, s.ost.coils[d.coil dir]? = some c → c.owner = some j.point) → e.coilDemanded (d.coil dir) false
  outputs : ∀ dir, j.dir = .axis dir → ∀ p ∈ e.ost.props, p.owner = some j.point → p.command = 0
  drive   : ∀ dir, j.dir = .axis dir → ∀ y, e.axis? j.point = some y → y.drive = if s.floats j.point then .float else .idle
  given   : e.NothingHeldBy Config.jogMotion
  others  : e.ldu = s.ldu ∧ e.adu = s.adu ∧ (finish e).fixed = s.fixed

/-- The outputs of the jog `j` are off, and its flow and its reservation are given up (R141). -/
structure State.JogReleased (s e : State) (j : Jog) : Prop where
  coil    : ∀ dir, j.dir = .lock dir → s.reservedBy j.point = some Config.jogMotion → ∀ d, s.layout.lock? j.point = some d →
    (∀ c, s.ost.coils[d.coil dir]? = some c → c.owner = some j.point) → e.coilDemanded (d.coil dir) false
  outputs : ∀ dir, j.dir = .axis dir → ∀ p ∈ e.ost.props, p.owner = some j.point → p.command = 0
  given   : e.NothingHeldBy Config.jogMotion

/-- The step of the entry `n`, at place `k` of the RUNNING context `x`, has failed (R124): the entry is FAILED with the cause, and the operation holds with STEP_FAILED
and no entry ACTIVE; where its on-fail is REVERSE and R136 allows it, the reverse operation replaces the context instead. -/
def State.StepFails (s t : State) (x : Context) (k : Nat) (n : Entry) (cause : FailCause) : Prop :=
  let reversible := n.step.onFail = .reverse ∧ x.reversed = none ∧ ∃ r d, s.reverseOf x = some (r, d) ∧ s.amu.mode ∈ d.modes
  (¬ reversible →
    t.todo.contains .issue = false ∧
    ∃ y, t.osq.context = some y ∧ y.state = .holding ∧ y.causes = [{ kind := .stepFailed, subject := .step n.ref }] ∧
      y.pointer = x.pointer ∧ y.stack = x.stack ∧ y.inFlight.length = x.inFlight.length ∧
      y.inFlight[k]? = some { n with state := .failed, cause := some cause, remaining := none, due := false } ∧
      ∀ i ∈ y.inFlight, i.state ≠ .active) ∧
  (reversible → ∀ r d, s.reverseOf x = some (r, d) →
    t.osq.context = some
        { op := r, name := d.name, origin := x.origin, state := .running, reversed := some x.op, stack := []
          pointer := { list := d.list, index := 0 }, inFlight := [], causes := [], start := s.aeu.stamp } ∧
      t.aeu.newest = some (.reversed r x.op) ∧ t.todo.getLast? = some .issue)

/-- The step needs nothing done (R117). -/
def State.StepSatisfied (s : State) : StepKind → Prop
  | .driveGroup g d => ∀ def_, tget s.layout.groups g = some def_ → ∀ p ∈ def_.members, s.confirmed p = d.target
  | .moveAxis i w l => ∃ a p, s.layout.axis? i = some a ∧ s.position i = some p ∧ distanceOf (s.targetOf i w) p ≤ a.inPos ∧
      (l = true → s.landed i = true)
  | .floatAxis _ => False
  | .wait c w _ => s.cond c = if w = true then .yes else .no
  | .pause _ => False
  | .call _ => False

/-- The subject whose permissive a step is asked for at issue (R50, R90). -/
def State.stepAsks (s : State) : StepKind → Option Subject
  | .driveGroup g d => some (.group g d)
  | .moveAxis i w _ =>
    if s.position i ≠ none ∧ s.targetProtected i (s.targetOf i w) = false then some (.axis i (s.moveDir i (s.targetOf i w))) else none
  | .floatAxis _ => none
  | .wait _ _ _ => none
  | .pause _ => none
  | .call _ => none

/-- The points that a step claims: a group's members off the target, or the axis (R73, R91). -/
def State.claimed (s : State) : StepKind → List Nat
  | .driveGroup g d => (((tget s.layout.groups g).map (fun def_ => def_.members)).getD []).filter (fun p => s.confirmed p != d.target)
  | .moveAxis i _ _ => [i]
  | .floatAxis _ => []
  | .wait _ _ _ => []
  | .pause _ => []
  | .call _ => []

/-- Every point that a step claims is present and reserved by no motion (R11). -/
def State.ClaimFree (s : State) (k : StepKind) : Prop := ∀ p ∈ s.claimed k, (tget s.pmn.points p).isSome ∧ s.reservedBy p = none

/-- Why the unit fails a step at issue, if it does (R74, R91). -/
def State.issueCause (s : State) : StepKind → Option FailCause
  | .driveGroup g d =>
    if (s.claimed (.driveGroup g d)).any (fun p => (s.faultOf p).isSome || s.confirmed p == .conflict) then some .memberFaulted else none
  | .moveAxis i w _ =>
    if s.position i = none ∨ s.faultOf i ≠ none then some .axisFaulted
    else if s.targetProtected i (s.targetOf i w) = true then some .windowProtected
    else none
  | .floatAxis _ => none
  | .wait _ _ _ => none
  | .pause _ => none
  | .call _ => none

/-- The motion id OSQ gives: the first that no in-flight entry holds, from the next motion id upward and on from 0 after 6 (R112). -/
def FirstFree (next : Nat) (es : List Entry) (m : Nat) : Prop :=
  ∃ k < 7, m = (next + k) % 7 ∧ (∀ n ∈ es, n.motion ≠ some m) ∧ ∀ j < k, ∃ n ∈ es, n.motion = some ((next + j) % 7)

/-- A step stands with its unit as motion `m`, waiting for flow (R61, R74, R91): its points reserved, its record made, its request sent. -/
structure State.HandedOver (s t : State) (m : Nat) (ref : StepRef) (k : StepKind) : Prop where
  points : ∀ p, t.reservedBy p = if p ∈ s.claimed k then some m else s.reservedBy p
  group  : ∀ g d def_, k = .driveGroup g d → tget s.layout.groups g = some def_ →
    let flow := ((s.claimed k).map (fun p => ((s.layout.lock? p).map (fun l => l.flow)).getD 0)).sum
    t.ldu? m = some
      { owner := ref, group := g, dir := d, state := .waitingFlow, halt := none, cause := none, failed := []
        requested := flow, granted := none, watched := s.watchFor (.group g d), policy := def_.policy
        retryLimit := def_.retryLimit, backOff := def_.backOff, firstCause := none
        members := (s.claimed k).map (fun p =>
          { point := p, limit := ((s.layout.lock? p).map (fun l => l.travelLimit)).getD 0, state := .driving
            travel := none, back := none, retries := 0 }) } ∧
    t.hpa.requests = s.hpa.requests ++
      [{ motion := m, cls := .locking, requested := flow, minimum := flow, stamp := s.hpa.arrival, passed := 0, wait := s.tune.flowWait }]
  move   : ∀ i w l a p, k = .moveAxis i w l → s.layout.axis? i = some a → s.position i = some p →
    let dir := directionTo (s.targetOf i w) p
    let requested := (a.base dir * a.qFull + 999) / 1000
    let minimum := (a.vMin * a.qFull + 999) / 1000
    t.adu? m = some
      { owner := ref, axis := i, target := s.targetOf i w, landing := l, dir := dir, state := .waitingFlow, halt := none, cause := none
        requested := requested, minimum := minimum, granted := none, watched := s.watchFor (.axis i dir)
        travel := none, stall := none, settle := none, redrives := 0, last := none } ∧
    t.hpa.requests = s.hpa.requests ++
      [{ motion := m, cls := .travel, requested := requested, minimum := minimum, stamp := s.hpa.arrival, passed := 0
         wait := s.tune.flowWait }]
  rest   : t.ost = s.ost ∧ (∀ p, t.faultOf p = s.faultOf p) ∧ t.fixed = s.fixed

/-- A motion has been withdrawn (R86, R103, R135): its record is discarded, and where it had not ended its outputs are off, its flow and its reservation are given
up, and its axis is at rest. -/
structure State.Withdrawn (s e : State) (m : Nat) : Prop where
  record  : e.ldu? m = none ∧ e.adu? m = none
  group   : ∀ g, s.ldu? m = some g → g.state ≠ .done → g.state ≠ .failed → e.NothingHeldBy m ∧ ∀ x ∈ g.members, s.LockOff e m x.point
  move    : ∀ a, s.adu? m = some a → a.state ≠ .done → a.state ≠ .failed →
    e.NothingHeldBy m ∧ (∀ p ∈ e.ost.props, p.owner = some a.axis → p.command = 0) ∧
      ∀ y, e.axis? a.axis = some y → y.drive = if s.floats a.axis then .float else .idle

/-! ### What the checks of a commit ask of a layout -/

/-- The index is that of a LOCK record. -/
def lockIn (l : Layout) (p : Nat) : Prop := ∃ d, tget l.points p = some (.lock d)

/-- The index is that of an AXIS record. -/
def axisIn (l : Layout) (p : Nat) : Prop := ∃ d ws, tget l.points p = some (.axis d ws)

/-- A condition that is built in or defined, and c4 and c5 only with their input assigned (R36; checks 1 and 11). -/
def knownCond (l : Layout) (c : Nat) : Prop :=
  (c < 8 ∨ tget l.conditions c ≠ none) ∧ (c = 4 → ∃ h, l.header = some h ∧ h.deckClear ≠ none) ∧
    (c = 5 → ∃ h, l.header = some h ∧ h.linkspan ≠ none)

/-- A transducer's calibration (R4; check 5). -/
def soundTransducer (t : Transducer) : Prop :=
  700 ≤ t.closedCount ∧ t.closedCount ≤ 4050 ∧ 700 ≤ t.openCount ∧ t.openCount ≤ 4050 ∧ 400 ≤ ((t.openCount : Int) - t.closedCount).natAbs

/-- What the points use is used once: no point uses a thing twice, and no two points use the same (check 3). -/
def usedOnce (l : Layout) (use : PointDef → List Nat) : Prop :=
  (∀ i d, tget l.points i = some d → (use d).Nodup) ∧
    ∀ i j d e, tget l.points i = some d → tget l.points j = some e → i ≠ j → ∀ x ∈ use d, x ∉ use e

/-- What a layout holds that passes the twelve consistency checks of R186 (R4 to R7, R36, R39, R48, R110, R159). That a sensor input which the header assigns to c4 or c5
is used twice is the model's inference (assumption 9). -/
structure LayoutConsistent (l : Layout) : Prop where
  counts      : 1 ≤ l.pumps.length ∧ l.pumps.length ≤ 3 ∧ l.header ≠ none ∧ l.tuning ≠ none ∧
    (l.points.filter (fun e => match e.2 with
      | .axis _ _ => true
      | .lock _ => false)).length ≤ 4
  header      : ∀ h, l.header = some h → knownCond l h.visorCond ∧ knownCond l h.innerCond
  sensors     : usedOnce l (fun d => match d with
    | .lock x => [x.engagedIn, x.retractedIn]
    | .axis _ _ => [])
  assigned    : ∀ h k, l.header = some h → h.deckClear = some k ∨ h.linkspan = some k →
    ∀ i d, tget l.points i = some (.lock d) → d.engagedIn ≠ k ∧ d.retractedIn ≠ k
  analogs     : usedOnce l (fun d => match d with
    | .lock _ => []
    | .axis x _ => x.transA.input :: (x.transB.toList.map (fun t => t.input) ++ x.tip.toList.map (fun t => t.input)))
  coils       : usedOnce l (fun d => match d with
    | .lock x => [x.engageCoil, x.retractCoil]
    | .axis x _ => x.float.toList.map (fun f => f.coil))
  outputs     : usedOnce l (fun d => match d with
    | .lock _ => []
    | .axis x _ => [x.openOut, x.closeOut])
  lockCoils   : ∀ i d, tget l.points i = some (.lock d) → d.engageCoil / 8 ≠ 5 ∧ d.retractCoil / 8 ≠ 5
  axes        : ∀ i d ws, tget l.points i = some (.axis d ws) →
    d.vMin ≤ d.vOpen ∧ d.vMin ≤ d.vClose ∧ d.inPos ≤ d.endBand ∧ 2 * d.endBand < d.travel ∧
      (∀ w ∈ ws, w.start ≤ d.travel ∧ w.range ≤ d.travel) ∧ soundTransducer d.transA ∧ (∀ t, d.transB = some t → soundTransducer t) ∧
      (∀ f, d.float = some f → f.low < f.high ∧ f.high ≤ d.travel ∧ f.coil / 8 = 5) ∧
      (∀ t, d.tip = some t → t.liftOff ≤ t.landing) ∧ (d.vMin * d.qFull + 999) / 1000 ≤ (l.pumps.map (fun e => e.2.capacity)).sum
  groups      : ∀ i g, tget l.groups i = some g →
    g.members.Nodup ∧ (∀ p ∈ g.members, lockIn l p) ∧
      (g.members.map (fun p => ((l.lock? p).map (fun d => d.flow)).getD 0)).sum ≤ (l.pumps.map (fun e => e.2.capacity)).sum
  conditions  : ∀ i ts, tget l.conditions i = some ts → ts.length ≤ 8 ∧
    ∀ t ∈ ts, match t.req with
      | .engaged => lockIn l t.point
      | .retracted => lockIn l t.point
      | .atClosed => axisIn l t.point
      | .atOpen => axisIn l t.point
      | .atLeast x => ∃ d ws, tget l.points t.point = some (.axis d ws) ∧ x ≤ d.travel
      | .atMost x => ∃ d ws, tget l.points t.point = some (.axis d ws) ∧ x ≤ d.travel
  operations  : ∀ i d, tget l.operations i = some d →
    tget l.lists d.list ≠ none ∧ (∀ r, d.reverse = some r → r ≠ i ∧ tget l.operations r ≠ none) ∧
      (.sea ∈ d.modes →
        ∃ reach : Nat → Prop, reach d.list ∧
          ∀ k ss, reach k → tget l.lists k = some ss → ∀ x ∈ ss, match x.kind with
            | .driveGroup _ dir => dir = .engage
            | .moveAxis _ _ _ => False
            | .floatAxis _ => False
            | .wait _ _ _ => True
            | .pause _ => True
            | .call c => reach c)
  stepCount   : (l.lists.map (fun e => e.2.length)).sum ≤ 256
  steps       : ∀ i ss, tget l.lists i = some ss → ss ≠ [] ∧
    ∀ x ∈ ss, match x.kind with
      | .driveGroup g _ => tget l.groups g ≠ none
      | .moveAxis p target landing => ∃ d ws, tget l.points p = some (.axis d ws) ∧
          (∀ n, target = .position n → n ≤ d.travel) ∧ (landing = true → d.tip ≠ none)
      | .floatAxis p => ∃ d ws, tget l.points p = some (.axis d ws) ∧ d.float ≠ none
      | .wait c _ _ => knownCond l c
      | .pause _ => True
      | .call c => tget l.lists c ≠ none
  calls       : ∃ depth : Nat → Nat,
    (∀ i ss, tget l.lists i = some ss → ∀ x ∈ ss, ∀ c, x.kind = .call c → depth c < depth i) ∧
      ∀ i d, tget l.operations i = some d → depth d.list ≤ 4
  permissives : ∀ i e, tget l.permissives i = some e →
    (match e.subject with
      | .group g _ => tget l.groups g ≠ none
      | .axis p _ => axisIn l p) ∧
    (∀ c ∈ e.require, knownCond l c ∧ c ∉ e.forbid) ∧ (∀ c ∈ e.forbid, knownCond l c ∧ c ≠ 0) ∧
    ∀ j f, tget l.permissives j = some f → j ≠ i → f.subject ≠ e.subject
  tuning      : ∀ t, l.tuning = some t → t.attitudeHyst < t.heelLimit ∧ t.attitudeHyst < t.pitchLimit

/-- The tables of a layout stand in rising index order, as every PUT leaves them, and its step lists have ids below 32 (R110). -/
structure LayoutSorted (l : Layout) : Prop where
  tables : tsorted l.points = true ∧ tsorted l.groups = true ∧ tsorted l.conditions = true ∧ tsorted l.permissives = true ∧
    tsorted l.operations = true ∧ tsorted l.lists = true
  lists  : ∀ e ∈ l.lists, e.1 < 32

/-! ### How a record is served -/

/-- The state after a record that is answered and has no further effect: hold-to-run as its RUN flag leaves it (R180), and the reply record kept on
its link, of the request's kind plus 80h (R174). -/
def State.answered (s : State) (st : Station) (run : Bool) (kind : Nat) (r : Result) (fields : List Byte := []) : State :=
  (s.takeRun st run).setReply st (BitVec.ofNat 8 (kind + 128)) r fields

/-- The state after a record whose accepted effect `e` has settled: its reply is OK. -/
def State.acceptedAs (e : State) (st : Station) (kind : Nat) (fields : List Byte := []) : State :=
  (finish e).setReply st (BitVec.ofNat 8 (kind + 128)) .ok fields

end Sys2Proof.Machine

/-- The station, the RUN flag, the kind and the service of a record command (12.6, R175, R188); none for an event of the part. -/
def Sys2Proof.Instr.record? : Sys2Proof.Instr → Option (Sys2Proof.Station × Bool × Nat × Sys2Proof.Machine.Service)
  | .status st run => some (st, run, 0x01, .always)
  | .claimControl st run _ => some (st, run, 0x02, .setup)
  | .releaseControl st run => some (st, run, 0x03, .always)
  | .holdToRun st run => some (st, run, 0x04, .work)
  | .setMode st run _ => some (st, run, 0x05, .full)
  | .consent st run _ => some (st, run, 0x06, .work)
  | .vesselState st run _ _ _ => some (st, run, 0x07, .work)
  | .startOperation st run _ => some (st, run, 0x10, .full)
  | .stop st run => some (st, run, 0x11, .work)
  | .resume st run => some (st, run, 0x12, .full)
  | .reverse st run => some (st, run, 0x13, .full)
  | .abort st run => some (st, run, 0x14, .full)
  | .jog st run _ _ _ => some (st, run, 0x15, .full)
  | .clearFaultPoint st run _ => some (st, run, 0x16, .full)
  | .clearFaultPump st run _ => some (st, run, 0x16, .full)
  | .resetEstop st run => some (st, run, 0x17, .full)
  | .readPoint st run _ => some (st, run, 0x20, .always)
  | .readConditions st run => some (st, run, 0x21, .always)
  | .readOperation st run => some (st, run, 0x22, .always)
  | .readPumps st run => some (st, run, 0x23, .always)
  | .readAlarms st run _ => some (st, run, 0x24, .always)
  | .ackAlarm st run _ => some (st, run, 0x25, .work)
  | .seekEvents st run _ _ => some (st, run, 0x26, .work)
  | .readEvents st run => some (st, run, 0x27, .always)
  | .layoutOpen st run _ => some (st, run, 0x30, .setup)
  | .layoutCommit st run => some (st, run, 0x31, .setup)
  | .layoutDiscard st run => some (st, run, 0x32, .setup)
  | .putHeader st run _ => some (st, run, 0x40, .setup)
  | .putPump st run _ _ => some (st, run, 0x41, .setup)
  | .putPoint st run _ _ => some (st, run, 0x42, .setup)
  | .putWindow st run _ _ _ => some (st, run, 0x43, .setup)
  | .putGroup st run _ _ => some (st, run, 0x44, .setup)
  | .putCondition st run _ _ => some (st, run, 0x45, .setup)
  | .putPermissive st run _ _ => some (st, run, 0x46, .setup)
  | .putOperation st run _ _ => some (st, run, 0x47, .setup)
  | .listBegin st run _ _ => some (st, run, 0x48, .setup)
  | .putStep st run _ => some (st, run, 0x49, .setup)
  | .putTuning st run _ => some (st, run, 0x4A, .setup)
  | .getHeader st run => some (st, run, 0x50, .setup)
  | .getPump st run _ => some (st, run, 0x51, .setup)
  | .getPoint st run _ => some (st, run, 0x52, .setup)
  | .getWindow st run _ _ => some (st, run, 0x53, .setup)
  | .getGroup st run _ => some (st, run, 0x54, .setup)
  | .getCondition st run _ => some (st, run, 0x55, .setup)
  | .getPermissive st run _ => some (st, run, 0x56, .setup)
  | .getOperation st run _ => some (st, run, 0x57, .setup)
  | .getListBegin st run _ => some (st, run, 0x58, .setup)
  | .getStep st run _ _ => some (st, run, 0x59, .setup)
  | .getTuning st run => some (st, run, 0x5A, .setup)
  | .powerOnReset _ => none
  | .xrst => none
  | .xrstRelease _ => none
  | .startupCheckEnd => none
  | .estopFirstReport _ _ => none
  | .timeStampTick => none
  | .debouncedValueChange _ => none
  | .analogFilteredValue _ _ => none
  | .recoveryTimerExpiry _ => none
  | .conflictTimerExpiry _ => none
  | .stalenessTimerExpiry => none
  | .startTimerExpiry _ => none
  | .runDownTimerExpiry _ => none
  | .idleTimerExpiry => none
  | .flowWaitExpiry _ => none
  | .memberTravelTimeout _ _ => none
  | .backOffExpiry _ _ => none
  | .controlInterval _ => none
  | .stallWindowEnd _ => none
  | .axisTravelTimeout _ => none
  | .settleEnd _ => none
  | .liftOffTimerExpiry _ => none
  | .waitStepExpiry _ => none
  | .pauseExpiry _ => none
  | .jogDurationExpiry => none
  | .jogAxisCheck => none
  | .coilFaultOpen _ => none
  | .coilFaultShort _ => none
  | .coilFaultStuck _ => none
  | .darkPulse _ _ => none
  | .propFaultOpen _ => none
  | .propFaultShort _ => none
  | .estopChannelChange _ _ => none
  | .discrepancyTimerExpiry => none
  | .silenceTimerExpiry _ => none
  | .holdToRunExpiry => none
  | .interByteGap _ => none
  | .requestFrame _ _ => none
  | .badRecord _ _ => none
  | .layoutWriteEnd => none
  | .discreteSample _ => none
  | .receivedByte _ _ => none
end

