-- ==== Sys2Proof/WellFormed.lean ====
section
/-! DEFINITION. WellFormed.lean: which commands can be sent or can happen: operands within the width of the field that carries them (R176) or
within the inputs, outputs and measures of the part (chapter 0, R18, R21, R142, R148). Ranges that a rule answers are not checked here. -/
namespace Sys2Proof

/-- A one-byte field. -/
def fitsByte (n : Nat) : Bool := decide (n < 256)

/-- A two-byte number. -/
def fitsWord (n : Nat) : Bool := decide (n < 65536)

/-- A two-byte number in two's complement. -/
def fitsInt (x : Int) : Bool := decide (-32768 ≤ x) && decide (x < 32768)

/-- A discrete input of the part: 96 field inputs and three feedback terminals. -/
def DiscreteInput.wf : DiscreteInput → Bool
  | .field i => decide (i < 96)
  | .feedback p => decide (p < 3)

/-- A LOCK record in its fields. -/
def LockDef.wf (d : LockDef) : Bool :=
  [d.engagedIn, d.retractedIn, d.engageCoil, d.retractCoil].all fitsByte && [d.flow, d.travelLimit].all fitsWord

/-- A transducer in its fields. -/
def Transducer.wf (t : Transducer) : Bool := fitsByte t.input && fitsWord t.closedCount && fitsWord t.openCount

/-- An AXIS record in its fields. -/
def AxisDef.wf (d : AxisDef) : Bool :=
  d.transA.wf && d.transB.all Transducer.wf && [d.openOut, d.closeOut].all fitsByte &&
    [d.travel, d.endBand, d.skewLimit, d.qFull, d.vMin, d.vOpen, d.vClose, d.approach, d.inPos, d.settle, d.stallDelta, d.stallWindow,
      d.limitOpen, d.limitClose].all fitsWord &&
    d.float.all (fun f => fitsByte f.coil && fitsWord f.low && fitsWord f.high) &&
    d.tip.all (fun t => fitsByte t.input && fitsWord t.fullScale && fitsWord t.landing && fitsWord t.liftOff)

/-- A point record in its fields. -/
def PointBody.wf : PointBody → Bool
  | .lock d => d.wf
  | .axis d => d.wf

/-- A travel window in its fields. -/
def Window.wf (w : Window) : Bool := fitsWord w.start && fitsWord w.range && fitsWord w.level

/-- A group in its fields. -/
def GroupDef.wf (g : GroupDef) : Bool :=
  fitsByte g.members.length && g.members.all fitsByte && fitsWord g.retryLimit && fitsWord g.backOff

/-- A term in its fields. -/
def Term.wf (t : Term) : Bool :=
  fitsByte t.point &&
    match t.req with
    | .atLeast x => fitsWord x
    | .atMost x => fitsWord x
    | .engaged => true
    | .retracted => true
    | .atClosed => true
    | .atOpen => true

/-- A permissive entry in its fields. -/
def PermEntry.wf (e : PermEntry) : Bool :=
  (match e.subject with
    | .group g _ => fitsByte g
    | .axis p _ => fitsByte p) &&
    fitsByte e.require.length && e.require.all fitsByte && fitsByte e.forbid.length && e.forbid.all fitsByte

/-- An operation definition in its fields. -/
def OpDef.wf (d : OpDef) : Bool :=
  fitsByte d.name.length && fitsByte d.modes.length && fitsByte d.list && d.reverse.all fitsByte

/-- A step in its fields. -/
def Step.wf (st : Step) : Bool :=
  match st.kind with
  | .driveGroup g _ => fitsByte g
  | .moveAxis p t _ => fitsByte p &&
    match t with
    | .position x => fitsWord x
    | .closedEnd => true
    | .openEnd => true
  | .floatAxis p => fitsByte p
  | .wait c _ l => fitsByte c && fitsWord l
  | .pause t => fitsWord t
  | .call l => fitsByte l

/-- A header record in its fields. -/
def Header.wf (h : Header) : Bool := fitsByte h.visorCond && fitsByte h.innerCond && h.deckClear.all fitsByte && h.linkspan.all fitsByte

/-- A tuning record in its fields. -/
def Tuning.wf (t : Tuning) : Bool :=
  [t.travelPromotion, t.flowWait, t.idleTime, t.heelLimit, t.pitchLimit, t.attitudeHyst, t.windLimit, t.windHyst, t.debSensor,
    t.debGeneral, t.debFeedback].all fitsWord

/-- A record part in its fields. -/
def Given.wf {α : Type} (ok : α → Bool) : Given α → Bool
  | .absent => true
  | .present a => ok a
  | .outOfList => true

/-- The discrete changes of one sample instant name each input once. -/
def changesOnce : List (DiscreteInput × Bool) → Bool
  | [] => true
  | c :: r => !r.any (fun d => d.1 == c.1) && changesOnce r

/-- The command can be sent or can happen. -/
def Instr.wf : Instr → Bool
  | .powerOnReset _ => true
  | .xrst => true
  | .xrstRelease _ => true
  | .startupCheckEnd => true
  | .estopFirstReport _ _ => true
  | .timeStampTick => true
  | .debouncedValueChange changes => changes.all (fun c => c.1.wf) && changesOnce changes
  | .analogFilteredValue input count => decide (input < 12) && decide (count < 4096)
  | .recoveryTimerExpiry input => decide (input < 12)
  | .conflictTimerExpiry point => decide (point < 48)
  | .stalenessTimerExpiry => true
  | .startTimerExpiry pump => decide (pump < 3)
  | .runDownTimerExpiry pump => decide (pump < 3)
  | .idleTimerExpiry => true
  | .flowWaitExpiry motion => decide (motion < 8)
  | .memberTravelTimeout motion point => decide (motion < 8) && decide (point < 48)
  | .backOffExpiry motion point => decide (motion < 8) && decide (point < 48)
  | .controlInterval motion => decide (motion < 8)
  | .stallWindowEnd motion => decide (motion < 8)
  | .axisTravelTimeout motion => decide (motion < 8)
  | .settleEnd motion => decide (motion < 8)
  | .liftOffTimerExpiry point => decide (point < 48)
  | .waitStepExpiry slot => decide (slot < Config.inFlightMax)
  | .pauseExpiry slot => decide (slot < Config.inFlightMax)
  | .jogDurationExpiry => true
  | .jogAxisCheck => true
  | .coilFaultOpen out => decide (out < 48)
  | .coilFaultShort out => decide (out < 48)
  | .coilFaultStuck outs => outs.all (fun o => decide (o < 48)) && outs.Nodup
  | .darkPulse out _ => decide (out < 48)
  | .propFaultOpen out => decide (out < 8)
  | .propFaultShort out => decide (out < 8)
  | .estopChannelChange _ _ => true
  | .discrepancyTimerExpiry => true
  | .silenceTimerExpiry _ => true
  | .holdToRunExpiry => true
  | .interByteGap _ => true
  | .requestFrame _ bytes => decide (bytes.length ≤ 1026)
  | .badRecord _ _ => true
  | .status _ _ => true
  | .claimControl _ _ _ => true
  | .releaseControl _ _ => true
  | .holdToRun _ _ => true
  | .setMode _ _ mode => fitsByte mode
  | .consent _ _ _ => true
  | .vesselState _ _ heel pitch wind => fitsInt heel && fitsInt pitch && decide (0 ≤ wind) && decide (wind < 65536)
  | .startOperation _ _ op => fitsByte op
  | .stop _ _ => true
  | .resume _ _ => true
  | .reverse _ _ => true
  | .abort _ _ => true
  | .jog _ _ point dir duration => fitsByte point && fitsByte dir && fitsWord duration
  | .clearFaultPoint _ _ point => fitsByte point
  | .clearFaultPump _ _ pump => fitsByte pump
  | .resetEstop _ _ => true
  | .readPoint _ _ point => fitsByte point
  | .readConditions _ _ => true
  | .readOperation _ _ => true
  | .readPumps _ _ => true
  | .readAlarms _ _ position => fitsByte position
  | .ackAlarm _ _ what =>
    match what with
    | .all => true
    | .pair kind subj => fitsByte kind && fitsByte subj
  | .seekEvents _ _ choice n => fitsByte choice && fitsWord n
  | .readEvents _ _ => true
  | .layoutOpen _ _ region => fitsByte region
  | .layoutDiscard _ _ => true
  | .layoutCommit _ _ => true
  | .layoutWriteEnd => true
  | .putHeader _ _ h => h.all Header.wf
  | .putPump _ _ index r => fitsByte index && r.wf (fun p => fitsWord p.capacity && fitsWord p.startTime)
  | .putPoint _ _ index r => fitsByte index && r.wf PointBody.wf
  | .putWindow _ _ axis position r => fitsByte axis && fitsByte position && r.wf Window.wf
  | .putGroup _ _ index r => fitsByte index && r.wf GroupDef.wf
  | .putCondition _ _ index r => fitsByte index && r.wf (fun ts => fitsByte ts.length && ts.all Term.wf)
  | .putPermissive _ _ index r => fitsByte index && r.wf PermEntry.wf
  | .putOperation _ _ index r => fitsByte index && r.wf OpDef.wf
  | .listBegin _ _ list _ => fitsByte list
  | .putStep _ _ step => step.all Step.wf
  | .putTuning _ _ t => t.wf
  | .getHeader _ _ => true
  | .getPump _ _ index => fitsByte index
  | .getPoint _ _ index => fitsByte index
  | .getWindow _ _ axis position => fitsByte axis && fitsByte position
  | .getGroup _ _ index => fitsByte index
  | .getCondition _ _ index => fitsByte index
  | .getPermissive _ _ index => fitsByte index
  | .getOperation _ _ index => fitsByte index
  | .getListBegin _ _ list => fitsByte list
  | .getStep _ _ list index => fitsByte list && fitsByte index
  | .getTuning _ _ => true
  | .discreteSample on => on.all DiscreteInput.wf
  | .receivedByte _ _ => true

end Sys2Proof
end

