-- ==== Sys2Proof/Certificates/Slice0/Obligations.lean ====
section
/-! DEFINITION. Certificates/Slice0/Obligations.lean: the statements for the provers. Where a command sets reports between the blocks going, a
statement names the state `e` that the command's own effect gives; the command's next state is `finish e`, in which those reports have settled. -/
section
open Sys2Proof Sys2Proof.Machine

/-! ### The queue -/

/-- One step takes the command at the front of the queue on the state with the queue's rest; on an empty queue the part idles, which is the model's
choice (assumption 3). -/
def Obligations.StepTakesFrontCommand : Prop :=
  ∀ (c : Instr) (q : List Instr) (s : State),
    step { s with pending := c :: q } = exec c { s with pending := q } ∧
      step { s with pending := [] } = .next { s with pending := [] }

/-! ### Reset and start-up -/

/-- XRST holds the part in reset: every output goes off, OST's record takes its reset values (R153), the reports under way are dropped (assumption 14), and nothing
else changes (R187). That the loop then reads closed is the model's choice (assumption 25). -/
def Obligations.XrstSwitchesOutputsOff : Prop :=
  ∀ s : State, s.held = false →
    ∃ o : Ost,
      exec .xrst s = .next
          { s with held := true, ost := o, todo := [], aeu := { s.aeu with demanding := false, general := false, sea := false } } ∧
        (∀ c ∈ o.coils, c.state = .off ∧ c.demand = false) ∧ (∀ p ∈ o.props, p.command = 0) ∧ (∀ c ∈ o.contactors, c = false) ∧
        o.general = false ∧ o.sea = false ∧
        o =
          { coils := List.replicate 48 { owner := none, demand := false, state := .off }
            banks := List.replicate 6 { startup := true, estop := false, stuck := false }
            props := List.replicate 8 { owner := none, command := 0, state := .active }
            contactors := List.replicate 3 false, general := false, sea := false
            estop := .undecided, openA := false, openB := false, latch := false, discrepancy := none }

/-- While the reset input stays energized no command but POWER_ON_RESET and XRST_RELEASE changes anything, save that the time stamp counter runs on. R187 says that
the outputs are off, that the links receive nothing and that the time stamp counter runs on; that samples, timer expiries, the other events of the part and another XRST change nothing
either is the model's inference (assumption 14, DEDUCED). -/
def Obligations.HeldPartIgnoresCommands : Prop :=
  ∀ (c : Instr) (s : State), s.held = true → (∀ x, c ≠ .powerOnReset x) → (∀ x, c ≠ .xrstRelease x) →
    exec c s = .next (if c = .timeStampTick then { s with aeu := { s.aeu with stamp := s.aeu.stamp + 1 } } else s)

/-- POWER_ON_RESET puts every block in its reset state and judges the stored image; the event list, the serial and the time stamp start at 0, and the
lists hold POWER_UP and RESTART (R171, R182, R188). Which points, pumps, inputs and owners there are, and each one's fields, `State.FreshFrom` says; the readings of the
loop before the first report and the absent last reply are the model's choice (assumption 25), and that POWER_ON_RESET leaves the part not held whatever the reset input was is its
inference (assumption 14). The model's queue and free-value counter are kept. XRST_RELEASE does the same at the end of a reset by the external input, but keeps the event list, the next serial and the time stamp (R171, R182,
R187, R188); while the input is not energized it changes nothing. -/
def Obligations.ResetsRestartThePart : Prop :=
  (∀ (straps : Straps) (s : State),
     ∃ t : State, exec (.powerOnReset straps) s = .next t ∧ t.FreshFrom straps s.lst.stored ∧ t.pending = s.pending ∧ t.free = s.free ∧
       t.aeu.stamp = 0 ∧ t.aeu.nextSerial = 2 ∧ t.aeu.overflow = false ∧
       t.aeu.events = [{ serial := 0, stamp := 0, event := .powerUp .por },
         { serial := 1, stamp := 0, event := .alarmRaised .restart 0 .entered }] ∧
       t.aeu.alarms = [{ kind := .restart, subject := 0, state := .unackActive, stamp := 0 }]) ∧
  (∀ (straps : Straps) (s : State),
     (s.held = true →
       ∃ t : State, exec (.xrstRelease straps) s = .next t ∧ t.FreshFrom straps s.lst.stored ∧ t.pending = s.pending ∧ t.free = s.free ∧
         t.aeu.stamp = s.aeu.stamp ∧ t.aeu.nextSerial = s.aeu.nextSerial + 2 ∧ t.aeu.overflow = false ∧
         t.aeu.events = newestRecords (s.aeu.events ++
           [{ serial := s.aeu.nextSerial, stamp := s.aeu.stamp, event := .powerUp .xrst },
             { serial := s.aeu.nextSerial + 1, stamp := s.aeu.stamp, event := .alarmRaised .restart 1 .entered }]) ∧
         t.aeu.alarms = [{ kind := .restart, subject := 1, state := .unackActive, stamp := s.aeu.stamp }]) ∧
       (s.held = false → exec (.xrstRelease straps) s = .next s))

/-- STARTUP_CHECK_END: with a valid layout the part is CONFIGURED and STARTUP leaves every bank; without one it is UNCONFIGURED and the banks keep
STARTUP. The first relay demands are made and no RESTART entry stays active (R53, R171, R188). -/
def Obligations.StartupCheckEndSetsPhase : Prop :=
  ∀ s : State, s.held = false → s.lst.phase = .checking → s.aeu.AlarmsOk → s.ost.banks.length = 6 →
    ∃ e : State, exec .startupCheckEnd s = .next (finish e) ∧
      e.lst = { s.lst with phase := if s.lst.active.isSome then .configured else .unconfigured } ∧
      e.ost.banks = (if s.lst.active.isSome then s.ost.banks.map (fun b => { b with startup := false }) else s.ost.banks) ∧
      e.cev.started = (s.cev.started || s.lst.active.isNone) ∧
      e.aeu.demanding = true ∧ (∀ a ∈ e.aeu.alarms, a.kind = .restart → a.state = .unackCleared) ∧
      e.ost.general = e.aeu.general ∧ e.ost.sea = e.aeu.sea ∧
      (finish e).fixed = e.fixed ∧
      e.sli = s.sli ∧ e.amu = s.amu ∧ e.isc = s.isc ∧ e.pmn = s.pmn ∧ e.hpa = s.hpa ∧ e.ldu = s.ldu ∧ e.adu = s.adu ∧ e.osq = s.osq

/-- The time stamp counter rises by 1 at each tick and passes from 4294967295 to 0; it is 0 after POR and kept through XRST; alarm raises, event records
and the start of an operation carry it (R167). -/
def Obligations.TimeStampCountsTenths : Prop :=
  (∀ s : State, ∃ t, exec .timeStampTick s = .next t ∧ t.aeu = { s.aeu with stamp := s.aeu.stamp + 1 } ∧
    (s.aeu.stamp = 4294967295 → t.aeu.stamp = 0) ∧ (s.aeu.stamp ≠ 4294967295 → t.aeu.stamp.toNat = s.aeu.stamp.toNat + 1) ∧
    t.lst = s.lst ∧ t.amu.mode = s.amu.mode ∧ t.amu.holder = s.amu.holder ∧ t.amu.consent = s.amu.consent ∧
    t.hpa.grants = s.hpa.grants ∧ t.cev.conds = s.cev.conds ∧ t.cev.closure = s.cev.closure ∧ t.cev.vessel = s.cev.vessel ∧
    t.ost = { s.ost with discrepancy := t.ost.discrepancy } ∧ t.held = s.held ∧ t.todo = s.todo ∧ t.pending = s.pending) ∧
  (∀ (x : Straps) (s t : State), exec (.powerOnReset x) s = .next t → t.aeu.stamp = 0) ∧
  (∀ (x : Straps) (s t : State), exec .xrst s = .next t ∨ exec (.xrstRelease x) s = .next t → t.aeu.stamp = s.aeu.stamp) ∧
  (∀ (e : Event) (a : Aeu), ((a.record e).events.getLast?.map (fun r => r.stamp)) = some a.stamp) ∧
  (∀ (k : AlarmKind) (i : Nat) (a : Aeu) (x : Alarm), x ∈ (a.raise k i).alarms → x ∈ a.alarms ∨ x.stamp = a.stamp) ∧
  (∀ (op : Nat) (d : OpDef) (st : Station) (s : State),
    ((s.startContext op d st).osq.context.map (fun x => x.start)) = some s.aeu.stamp)

/-! ### What every step keeps -/

/-- From every state whose alarm list and event list are in order, one step leaves them in order (R164, R168). -/
def Obligations.StepKeepsListsInOrder : Prop :=
  ∀ s t : State, s.aeu.AlarmsOk → s.aeu.EventsOk → step s = .next t → t.aeu.AlarmsOk ∧ t.aeu.EventsOk

/-- Whenever HPA has finished handling an event, the sum of the granted flows does not exceed the capacity of the RUNNING pumps (R63). -/
def Obligations.StepKeepsAllocationWithinCapacity : Prop :=
  ∀ s t : State, s.hpa.Within → step s = .next t → t.hpa.Within

/-- While the emergency stop is ACTIVE no coil outside bank 5 is ON, no contactor is closed and every proportional command is 0; a faulted proportional
output stands at 0 at any time (R148, R149, R150). -/
def Obligations.StepKeepsOutputsSafe : Prop :=
  ∀ s t : State, s.ost.OutputsOk → step s = .next t → t.ost.OutputsOk

/-- The relays stand as AEU demands them, and AEU demands them as the alarm list, the mode and the closure ask (R149, R163, R166). -/
def Obligations.StepKeepsRelaysAsDemanded : Prop :=
  ∀ s t : State, s.RelaysOk → step s = .next t → t.RelaysOk

/-- The hold cause set, the in-flight list and the state of the operation context agree (R118, R127, R128, R137). -/
def Obligations.StepKeepsContextConsistent : Prop :=
  ∀ s t : State, s.osq.ContextOk → step s = .next t → t.osq.ContextOk

/-- Every step keeps consent to HARBOUR (R46, R47, R158), hold-to-run to a station that holds authority (R178, R180), and the edit buffer to the holder of authority and to a mode
that admits its region (R178, R184). -/
def Obligations.StepKeepsAuthorityConsistent : Prop :=
  ∀ s t : State, s.AuthorityOk → step s = .next t → t.AuthorityOk

/-- All of these properties hold right after power-on reset. -/
def Obligations.ResetMeetsEveryInvariant : Prop :=
  State.reset.aeu.AlarmsOk ∧ State.reset.aeu.EventsOk ∧ State.reset.hpa.Within ∧ State.reset.ost.OutputsOk ∧ State.reset.RelaysOk ∧
    State.reset.osq.ContextOk ∧ State.reset.AuthorityOk

/-! ### Records, frames and links -/

/-- Every record of a layout reads back from its bytes as it was written, with every operand at every value its field admits (R176, R185). -/
def Obligations.LayoutRecordsReadBack : Prop :=
  (∀ h : Header, h.wf → readBody getHeaderRec (putHeaderRec h) = some (h, false)) ∧
  (∀ t : Tuning, t.wf → readBody getTuningRec (putTuningRec t) = some (t, false)) ∧
  (∀ p : PumpDef, fitsWord p.capacity && fitsWord p.startTime → readBody getPumpRec (putPumpRec p) = some (p, false)) ∧
  (∀ d : PointBody, d.wf → readBody getBody (putBody d) = some (d, false)) ∧
  (∀ w : Window, w.wf → readBody getWindowRec (putWindowRec w) = some (w, false)) ∧
  (∀ g : GroupDef, g.wf → readBody getGroupRec (putGroupRec g) = some (g, false)) ∧
  (∀ ts : List Term, fitsByte ts.length && ts.all Term.wf → readBody (rList getTerm) (putConditionRec ts) = some (ts, false)) ∧
  (∀ e : PermEntry, e.wf → readBody getPermRec (putPermRec e) = some (e, false)) ∧
  (∀ d : OpDef, d.wf → readBody getOpRec (putOpRec d) = some (d, false)) ∧
  (∀ x : Step, x.wf → readBody getStepRec (putStepRec x) = some (x, false))

/-- A record command has the effect of its record in a frame: for every well-formed record command whose body fits in a record, handling the record that
carries it is the command (R174, R175, R176, R185; the byte forms that R176 leaves open are the model's choice, assumption 21). -/
def Obligations.RecordInFrameIsItsCommand : Prop :=
  ∀ (c : Instr) (st : Station) (run : Bool) (k : Nat) (v : Service) (r : RawRecord) (s : State),
    c.wf → c.record? = some (st, run, k, v) → c.raw = some r → r.body.length ≤ 240 → s.held = false →
      exec c s = .next (handleRecord st r s)

/-- Receiving a complete frame for the part's address byte by byte, from HUNT, does what the whole frame at once does (R173, R174); that REQUEST_FRAME
carries a whole frame, taken from HUNT, is the model's choice (assumption 7). -/
def Obligations.BytesOfFrameAreTheFrame : Prop :=
  ∀ (st : Station) (bytes : List Byte) (s : State), s.held = false → (s.link st).rx = .hunt → s.completeFrame bytes →
    bytes.foldl (fun o b =>
        match o with
        | .next x => exec (.receivedByte st b) x
        | .fault f => .fault f
        | .refused r => .refused r) (Host.Outcome.next s) =
      exec (.requestFrame st bytes) s

/-- What a received byte does in each receive state (R173): in HUNT, A5h begins a frame and any other byte is dropped; ADDRESS takes the address and marks a frame for
another part as ignored; LENGTH drops a frame whose length is not 1 to 1020; RECORDS and CHECK collect to the stated length, and an ignored frame, or one whose CRC
fails, ends in HUNT without a reply. A gap of more than 20 ms discards the frame under way, and the byte that ends it is taken in HUNT. The mark that a gap has passed, and
that REQUEST_FRAME, which carries a whole frame, drops a frame under way and leaves HUNT, are the model's choice (assumption 7). -/
def Obligations.HuntAndDroppedFrames : Prop :=
  (∀ (st : Station) (b : Byte) (s : State), s.held = false →
     let l : Link := { s.link st with gapOver := false }
     let bytes := l.bytes ++ [b]
     let n := (bytes.getD 1 0).toNat * 256 + (bytes.getD 2 0).toNat
     let goes (x : Link) : Prop := exec (.receivedByte st b) s = .next (s.modLink st (fun _ => x))
     let hunt : Link := { l with rx := .hunt, bytes := [], ignored := false }
     (l.rx = .hunt → (b = 0xA5 → goes { hunt with rx := .address }) ∧ (b ≠ 0xA5 → goes l)) ∧
     (l.rx = .address → goes { l with rx := .length, bytes := bytes, ignored := b != s.address }) ∧
     (l.rx = .length → bytes.length < 3 → goes { l with bytes := bytes }) ∧
     (l.rx = .length → 3 ≤ bytes.length →
       (1 ≤ n → n ≤ 1020 → goes { l with rx := .records, bytes := bytes }) ∧ (n = 0 ∨ 1020 < n → goes hunt)) ∧
     (l.rx = .records →
       (bytes.length < 3 + n → goes { l with bytes := bytes }) ∧ (3 + n ≤ bytes.length → goes { l with rx := .check, bytes := bytes })) ∧
     (l.rx = .check → bytes.length < 5 + n → goes { l with bytes := bytes }) ∧
     (l.rx = .check → 5 + n ≤ bytes.length →
       (l.ignored = true → goes hunt) ∧
       (crc16 (bytes.take (bytes.length - 2)) ≠
           BitVec.ofNat 16 (((bytes.drop (bytes.length - 2)).getD 0 0).toNat * 256 + ((bytes.drop (bytes.length - 2)).getD 1 0).toNat) → goes hunt))) ∧
  ((∀ (st : Station) (s : State), s.held = false →
     ∃ t, exec (.interByteGap st) s = .next t ∧
       t = s.modLink st (fun l => { l with rx := .hunt, bytes := [], ignored := false, gapOver := true }) ∧
       ∀ b, exec (.receivedByte st b) t = .next (t.modLink st (fun l =>
         if b = 0xA5 then { l with rx := .address, bytes := [], ignored := false, gapOver := false } else { l with gapOver := false }))) ∧
   (∀ (st : Station) (bytes : List Byte) (s : State), s.held = false →
     (s.completeFrame bytes = false ∨ crc16 (bytes.tail.take (bytes.tail.length - 2)) ≠
       BitVec.ofNat 16 (((bytes.drop (bytes.length - 2)).getD 0 0).toNat * 256 + ((bytes.drop (bytes.length - 2)).getD 1 0).toNat)) →
       exec (.requestFrame st bytes) s = .next (s.modLink st (fun l => { l with rx := .hunt, bytes := [], ignored := false, gapOver := false }))))

/-- A frame that passes its CRC restarts its link's silence timer at 3.0 s and makes the link ACTIVE, and the condition of BRIDGE_LINK_LOST clears where the bridge link was SILENT
(R173, R179). Then its records are handled in order, each on the state the one before it left, and their reply records are sent in that order, MORE on all but the last; a frame
that is not well formed is answered with one FRAME_ERROR record and none of its records is handled: LENGTH where a header or body runs past the stated length or a record with
MORE clear is followed by further bytes, COUNT where a ninth record begins, CHAIN where the last record has MORE set (R174). That the link
stands in HUNT afterwards with any frame under way dropped, and that FRAME_ERROR leaves the last reply record as it was, is the model's choice (assumption 7); that a body of 241 to 255 bytes is no failure of the structure is its inference (assumption 24). -/
def Obligations.RequestFrameHandlesItsRecords : Prop :=
  (∀ (st : Station) (records : List Byte) (s : State), s.held = false → 1 ≤ records.length → records.length ≤ 1020 →
    (let heard := (s.modLink st (fun l => { l with rx := .hunt, bytes := [], ignored := false, gapOver := false })).linkHeard st
     (∀ rs, splitRecords 8 records = .ok rs →
        exec (.requestFrame st (frameBytes s.address records)) s =
          .next ((handleRecords st rs heard).1.sendReply st (replyRecords (handleRecords st rs heard).2))) ∧
     (∀ e, splitRecords 8 records = .error e →
        exec (.requestFrame st (frameBytes s.address records)) s =
          .next (heard.sendReply st [0xFF, 0x00, 0x01, match e with
            | .length => 0
            | .count => 1
            | .chain => 2])))) ∧
  (∀ (st : Station) (s : State),
    let restarted := s.modLink st (fun l => { l with silence := some 30, active := true })
    (st = .stand ∨ s.sli.bridge.active = true → s.linkHeard st = restarted) ∧
    (st = .bridge → s.sli.bridge.active = false → s.aeu.AlarmsOk →
      ∃ a : Aeu, s.linkHeard st = { restarted with aeu := a, ost := { s.ost with general := a.general, sea := a.sea } } ∧
        a.Cleared .bridgeLinkLost 0 ∧ (∀ x ∈ s.aeu.alarms, x.kind ≠ .bridgeLinkLost → x ∈ a.alarms) ∧ a.events = s.aeu.events)) ∧
  (∀ (st : Station) (s : State), handleRecords st [] s = (s, []) ∧
    ∀ r rs, handleRecords st (r :: rs) s =
      ((handleRecords st rs (handleRecord st r s)).1,
        ((handleRecord st r s).link st).reply.toList ++ (handleRecords st rs (handleRecord st r s)).2)) ∧
  (let reply (more : Byte) (r : Reply) : List Byte :=
     [r.kind, more, BitVec.ofNat 8 (r.fields.length + 1), BitVec.ofNat 8 (resultCode r.result)] ++ r.fields
   (∀ qs q, replyRecords (qs ++ [q]) = qs.flatMap (reply 0x80) ++ reply 0x00 q) ∧
   ∀ (st : Station) (bs : List Byte) (s : State), s.sendReply st bs = s.modLink st (fun l => { l with sent := frameBytes s.address bs })) ∧
  (let bytes (r : RawRecord) : List Byte := [r.kind, r.flags, BitVec.ofNat 8 r.body.length] ++ r.body
   let more (r : RawRecord) : Prop := r.flags.getLsbD 7 = true
   ∀ before : List RawRecord, (∀ r ∈ before, more r ∧ r.body.length ≤ 255) →
     (∀ r, before.length < 8 → ¬ more r → r.body.length ≤ 255 →
       splitRecords 8 (before.flatMap bytes ++ bytes r) = .ok (before ++ [r]) ∧
         ∀ rest, rest ≠ [] → splitRecords 8 (before.flatMap bytes ++ bytes r ++ rest) = .error .length) ∧
     (∀ rest, before.length < 8 → rest ≠ [] → rest.length < 3 ∨ rest.length < 3 + (rest.getD 2 0).toNat →
       splitRecords 8 (before.flatMap bytes ++ rest) = .error .length) ∧
     (∀ rest, before.length = 8 → rest ≠ [] → splitRecords 8 (before.flatMap bytes ++ rest) = .error .count) ∧
     (before ≠ [] → before.length ≤ 8 → splitRecords 8 (before.flatMap bytes) = .error .chain))

/-- In a BUSY period the kinds that act on the layout, on operations, on authority or on faults are answered BUSY, and while UNCONFIGURED every kind outside the
served set REFUSED_STATE, with no further effect; of a part that is both, as while its first layout is written, the BUSY period answers first the kinds it answers (R175, R188). A record that no kind takes is answered BAD_RECORD, of kind k + 80h, or 80h for a kind of 80h or above, and changes nothing else, hold-to-run
included (R175, R180). -/
def Obligations.RecordsRefusedBeforeTheirRule : Prop :=
  (∀ (c : Instr) (st : Station) (run : Bool) (k : Nat) (v : Service) (s : State), c.record? = some (st, run, k, v) → s.Ready →
     (v.busy = true → (s.lst.commit = .writing ∨ s.lst.phase = .checking) → exec c s = .next (s.answered st run k .busy)) ∧
     (v.bare = false → s.lst.phase = .unconfigured → s.lst.commit ≠ .writing ∨ v.busy = false → exec c s = .next (s.answered st run k .refusedState))) ∧
  (∀ (st : Station) (k : Byte) (s : State), s.held = false →
     exec (.badRecord st k) s = .next (s.setReply st (if k.toNat < 128 then BitVec.ofNat 8 (k.toNat + 128) else 0x80) .badRecord []))

/-! ### Authority, hold-to-run, mode, consent, vessel data -/

/-- CLAIM_CONTROL: its answers in the order of R177, and what a change of holder does (R178): the new holder, hold-to-run stopped (R180), event
AUTHORITY_CHANGED, and an edit buffer of the old holder discarded (R184). -/
def Obligations.ClaimControlAnswers : Prop :=
  ∀ (st : Station) (run : Bool) (tag : Word32) (s : State), s.Ready → s.busyPeriod = false →
    (tag ≠ s.lst.tag → exec (.claimControl st run tag) s = .next (s.answered st run 0x02 .wrongLayout)) ∧
    (tag = s.lst.tag →
      (s.amu.holder = holderOf st → exec (.claimControl st run tag) s = .next (s.answered st run 0x02 .ok)) ∧
      (s.amu.holder = .none →
        exec (.claimControl st run tag) s = .next
          (({ s with amu := { s.amu with holder := holderOf st, runTimer := none } }.event
            (.authorityChanged (holderOf st) .none)).setReply st 0x82 .ok [])) ∧
      (st = .stand → s.amu.holder = .bridge →
        (s.contextLive = true ∨ s.jogActive = true → exec (.claimControl st run tag) s = .next (s.answered st run 0x02 .refusedState)) ∧
        (s.contextLive = false → s.jogActive = false →
          exec (.claimControl st run tag) s = .next
            (({ s with
                amu := { s.amu with holder := .stand, runTimer := none },
                lst := { s.lst with buffer := s.lst.buffer.filter (fun b => b.owner != Station.bridge) } }.event
              (.authorityChanged .stand .bridge)).setReply .stand 0x82 .ok []))) ∧
      (st = .bridge → s.amu.holder = .stand → exec (.claimControl st run tag) s = .next (s.answered st run 0x02 .refusedAuthority)))

/-- RELEASE_CONTROL from the holder makes authority NONE, holds a RUNNING operation with AUTHORITY_LOST, cancels a jog that the station started and discards
the edit buffer it opened; from any other station it is answered REFUSED_AUTHORITY (R130, R141, R178, R184). That an ended jog's record holds no granted flow and no remaining
time is the model's choice (assumption 28). -/
def Obligations.ReleaseControlGivesUpAuthority : Prop :=
  ∀ (st : Station) (run : Bool) (s : State), s.Ready →
    (s.amu.holder ≠ holderOf st → exec (.releaseControl st run) s = .next (s.answered st run 0x03 .refusedAuthority)) ∧
    (s.amu.holder = holderOf st →
      ∃ e : State, exec (.releaseControl st run) s = .next (e.acceptedAs st 0x03) ∧
        (finish e).amu = { s.amu with holder := .none, runTimer := none } ∧
        (finish e).lst = { s.lst with buffer := s.lst.buffer.filter (fun b => b.owner != st) } ∧
        (s.contextLive = false → s.jogActive = false → e.osq = s.osq ∧ e.aeu.newest = some (.authorityChanged .none (holderOf st))) ∧
        (∀ x, s.osq.context = some x → x.state = .running → x.causes = [] →
          ∃ y, e.osq.context = some y ∧ y.state = .holding ∧ y.causes = [{ kind := .authorityLost, subject := .station st }] ∧
            (∀ n ∈ y.inFlight, n.state ≠ .active)) ∧
        (∀ j, s.osq.jog = some j → j.phase ≠ .ended → j.station = st →
          e.osq.jog = some { j with phase := .ended, granted := none, timer := none, cause := some .authorityLost }))

/-- HOLD_TO_RUN is answered OK from the holder and REFUSED_AUTHORITY from any other station; as with every record, RUN from the holder restarts the timer at
0.4 s and nothing else touches it (R180). HOLD_TO_RUN_EXPIRY: the timer stops, a context with a DRIVING axis move is given RUN_RELEASED, and an active jog ends with RUN_RELEASED; with the timer stopped nothing
changes (R130, R141, R180). That an expiry is taken whatever time is left, and that an ended jog's record holds no granted flow and no remaining time, are the model's choices
(assumptions 1, 28). -/
def Obligations.HoldToRunRestartsAndLapses : Prop :=
  (∀ (st : Station) (run : Bool) (s : State), s.Ready → s.lst.phase ≠ .unconfigured →
     (s.amu.holder = holderOf st →
       exec (.holdToRun st run) s = .next
         ({ s with amu := { s.amu with runTimer := if run then some 4 else s.amu.runTimer } }.setReply st 0x84 .ok [])) ∧
     (s.amu.holder ≠ holderOf st → exec (.holdToRun st run) s = .next (s.setReply st 0x84 .refusedAuthority []))) ∧
  (∀ s : State, s.Ready →
     (s.amu.runTimer = none → exec .holdToRunExpiry s = .next s) ∧
     (s.amu.runTimer ≠ none →
       ∃ e : State, exec .holdToRunExpiry s = .next (finish e) ∧
         (finish e).fixed = { s.fixed with amu := { s.amu with runTimer := none } } ∧
         (s.travelDriving = false → e.osq.context = s.osq.context) ∧
         (s.travelDriving = true → ∀ x, s.osq.context = some x →
           ∃ y, e.osq.context = some y ∧ x.GivenCause { kind := .runReleased, subject := .holder s.amu.holder } y) ∧
         e.osq.jog = s.osq.jog.map (Jog.ended .runReleased) ∧
         (∀ j, s.osq.jog = some j → j.phase ≠ .ended → e.NothingHeldBy Config.jogMotion)))

/-- SET_MODE: its answers in the order of R157; an accepted change sets the mode, takes consent away, records MODE_CHANGED, makes c3 and c7 follow, and discards an edit
buffer that the new mode does not admit (R38, R47, R158, R184). On entry to SEA the POINT_FAULT alarm of every faulted point is raised in ascending index, after MODE_CHANGED, unless
the alarm list is full (R162); the closure-loss marks are absent outside SEA (R160), which that clause takes as its premise. On leaving SEA the condition of every CLOSURE_LOST and
LOCK_MOVED_AT_SEA entry has cleared, and POINT_FAULT entries are left (R158, R162). CONSENT: its answers in the order of R46; an accepted argument becomes the consent, and c3 follows it (R37, R38,
R46). That consent is on in HARBOUR alone is R46 and R47, and every step keeps it (StepKeepsAuthorityConsistent). -/
def Obligations.ModeAndConsentAnswers : Prop :=
  (∀ (run : Bool) (code : Nat) (s : State), s.Serving →
    (∀ n, exec (.setMode .stand run n) s = .next (s.answered .stand run 0x05 .refusedStation)) ∧
    (3 ≤ code → exec (.setMode .bridge run code) s = .next (s.answered .bridge run 0x05 .badValue)) ∧
    (∀ m, modeOf code = some m →
      let admitted := match m with
        | .sea => s.amu.mode = .harbour ∧ s.contextLive = false ∧ s.cev.closure.overall = .secured
        | .maintenance => s.amu.mode = .harbour ∧ s.contextLive = false
        | .harbour => s.contextLive = false ∧ s.jogActive = false
      (m = s.amu.mode → exec (.setMode .bridge run code) s = .next (s.answered .bridge run 0x05 .ok)) ∧
      (m ≠ s.amu.mode → ¬ admitted →
        exec (.setMode .bridge run code) s = .next (s.answered .bridge run 0x05 (if m = .harbour then .busy else .refusedState))) ∧
      (m ≠ s.amu.mode → admitted →
        ∃ e : State, exec (.setMode .bridge run code) s = .next (e.acceptedAs .bridge 0x05) ∧
          (finish e).amu = { (s.takeRun .bridge run).amu with mode := m, consent := false } ∧
          (finish e).lst = { s.lst with buffer := s.lst.buffer.filter (fun b => regionAdmitted b.region m) } ∧
          (finish e).isc = s.isc ∧ e.osq = s.osq ∧ e.hpa = s.hpa ∧ e.ldu = s.ldu ∧ e.adu = s.adu ∧ e.pmn = s.pmn ∧
          (s.cev.started = true → s.cev.conds.length = 32 → e.cond 3 = .no ∧ e.cond 7 = if m = .harbour then .yes else .no) ∧
          e.aeu.sea = (e.aeu.demanding && (m == .sea && e.cev.closure.overall != .secured)) ∧
          (∃ r ∈ e.aeu.events, r.event = .modeChanged m s.amu.mode) ∧
          (∃ before after : List Event,
            e.aeu.events = newestRecords (s.aeu.events ++ s.aeu.dated (before ++ [.modeChanged m s.amu.mode] ++ after)) ∧
              (∀ p d, Event.alarmRaised .pointFault p d ∉ before) ∧
              (let raised := after.filterMap (fun v => match v with
                 | .alarmRaised .pointFault p _ => some p
                 | _ => none)
               raised.Pairwise (fun a b => a < b) ∧ ∀ p ∈ raised, m = .sea ∧ p < 48 ∧ s.faultOf p ≠ none)) ∧
          (m = .sea → s.aeu.lostVisor = false → s.aeu.lostInner = false → ∀ p < 48, s.faultOf p ≠ none →
            (∃ x ∈ e.aeu.alarms, x.kind = .pointFault ∧ x.subject = p ∧ x.state ≠ .unackCleared) ∨ 32 ≤ e.aeu.alarms.length) ∧
          (s.amu.mode = .sea → s.aeu.AlarmsOk →
            (∀ x ∈ e.aeu.alarms, x.kind = .closureLost ∨ x.kind = .lockMovedAtSea → x.state = .unackCleared) ∧
              ∀ x ∈ s.aeu.alarms, x.kind = .pointFault → x ∈ e.aeu.alarms)))) ∧
  (∀ (run on : Bool) (s : State), s.Ready → s.lst.phase ≠ .unconfigured → (s.amu.consent = true → s.amu.mode = .harbour) →
    (s.lst.phase = .checking → s.lst.active = none →
      ∀ st, exec (.consent st run on) s = .next (s.answered st run 0x06 .refusedState)) ∧
    (s.lst.phase ≠ .checking ∨ s.lst.active ≠ none →
      exec (.consent .stand run on) s = .next (s.answered .stand run 0x06 .refusedStation) ∧
      (on = true → s.amu.mode ≠ .harbour → exec (.consent .bridge run on) s = .next (s.answered .bridge run 0x06 .refusedMode)) ∧
      (on = false ∨ s.amu.mode = .harbour →
        (s.amu.consent = on → exec (.consent .bridge run on) s = .next (s.answered .bridge run 0x06 .ok)) ∧
        (s.amu.consent ≠ on →
          ∃ e : State, exec (.consent .bridge run on) s = .next (e.acceptedAs .bridge 0x06) ∧
            (finish e).amu = { (s.takeRun .bridge run).amu with consent := on } ∧
            (s.cev.started = true → s.cev.conds.length = 32 → e.cond 3 = if on then .yes else .no) ∧
            (∀ i, i ≠ 3 → e.cond i = s.cond i) ∧ e.aeu.events = s.aeu.events ∧ (finish e).lst = s.lst ∧
            e.osq = s.osq ∧ e.hpa = s.hpa ∧ e.ldu = s.ldu ∧ e.adu = s.adu ∧ e.pmn = s.pmn))))

/-- VESSEL_STATE from the bridge: heel and pitch are clamped to [-900, 900] and wind to [0, 999], stored and reported back; freshness is FRESH, the staleness timer
restarts at 5.0 s, and c1 and c2 are derived anew with their hysteresis, and the condition of VESSEL_DATA_LOST clears where the data were STALE; the stand is refused
(R42, R44, R45). -/
def Obligations.VesselStateStoresTheData : Prop :=
  ∀ (run : Bool) (heel pitch wind : Int) (s : State), s.Ready → s.lst.phase ≠ .unconfigured →
    (s.lst.phase = .checking → s.lst.active = none →
      ∀ st, exec (.vesselState st run heel pitch wind) s = .next (s.answered st run 0x07 .refusedState)) ∧
    (s.lst.phase ≠ .checking ∨ s.lst.active ≠ none →
      exec (.vesselState .stand run heel pitch wind) s = .next (s.answered .stand run 0x07 .refusedStation) ∧
      (let v : Vessel := { heel := max (-900) (min 900 heel), pitch := max (-900) (min 900 pitch), wind := (max 0 (min 999 wind)).toNat }
       ∃ e : State, exec (.vesselState .bridge run heel pitch wind) s = .next (e.acceptedAs .bridge 0x07 (bInt v.heel ++ bInt v.pitch ++ b2 v.wind)) ∧
        (finish e).cev.vessel = some v ∧ (finish e).cev.freshness = .fresh ∧ (finish e).cev.staleness = some 50 ∧
        (s.cev.started = true → s.cev.conds.length = 32 →
          e.cond 1 =
            (if s.tune.heelLimit < v.heel.natAbs ∨ s.tune.pitchLimit < v.pitch.natAbs then .no
            else if v.heel.natAbs + s.tune.attitudeHyst ≤ s.tune.heelLimit ∧ v.pitch.natAbs + s.tune.attitudeHyst ≤ s.tune.pitchLimit then .yes
            else if s.cond 1 = .yes then .yes else .no) ∧
          e.cond 2 =
            (if s.tune.windLimit < v.wind then .no
            else if v.wind + s.tune.windHyst ≤ s.tune.windLimit then .yes
            else if s.cond 2 = .yes then .yes else .no)) ∧
        (s.cev.freshness = .stale → s.aeu.AlarmsOk → e.aeu.Cleared .vesselDataLost 0) ∧
        (∀ i, i ≠ 1 → i ≠ 2 → e.cond i = s.cond i) ∧
        (finish e).amu = (s.takeRun .bridge run).amu ∧ (finish e).lst = s.lst ∧ (finish e).isc = s.isc ∧
        e.osq = s.osq ∧ e.hpa = s.hpa ∧ e.ldu = s.ldu ∧ e.adu = s.adu ∧ e.pmn = s.pmn))

/-! ### Operations -/

/-- START_OPERATION: its refusals in the order of R113; an accepted one replaces any terminal context by a RUNNING one at the start of the operation's list,
records OPERATION_STARTED and makes an issue attempt (R114). -/
def Obligations.StartOperationCreatesTheContext : Prop :=
  ∀ (st : Station) (run : Bool) (op : Nat) (s : State), s.Serving →
    (tget s.layout.operations op = none → exec (.startOperation st run op) s = .next (s.answered st run 0x10 .notFound)) ∧
    (∀ d, tget s.layout.operations op = some d →
      (s.amu.holder ≠ holderOf st → exec (.startOperation st run op) s = .next (s.answered st run 0x10 .refusedAuthority)) ∧
      (s.amu.holder = holderOf st →
        (s.amu.mode ∉ d.modes → exec (.startOperation st run op) s = .next (s.answered st run 0x10 .refusedMode)) ∧
        (s.amu.mode ∈ d.modes → s.contextLive = true ∨ s.jogActive = true →
          exec (.startOperation st run op) s = .next (s.answered st run 0x10 .busy)) ∧
        (s.amu.mode ∈ d.modes → s.contextLive = false → s.jogActive = false →
          exec (.startOperation st run op) s = .next
            ((emit .issue (((s.takeRun st run).modOsq (fun q =>
              { q with
                context := some
                  { op := op, name := d.name, origin := st, state := .running, reversed := none, stack := [],
                    pointer := { list := d.list, index := 0 }, inFlight := [], causes := [], start := s.aeu.stamp } })).event
              (.operationStarted op st))).acceptedAs st 0x10))))

/-- STOP is always answered OK: it cancels an active jog, adds STOP_REQUEST to a RUNNING or HOLDING context, which then holds with no ACTIVE entry, and
keeps the first station where the cause stands already (R127, R128, R129, R141). Each in-flight motion of an operation that ran is halted by its unit: HALTED with cause HOLD, its
coils off or its outputs 0, its timers stopped, its grant or request given up and its reservation kept (R84, R101, R128). The cancelled jog's outputs go off, and its flow and its reservation
are given up (R141); that its record holds no granted flow and no remaining time is the model's choice (assumption 28). -/
def Obligations.StopHoldsAndCancels : Prop :=
  ∀ (st : Station) (run : Bool) (s : State), s.Ready → s.lst.phase ≠ .unconfigured →
    (s.contextLive = false → s.jogActive = false → exec (.stop st run) s = .next (s.answered st run 0x11 .ok)) ∧
    ∃ e : State, exec (.stop st run) s = .next (e.acceptedAs st 0x11) ∧ (finish e).fixed = (s.takeRun st run).fixed ∧
      (∀ j, s.osq.jog = some j → j.phase ≠ .ended →
        e.osq.jog = some { j with phase := .ended, granted := none, timer := none, cause := some .stopped } ∧ s.JogReleased e j) ∧
      (s.jogActive = false → e.osq.jog = s.osq.jog) ∧
      (∀ x, s.osq.context = some x →
        (x.state = .complete ∨ x.state = .aborted → e.osq.context = some x) ∧
        (x.state = .running → x.causes = [] →
          ∃ y, e.osq.context = some y ∧ y.state = .holding ∧ y.causes = [{ kind := .stopRequest, subject := .station st }] ∧
            y.pointer = x.pointer ∧ y.stack = x.stack ∧ y.inFlight.length = x.inFlight.length ∧ (∀ n ∈ y.inFlight, n.state ≠ .active) ∧
            ∀ n ∈ x.inFlight, n.state = .active → ∀ m, n.motion = some m → m ≠ Config.jogMotion → s.HaltedByHold e m) ∧
        (x.state = .holding → (∀ c ∈ x.causes, c.kind ≠ .stopRequest) →
          e.osq.context = some { x with causes := x.causes ++ [{ kind := .stopRequest, subject := .station st }] }) ∧
        (x.state = .holding → (∃ c ∈ x.causes, c.kind = .stopRequest) → e.osq.context = some x))

/-- RESUME: its refusals in the order of R132; an accepted one clears the causes and records RESUMED, and asks the permissives in issue order: that of a group drive unless every member
of the group stands at the target, that of an axis move in the direction it needs now unless it is satisfied (R90) or the axis has no position, none of a WAIT or PAUSE (R133). It then either holds with the first unsatisfied permissive alone or
makes the context RUNNING with every entry due for re-issue (R133). Then one due entry after another is taken, and an issue attempt follows the last. A HALTED motion is re-issued by its
unit and its entry is ACTIVE, or it completes or fails where the unit finds it ended (R84, R102, R122, R124; what the unit does is said by UnitsDriveOnTheirGrants). A HALTED WAIT
completes where its condition has the wanted value, and it or a PAUSE is ACTIVE again otherwise (R120, R121). A FAILED entry, and a HALTED one without a motion, is removed and its
step issued afresh: no entry where it is satisfied, a WAIT at its full limit, a motion under the first free id at the end of the list, an ACTIVE entry without a motion where the claim
is refused (R112, R116, R118). An unsatisfied permissive holds the operation and keeps the entry (assumption 16), and a motion failed at issue fails its step at once (assumption 27).
When points are freed the claim is offered again to the entries that wait, in issue order, before any issue attempt (R133). There are at most 6 entries (R118), and an id that no entry
holds names no group drive (R122), which these clauses take as premises. The mark of a due entry and its re-issue one after another are the model's choice (assumption 15), and which
entries are asked for a permissive is the model's reading (assumption 20). -/
def Obligations.ResumeLeadsBackToRunning : Prop :=
  (∀ (st : Station) (run : Bool) (s : State), s.Serving →
    (s.amu.holder ≠ holderOf st → exec (.resume st run) s = .next (s.answered st run 0x12 .refusedAuthority)) ∧
    (s.amu.holder = holderOf st →
      ((∀ x, s.osq.context = some x → x.state ≠ .holding) → exec (.resume st run) s = .next (s.answered st run 0x12 .refusedState)) ∧
      (∀ x, s.osq.context = some x → x.state = .holding →
        let refused := ((∃ c ∈ x.causes, c.kind = .estop) ∧ s.ost.estop = .active) ∨
          (∃ n ∈ x.inFlight, n.state = .halted ∧ ∃ m, n.motion = some m ∧ ∃ p ∈ s.pmn.points, p.2.reserved = some m ∧ p.2.fault ≠ none) ∨
          (∃ c ∈ x.causes, c.kind = .stepFailed ∧ ∃ r, c.subject = .step r ∧ ∃ z, s.stepAt r = some z ∧ ∃ p ∈ s.stepPoints z.kind, s.faultOf p ≠ none) ∨
          (run = false ∧ ((∃ n ∈ x.inFlight, isMove n.step.kind) ∨ ∃ z, s.stepAt x.pointer = some z ∧ isMove z.kind))
        (refused → exec (.resume st run) s = .next (s.answered st run 0x12 .stillHeld)) ∧
        (¬ refused →
          let asks (n : Entry) (c : Nat) : Prop := ¬ s.StepSatisfied n.step.kind ∧
            match n.step.kind with
            | .driveGroup g d => s.permissive (.group g d) = some c
            | .moveAxis i w _ => ∃ p, s.position i = some p ∧ s.permissive (.axis i (if s.targetOf i w > p then .opening else .closing)) = some c
            | .floatAxis _ => False
            | .wait _ _ _ => False
            | .pause _ => False
            | .call _ => False
          (∀ (k : Nat) (n : Entry) (c : Nat), x.inFlight[k]? = some n → asks n c →
              (∀ j < k, ∀ o, x.inFlight[j]? = some o → ∀ a, ¬ asks o a) →
            exec (.resume st run) s = .next
              (((((s.takeRun st run).event (.resumed x.op)).modCtx (fun y => { y with causes := [permissiveCause c] })).event
                (.hold (permissiveCause c))).setReply st 0x92 .ok [])) ∧
          ((∀ n ∈ x.inFlight, ∀ c, ¬ asks n c) →
            exec (.resume st run) s = .next
              ((emit .reissue (((s.takeRun st run).event (.resumed x.op)).modCtx (fun y =>
                { y with causes := [], state := .running, inFlight := y.inFlight.map (fun n => { n with due := true }) }))).acceptedAs st 0x12)))))) ∧
  (∀ (x : Context) (s : State), s.todo = [] → s.osq.context = some x → x.state = .running → x.causes = [] → x.inFlight.length ≤ 6 →
      (∀ m, (∀ o ∈ x.inFlight, o.motion ≠ some m) → s.ldu? m = none) →
    let withFlight (es : List Entry) : Osq := { s.osq with context := some { x with inFlight := es } }
    let drives (k : StepKind) : Prop := (∃ g d, k = .driveGroup g d) ∨ ∃ i w l, k = .moveAxis i w l
    let placed (k : StepKind) : Prop := ∀ i w l, k = .moveAxis i w l → s.layout.axis? i ≠ none
    (let t := runTask .reissue s
     ((∀ n ∈ x.inFlight, n.due = false) → t = emit .issue s) ∧
     (∀ (k : Nat) (n : Entry), x.inFlight[k]? = some n → n.due = true → (∀ j < k, ∀ o, x.inFlight[j]? = some o → o.due = false) →
       let others := x.inFlight.eraseIdx k
       let kept (st : EntryState) : List Entry := x.inFlight.set k { n with state := st, due := false }
       let fresh (motion remaining : Option Nat) : Entry :=
         { ref := n.ref, step := n.step, motion := motion, state := .active, remaining := remaining, cause := none, due := false }
       (n.state = .active → t = emit .reissue { s with osq := withFlight (kept .active) }) ∧
       (∀ m, n.state = .halted → n.motion = some m → (∀ j < k, ∀ o, x.inFlight[j]? = some o → o.motion ≠ some m) →
           s.ldu? m = none ∨ s.adu? m = none →
         let v : State := { s with osq := withFlight (kept .active) }
         let w := if (s.ldu? m).isSome then v.lduReissue m else v.aduReissue m
         let ended (st : MotionState) (c : Option FailCause) : Prop :=
           (∃ g, w.ldu? m = some g ∧ g.state = st ∧ g.cause = c) ∨ (w.ldu? m = none ∧ ∃ a, w.adu? m = some a ∧ a.state = st ∧ a.cause = c)
         ((∀ c, ¬ ended .done c) → (∀ c, ¬ ended .failed (some c)) → t = emit .reissue w) ∧
         (∀ c, ended .done c →
           t.osq = withFlight others ∧ t.ldu? m = none ∧ t.adu? m = none ∧ t.todo = w.todo ++ [.issue, .reissue] ∧ t.hpa = w.hpa ∧
             t.pmn = w.pmn ∧ t.ost = w.ost) ∧
         (∀ c, ended .failed (some c) →
           ∃ r, t = emit .reissue r ∧ v.StepFails r { x with inFlight := kept .active } k { n with state := .active, due := false } c)) ∧
       (n.state = .halted → n.motion = none →
         (∀ c wanted limit, n.step.kind = .wait c wanted limit →
           t = emit .reissue { s with osq := withFlight (if s.cond c = (if wanted = true then .yes else .no) then others else kept .active) }) ∧
         (∀ time, n.step.kind = .pause time → t = emit .reissue { s with osq := withFlight (kept .active) })) ∧
       (n.state = .failed ∨ (n.state = .halted ∧ n.motion = none ∧ drives n.step.kind) →
         let still := t.hpa = s.hpa ∧ t.pmn = s.pmn ∧ t.ost = s.ost ∧ t.todo = [.reissue] ∧
           ∀ m, n.motion = some m → t.ldu? m = none ∧ t.adu? m = none
         (s.StepSatisfied n.step.kind → t.osq = withFlight others ∧ still) ∧
         (¬ s.StepSatisfied n.step.kind → ∀ c, (s.stepAsks n.step.kind).bind s.permissive = some c →
           t.todo.getLast? = some .reissue ∧
             ∃ y, t.osq.context = some y ∧
               Context.GivenCause { kind := .permissive, subject := .condition c } { x with inFlight := kept n.state } y) ∧
         (¬ s.StepSatisfied n.step.kind → (s.stepAsks n.step.kind).bind s.permissive = none →
           (∀ c wanted limit, n.step.kind = .wait c wanted limit →
             t.osq = withFlight (others ++ [fresh none (if limit = 0 then none else some limit)]) ∧ still) ∧
           (drives n.step.kind → ¬ s.ClaimFree n.step.kind → t.osq = withFlight (others ++ [fresh none none]) ∧ still) ∧
           (drives n.step.kind → s.ClaimFree n.step.kind → ∃ m, FirstFree s.osq.nextMotion others m ∧
             (s.issueCause n.step.kind = none → placed n.step.kind →
               t.osq = { withFlight (others ++ [fresh (some m) none]) with nextMotion := (m + 1) % 7 } ∧
                 s.HandedOver t m n.ref n.step.kind ∧ t.todo = [.pass, .reissue]) ∧
             (∀ c, s.issueCause n.step.kind = some c →
               ∃ r, t = emit .reissue r ∧ r.NothingHeldBy m ∧
                 s.StepFails r { x with inFlight := others ++ [fresh (some m) none] } others.length (fresh (some m) none) c)))))) ∧
    (let awaits (n : Entry) : Prop := n.state = .active ∧ n.motion = none ∧ drives n.step.kind
     runTask .freed s = runTask (.offer 0) s ∧
     ∀ j, let t := runTask (.offer j) s
       ((∀ i n, j ≤ i → x.inFlight[i]? = some n → ¬ awaits n) → t = emit .issue s) ∧
       (∀ i n, j ≤ i → x.inFlight[i]? = some n → awaits n → (∀ h o, j ≤ h → h < i → x.inFlight[h]? = some o → ¬ awaits o) →
         (s.StepSatisfied n.step.kind → t = emit (.offer i) { s with osq := withFlight (x.inFlight.eraseIdx i) }) ∧
         (¬ s.StepSatisfied n.step.kind → ∀ c, (s.stepAsks n.step.kind).bind s.permissive = some c →
           t.todo.contains .issue = false ∧
             ∃ y, t.osq.context = some y ∧ x.GivenCause { kind := .permissive, subject := .condition c } y) ∧
         (¬ s.StepSatisfied n.step.kind → (s.stepAsks n.step.kind).bind s.permissive = none →
           (¬ s.ClaimFree n.step.kind → t = emit (.offer (i + 1)) s) ∧
           (s.ClaimFree n.step.kind → ∃ m, FirstFree s.osq.nextMotion x.inFlight m ∧
             (s.issueCause n.step.kind = none → placed n.step.kind →
               t.osq = { withFlight (x.inFlight.set i { n with motion := some m }) with nextMotion := (m + 1) % 7 } ∧
                 s.HandedOver t m n.ref n.step.kind ∧ t.todo = [.pass, .offer (i + 1)]) ∧
             (∀ c, s.issueCause n.step.kind = some c →
               ∃ r, t = emit (.offer (i + 1)) r ∧ r.NothingHeldBy m ∧
                 s.StepFails r { x with inFlight := x.inFlight.set i { n with motion := some m } } i { n with motion := some m } c))))))

/-- REVERSE: its refusals in the order of R134; an accepted one withdraws every in-flight motion with its outputs, flow and reservation, records HOLD with STOP_REQUEST where the
context was RUNNING, OPERATION_ENDED as ABORTED and REVERSED, and puts a RUNNING context of the reverse operation in its place with the reversal flag set (R12, R86, R103, R135).
ABORT: refused without authority or without a live context; otherwise every in-flight motion is withdrawn likewise, the context becomes ABORTED with an empty in-flight list and keeps
its pointer, stack and causes, and OPERATION_ENDED is recorded as ABORTED (R135, R137). -/
def Obligations.ReverseAndAbortEndTheContext : Prop :=
  (∀ (st : Station) (run : Bool) (s : State), s.Serving →
    (s.amu.holder ≠ holderOf st → exec (.reverse st run) s = .next (s.answered st run 0x13 .refusedAuthority)) ∧
    (s.amu.holder = holderOf st →
      (s.contextLive = false → exec (.reverse st run) s = .next (s.answered st run 0x13 .refusedState)) ∧
      (∀ x, s.osq.context = some x → x.state = .running ∨ x.state = .holding →
        (s.reverseOf x = none → exec (.reverse st run) s = .next (s.answered st run 0x13 .refusedState)) ∧
        (∀ r d, s.reverseOf x = some (r, d) →
          (s.amu.mode ∉ d.modes ∨ ((∃ c ∈ x.causes, c.kind = .estop) ∧ s.ost.estop = .active) →
            exec (.reverse st run) s = .next (s.answered st run 0x13 .refusedState)) ∧
          (s.amu.mode ∈ d.modes → ¬ ((∃ c ∈ x.causes, c.kind = .estop) ∧ s.ost.estop = .active) →
            ∃ e : State, exec (.reverse st run) s = .next (e.acceptedAs st 0x13) ∧
              e.osq.context = some
                { op := r, name := d.name, origin := st, state := .running, reversed := some x.op, stack := [],
                  pointer := { list := d.list, index := 0 }, inFlight := [], causes := [], start := s.aeu.stamp } ∧
              e.osq.nextMotion = s.osq.nextMotion ∧ e.osq.jog = s.osq.jog ∧
              (x.state = .running → x.causes = [] →
                e.aeu.events = newestRecords (s.aeu.events ++ s.aeu.dated
                  [.hold { kind := .stopRequest, subject := .station st }, .operationEnded x.op false, .reversed r x.op])) ∧
              (x.state = .holding →
                e.aeu.events = newestRecords (s.aeu.events ++ s.aeu.dated [.operationEnded x.op false, .reversed r x.op])) ∧
              (finish e).fixed = (s.takeRun st run).fixed ∧ e.todo.getLast? = some .issue ∧
              (∀ n ∈ x.inFlight, ∀ m, n.motion = some m → s.Withdrawn e m)))))) ∧
  (∀ (st : Station) (run : Bool) (s : State), s.Serving →
    (s.amu.holder ≠ holderOf st → exec (.abort st run) s = .next (s.answered st run 0x14 .refusedAuthority)) ∧
    (s.amu.holder = holderOf st →
      (s.contextLive = false → exec (.abort st run) s = .next (s.answered st run 0x14 .refusedState)) ∧
      (∀ x, s.osq.context = some x → x.state = .running ∨ x.state = .holding →
        ∃ e : State, exec (.abort st run) s = .next (e.acceptedAs st 0x14) ∧
          e.osq = { s.osq with context := some { x with state := .aborted, inFlight := [] } } ∧
          e.aeu.events = newestRecords (s.aeu.events ++ s.aeu.dated [.operationEnded x.op false]) ∧
          (finish e).fixed = (s.takeRun st run).fixed ∧
          (∀ n ∈ x.inFlight, ∀ m, n.motion = some m → s.Withdrawn e m))))

/-- JOG: its refusals in the order of R138; an accepted one ends at once COMPLETED where the point already stands there, and otherwise reserves the point for motion 7
and sends HPA the request of R61, with the duration clamped to 1 to 50 tenths. -/
def Obligations.JogClaimsThePoint : Prop :=
  ∀ (st : Station) (run : Bool) (p d duration : Nat) (s : State), s.Serving →
    (tget s.layout.points p = none → exec (.jog st run p d duration) s = .next (s.answered st run 0x15 .notFound)) ∧
    (tget s.layout.points p ≠ none → 2 ≤ d → exec (.jog st run p d duration) s = .next (s.answered st run 0x15 .badValue)) ∧
    (∀ dir, jogDirOf s.layout p d = some dir →
      (s.amu.holder ≠ holderOf st → exec (.jog st run p d duration) s = .next (s.answered st run 0x15 .refusedAuthority)) ∧
      (s.amu.holder = holderOf st →
        (s.amu.mode ≠ .maintenance → exec (.jog st run p d duration) s = .next (s.answered st run 0x15 .refusedMode)) ∧
        (s.amu.mode = .maintenance →
          (run = false ∨ s.ost.estop = .active → exec (.jog st run p d duration) s = .next (s.answered st run 0x15 .refusedState)) ∧
          (run = true → s.ost.estop ≠ .active →
            (s.contextLive = true ∨ s.jogActive = true ∨ s.reservedBy p ≠ none →
              exec (.jog st run p d duration) s = .next (s.answered st run 0x15 .busy)) ∧
            (s.contextLive = false → s.jogActive = false → s.reservedBy p = none →
              (s.jogThere p dir = true →
                exec (.jog st run p d duration) s = .next
                  (((s.takeRun st run).modOsq (fun q => { q with jog := some { point := p, dir := dir, station := st, phase := .ended,
                                                                                duration := max 1 (min duration 50), timer := none,
                                                                                granted := none, cause := some .completed } })).setReply
                    st 0x95 .ok [])) ∧
              (s.jogThere p dir = false → (tget s.pmn.points p).isSome →
                ∃ e : State, exec (.jog st run p d duration) s = .next (e.acceptedAs st 0x15) ∧
                  e.osq = { s.osq with jog := some { point := p, dir := dir, station := st, phase := .waitingFlow,
                                                     duration := max 1 (min duration 50), timer := none, granted := none, cause := none } } ∧
                  e.reservedBy p = some 7 ∧ (∀ q, q ≠ p → tget e.pmn.points q = tget s.pmn.points q) ∧
                  let flow : FlowClass × Nat := match tget s.layout.points p with
                    | some (.lock d) => (.locking, d.flow)
                    | some (.axis d _) => (.travel, (d.vMin * d.qFull + 999) / 1000)
                    | none => (.locking, 0)
                  e.hpa.requests = s.hpa.requests ++ [{ motion := 7, cls := flow.1, requested := flow.2, minimum := flow.2,
                                                        stamp := s.hpa.arrival, passed := 0, wait := s.tune.flowWait }] ∧
                  e.todo = [.pass] ∧ (finish e).fixed = (s.takeRun st run).fixed ∧ e.aeu = s.aeu ∧ e.ost = s.ost ∧ e.ldu = s.ldu ∧ e.adu = s.adu))))))

/-! ### Faults cleared, outputs, emergency stop -/

/-- CLEAR_FAULT naming a point: its refusals in the order of R14; an accepted one clears the point's fault and DEGRADED flag, releases the latches of its coils, and
records FAULT_CLEARED; STUCK leaves each bank in which no output remains FAULT_STUCK, with its COIL_BANK_OFF condition, and a floating axis's record is handed to ADU
(R8, R143, R147), and the conditions that name the point follow (R37); no other point, no motion and no operation is touched; a fault whose condition is still present stays (R14, R15, R147). CLEAR_FAULT naming a pump: its refusals in the order of R59; an accepted one leaves the pump STOPPED without a run-down and without a cause, its contactor
off, PUMP_STATE recorded, the PUMP_FAULT condition cleared and c6 TRUE, and a grant pass follows; grants and requests stay while the allocation is within the capacity (R56, R59). -/
def Obligations.ClearFaultAnswers : Prop :=
  (∀ (st : Station) (run : Bool) (p : Nat) (s : State), s.Serving → s.aeu.AlarmsOk →
     (tget s.pmn.points p = none → exec (.clearFaultPoint st run p) s = .next (s.answered st run 0x16 .notFound)) ∧
     (∀ d, tget s.pmn.points p = some d →
       (s.amu.holder ≠ holderOf st → exec (.clearFaultPoint st run p) s = .next (s.answered st run 0x16 .refusedAuthority)) ∧
       (s.amu.holder = holderOf st →
         (s.amu.mode = .sea → exec (.clearFaultPoint st run p) s = .next (s.answered st run 0x16 .refusedMode)) ∧
         (s.amu.mode ≠ .sea → d.fault = none → s.degraded p = false →
           exec (.clearFaultPoint st run p) s = .next (s.answered st run 0x16 .ok)) ∧
         (s.amu.mode ≠ .sea → d.fault ≠ none ∨ s.degraded p = true →
           let still (c : FaultCode) : Prop := match c with
             | .sensorConflict => (tget s.layout.points p).isSome ∧ ∃ y, s.lock? p = some y ∧ y.confirmed = .conflict
             | .coilFault => ∃ x, tget s.layout.points p = some x ∧ ∃ o ∈ coilsOf x, ∃ k, s.ost.coils[o]? = some k ∧ k.state = .faultStuck ∧ s.bankOn (o / 8) = true
             | .channelFault => ∃ a, s.layout.axis? p = some a ∧
                 (s.channelOk a.transA.input = false ∨ ∃ b, a.transB = some b ∧ s.channelOk b.input = false)
             | .skew => ∃ a y, s.layout.axis? p = some a ∧ s.axis? p = some y ∧ ∀ k, y.skew = some k → a.skewLimit < k.natAbs
             | .overtravel => ∃ a, s.layout.axis? p = some a ∧ ∃ u ∈ s.unclampedAll a, u < -50 ∨ u > a.travel + 50
             | .travelTimeout => False
             | .stall => False
             | .inposFailed => False
           let stays := (∃ c, d.fault = some c ∧ still c) ∨
             (s.degraded p = true ∧ ∀ a, s.layout.axis? p = some a → s.allChannelsOk a = false)
           (stays → exec (.clearFaultPoint st run p) s = .next (s.answered st run 0x16 .refusedState)) ∧
           (¬ stays →
             ∃ e : State, exec (.clearFaultPoint st run p) s = .next (e.acceptedAs st 0x16) ∧
               e.faultOf p = none ∧ e.degraded p = false ∧ (∀ q, q ≠ p → tget e.pmn.points q = tget s.pmn.points q) ∧
               (∀ t, tget s.layout.points p = some t →
                 (∀ o ∈ coilsOf t, ∀ c, e.ost.coils[o]? = some c → c.state.latched = false) ∧
                 (∀ o ∈ propsOf t, ∀ c, e.ost.props[o]? = some c → c.state = .active)) ∧
               e.aeu.newest = some (.faultCleared p) ∧ e.aeu.Cleared .pointFault p ∧
               (s.degraded p = true → e.aeu.Cleared .transducerLost p) ∧
               (∀ b < 6, ∀ k, s.ost.banks[b]? = some k →
                 let stuckStill := ∃ i c, i / 8 = b ∧ e.ost.coils[i]? = some c ∧ c.state = .faultStuck
                 (stuckStill → e.ost.banks[b]? = some k) ∧
                   (¬ stuckStill → e.ost.banks[b]? = some { k with stuck := false } ∧ (k.stuck = true → e.aeu.Cleared .coilBankOff b))) ∧
               (s.floats p = true → Task.floatRecord p ∈ e.todo) ∧ s.CevFollows e p ∧
               e.hpa = s.hpa ∧ e.ldu = s.ldu ∧ e.adu = s.adu ∧ e.osq = s.osq ∧
               (finish e).fixed = { (s.takeRun st run).fixed with banks := e.ost.banks }))))) ∧
  (∀ (st : Station) (run : Bool) (p : Nat) (s : State), s.Serving →
     (tget s.hpa.pumps p = none → exec (.clearFaultPump st run p) s = .next (s.answered st run 0x16 .notFound)) ∧
     (∀ q, tget s.hpa.pumps p = some q →
       (s.amu.holder ≠ holderOf st → exec (.clearFaultPump st run p) s = .next (s.answered st run 0x16 .refusedAuthority)) ∧
       (s.amu.holder = holderOf st →
         (q.state ≠ .faulted → exec (.clearFaultPump st run p) s = .next (s.answered st run 0x16 .ok)) ∧
         (q.state = .faulted → q.feedback = true → exec (.clearFaultPump st run p) s = .next (s.answered st run 0x16 .refusedState)) ∧
         (q.state = .faulted → q.feedback = false →
           ∃ e : State, exec (.clearFaultPump st run p) s = .next (e.acceptedAs st 0x16) ∧
             tget e.hpa.pumps p = some { q with state := .stopped, cause := none, start := none, runDown := none } ∧
             (∀ i, i ≠ p → tget e.hpa.pumps i = tget s.hpa.pumps i) ∧
             (tsorted s.hpa.pumps = true → s.hpa.Within → e.hpa.requests = s.hpa.requests ∧ e.hpa.grants = s.hpa.grants) ∧
             e.contactorOn p = false ∧ (∃ r ∈ e.aeu.events, r.event = .pumpState p .stopped none) ∧
             (s.aeu.AlarmsOk → e.aeu.Cleared .pumpFault p) ∧
             (s.cev.started = true → s.cev.conds.length = 32 → e.cond 6 = .yes) ∧ e.todo.getLast? = some .pass ∧
             (finish e).fixed = (s.takeRun st run).fixed ∧
             e.pmn = s.pmn ∧ e.ldu = s.ldu ∧ e.adu = s.adu ∧ e.osq = s.osq))))

/-- RESET_ESTOP: its refusals in the order of R152; an accepted one makes the emergency stop CLEAR, clears the latch and the discrepancy timer, removes ESTOP from banks 0
to 4, has HPA run a grant pass, makes c0 TRUE, clears both alarm conditions and records the event; it resumes nothing (R152). Before the first report the state is neither
CLEAR nor ACTIVE, and the checks for any state but CLEAR apply, which is the model's choice (assumption 25). -/
def Obligations.ResetEstopAnswers : Prop :=
  ∀ (st : Station) (run : Bool) (s : State), s.Serving → s.aeu.AlarmsOk →
    (s.amu.holder ≠ .none → s.amu.holder ≠ holderOf st → exec (.resetEstop st run) s = .next (s.answered st run 0x17 .refusedAuthority)) ∧
    (s.amu.holder = .none ∨ s.amu.holder = holderOf st →
      (s.ost.estop = .clear → exec (.resetEstop st run) s = .next (s.answered st run 0x17 .ok)) ∧
      (s.ost.estop ≠ .clear →
        (s.ost.openA = true ∨ s.ost.openB = true → exec (.resetEstop st run) s = .next (s.answered st run 0x17 .refusedState)) ∧
        (s.ost.openA = false → s.ost.openB = false →
          ∃ e : State, exec (.resetEstop st run) s = .next (e.acceptedAs st 0x17) ∧
            (∀ b, e.ost.banks[b]? = s.ost.banks[b]?.map (fun k => if b < 5 then { k with estop := false } else k)) ∧
            e.ost.props = s.ost.props ∧ e.ost.contactors = s.ost.contactors ∧
            e.ost.coils.map (fun c => (c.owner, c.demand)) = s.ost.coils.map (fun c => (c.owner, c.demand)) ∧
            e.todo.head? = some .pass ∧ (s.cev.started = true → s.cev.conds.length = 32 → e.cond 0 = .yes) ∧
            e.aeu.Cleared .estopActive 0 ∧ (s.ost.latch = true → e.aeu.Cleared .estopDiscrepancy 0) ∧
            e.aeu.newest = some (.estop .clear) ∧
            e.pmn = s.pmn ∧ e.hpa = s.hpa ∧ e.ldu = s.ldu ∧ e.adu = s.adu ∧ e.osq = s.osq ∧
            (finish e).fixed =
              { (s.takeRun st run).fixed with estop := .clear, latch := false, discrepancy := none, banks := e.ost.banks })))

/-- A channel of the loop that opens in CLEAR stops the part; in every other case a channel's change changes only the readings and the discrepancy timer. The first
report after a reset stops the part where a channel is open, and otherwise makes the state CLEAR with a grant pass and c0 (R150, R151, R153); that a closed first report
records no event, and what a channel change before the first report does, is the model's reading and choice (assumptions 18, 25). DISCREPANCY_TIMER_EXPIRY stops the timer, sets the latch, raises ESTOP_DISCREPANCY and records the event; with the timer stopped it changes nothing (R151). The model's choices are that an expiry is taken
whatever time is left, that an ended jog's record holds no granted flow and no remaining time, and that a second expiry raises again (assumptions 1, 28, 37). -/
def Obligations.EmergencyStopAndDiscrepancy : Prop :=
  (∀ s : State, s.Ready → s.ost.OutputsOk →
     (∀ second opened : Bool,
       let a := if second then s.ost.openA else opened
       let b := if second then opened else s.ost.openB
       (opened = true → s.ost.estop = .clear →
         ∃ e : State, exec (.estopChannelChange second opened) s = .next (finish e) ∧ s.StopsAt e a b) ∧
       (opened = false ∨ s.ost.estop ≠ .clear →
         exec (.estopChannelChange second opened) s = .next
           { s with
             ost :=
               { s.ost with
                 openA := a
                 openB := b
                 discrepancy := if a = b then none else if s.ost.openA = s.ost.openB then some 2 else s.ost.discrepancy } })) ∧
     (∀ a b : Bool,
       (s.ost.estop ≠ .undecided → exec (.estopFirstReport a b) s = .next s) ∧
       (s.ost.estop = .undecided →
         (a = true ∨ b = true → ∃ e : State, exec (.estopFirstReport a b) s = .next (finish e) ∧ s.StopsAt e a b) ∧
         (a = false → b = false →
           ∃ e : State, exec (.estopFirstReport a b) s = .next (finish e) ∧ e.todo.head? = some .pass ∧
             (s.cev.started = true → s.cev.conds.length = 32 → e.cond 0 = .yes) ∧
             e.pmn = s.pmn ∧ e.hpa = s.hpa ∧ e.ldu = s.ldu ∧ e.adu = s.adu ∧ e.osq = s.osq ∧ e.ost.coils = s.ost.coils ∧
             e.ost.props = s.ost.props ∧ e.ost.contactors = s.ost.contactors ∧
             (finish e).fixed = { s.fixed with estop := .clear, openA := false, openB := false, discrepancy := none })))) ∧
  (∀ s : State, s.Ready →
     (s.ost.discrepancy = none → exec .discrepancyTimerExpiry s = .next s) ∧
     (s.ost.discrepancy ≠ none →
       ∃ t : State, exec .discrepancyTimerExpiry s = .next t ∧
         t = { s with aeu := t.aeu, ost := { s.ost with discrepancy := none, latch := true, general := t.ost.general, sea := t.ost.sea } } ∧
         t.aeu.Raised .estopDiscrepancy 0 ∧ t.aeu.newest = some (.estop .discrepancy) ∧ t.aeu.stamp = s.aeu.stamp))

/-- COIL_FAULT_OPEN and COIL_FAULT_SHORT on an ON output of an ON bank latch it and report COIL_FAULT for its owner; any other output is not compared, and nothing
changes (R13, R142, R144). PROP_FAULT_OPEN, at a command of at least 50, and PROP_FAULT_SHORT on an ACTIVE output latch it with command 0 and report COIL_FAULT for the axis that owns it, if any; in
every other case nothing changes (R13, R148). At a newly recorded fault the conditions that name the point follow (R37), and at sea it raises POINT_FAULT (R162). -/
def Obligations.OutputFaultsLatch : Prop :=
  (∀ (c : Instr) (f : CoilState) (out : Nat) (s : State), s.Ready →
     (c = .coilFaultOpen out ∧ f = .faultOpen ∨ c = .coilFaultShort out ∧ f = .faultShort) →
     (s.supervised out .on = none → exec c s = .next s) ∧
     (∀ p, s.supervised out .on = some p →
       ∃ e : State, exec c s = .next (finish e) ∧
         e.ost.coils = s.ost.coils.modify out (fun k => { k with state := f }) ∧
         ((tget s.pmn.points p).isSome → s.FaultRecorded e p .coilFault) ∧
         e.ost.props = s.ost.props ∧ e.ost.contactors = s.ost.contactors ∧ (finish e).fixed = s.fixed ∧
         e.hpa = s.hpa ∧ e.ldu = s.ldu ∧ e.adu = s.adu ∧ e.osq = s.osq)) ∧
  (∀ (c : Instr) (f : PropState) (out : Nat) (s : State), s.Ready →
     (c = .propFaultOpen out ∧ f = .faultOpen ∨ c = .propFaultShort out ∧ f = .faultShort) →
     ((∀ q, s.ost.props[out]? = some q → q.state = .active → f = .faultOpen ∧ q.command < 50) → exec c s = .next s) ∧
     (∀ q, s.ost.props[out]? = some q → q.state = .active → f = .faultShort ∨ 50 ≤ q.command →
       ∃ e : State, exec c s = .next (finish e) ∧
         e.ost.props = s.ost.props.modify out (fun k => { k with state := f, command := 0 }) ∧
         (∀ a, q.owner = some a → (tget s.pmn.points a).isSome → s.FaultRecorded e a .coilFault) ∧ (q.owner = none → e.aeu = s.aeu ∧ e.pmn = s.pmn) ∧
         e.ost.coils = s.ost.coils ∧ e.ost.contactors = s.ost.contactors ∧ (finish e).fixed = s.fixed ∧
         e.hpa = s.hpa ∧ e.ldu = s.ldu ∧ e.adu = s.adu ∧ e.osq = s.osq))

/-- COIL_FAULT_STUCK and a dark pulse that still shows more than 40 mA put their outputs into FAULT_STUCK and take the banks OFF; a dark pulse that shows no more, or
on an output that is not ON in an ON bank, changes nothing (R144, R145, R146). A bank that goes OFF for STUCK raises COIL_BANK_OFF and has every point that owns an output of it
reported (R143), and the conditions that name a newly faulted point follow (R37). Each newly recorded fault is one event POINT_FAULT (R13), and at sea it raises POINT_FAULT (R162); the alarm clauses take as premise that the pair stands nowhere acknowledged, as R165 has it while the condition is absent. The units take the reports handed over one
after another before anything that one of them gives rise to, so that each affected motion fails before an outcome reaches OSQ (R146; assumption 2). -/
def Obligations.StuckOutputTakesItsBankOff : Prop :=
  ∀ s : State, s.Ready →
    (∀ outs : List Nat, ∃ e : State, exec (.coilFaultStuck outs) s = .next (finish e) ∧
      s.StuckAt e (outs.filterMap (fun o => (s.supervised o .off).map (fun p => (o, p))))) ∧
    (∀ (out current : Nat),
      (∀ p, s.supervised out .on = some p → 40 < current →
        ∃ e : State, exec (.darkPulse out current) s = .next (finish e) ∧ s.StuckAt e [(out, p)]) ∧
      (s.supervised out .on = none ∨ current ≤ 40 → exec (.darkPulse out current) s = .next s)) ∧
    (∀ (n : Nat) (record : Task) (records rest : List Task), record.ofRecord = true → (∀ t ∈ records, t.ofRecord = true) →
      ∃ later, settle (n + 1) (record :: (records ++ rest)) s = settle n (records ++ later) { runTask record s with todo := [] } ∧
        later.Perm ((runTask record s).todo ++ rest))

/-! ### Sensing -/

/-- DISCRETE_SAMPLE: every assigned input moves as R19 and R20 say by its raw level and the sample count of its class, which is the debounce time divided by 5 and
rounded up; a lock of which a sensor is handed over, changed or rescanned at the level it held, takes its state from its two debounced sensors, with the conflict timer of R26; the conditions that name it follow, and c4 and c5 follow DECK_CLEAR and LINKSPAN_READY (R37, R38); nothing
else of ISC's inputs changes, and a pump's changed running feedback is reported to HPA (R18, R19, R20, R25). With the first completed scan every axis is derived, and CEV starts with all
its conditions computed (R17, R24, R53). DEBOUNCED_VALUE_CHANGE: an assigned input whose change this sample completes, or that is to be rescanned, takes the level given first for it; every other input is
left, and locks, axes and conditions follow likewise (R19, R20; how this command's operands stand to DISCRETE_SAMPLE's is the model's choice, assumption 6). That a layout without analog inputs has its first completed scan with its first discrete sample is the model's inference (assumption 13). -/
def Obligations.DiscreteInputsDebounce : Prop :=
  (∀ (on : List DiscreteInput) (s : State), s.Ready →
     ∃ e : State, exec (.discreteSample on) s = .next (finish e) ∧
       (let moved (n : Nat) (raw : Bool) (d d' : Discrete) : Prop :=
         d' =
           if d.rescan then { d with debounced := raw, count := 0, rescan := false }
           else if raw = d.debounced then { d with count := 0 }
           else if d.count + 1 < n then { d with count := d.count + 1 }
           else { d with debounced := raw, count := 0 }
        (∀ i, match tget s.isc.field i with
         | none => tget (finish e).isc.field i = none
         | some d => ∃ d', tget (finish e).isc.field i = some d' ∧
             moved (match d.cls with
               | .sensor => (s.tune.debSensor + 4) / 5
               | .general => (s.tune.debGeneral + 4) / 5
               | .feedback => (s.tune.debFeedback + 4) / 5) (on.contains (.field i)) d d') ∧
        (∀ i d, tget s.isc.feedback i = some d → d.cls = .feedback → ∃ d', tget (finish e).isc.feedback i = some d' ∧
           moved ((s.tune.debFeedback + 4) / 5) (on.contains (.feedback i)) d d') ∧
        (∀ i d, tget s.isc.feedback i = some d → d.cls = .feedback →
           d.rescan = true ∨ (on.contains (.feedback i) ≠ d.debounced ∧ (s.tune.debFeedback + 4) / 5 ≤ d.count + 1) →
             Task.feedback i (on.contains (.feedback i)) ∈ e.todo) ∧
        (∀ i, tget s.isc.feedback i = none → tget (finish e).isc.feedback i = none)) ∧
       s.LocksFollow e ∧ s.ScansFirst e ∧
       (finish e).isc.analog = s.isc.analog ∧ (finish e).amu = s.amu ∧ (finish e).lst = s.lst ∧ (finish e).sli = s.sli ∧
       e.osq = s.osq ∧ e.hpa = s.hpa ∧ e.ldu = s.ldu ∧ e.adu = s.adu ∧ e.ost.coils = s.ost.coils ∧ e.ost.props = s.ost.props) ∧
  (∀ (changes : List (DiscreteInput × Bool)) (s : State), s.Ready →
     ∃ e : State, exec (.debouncedValueChange changes) s = .next (finish e) ∧
       (∀ i d, tget s.isc.field i = some d →
         (∀ r, changes.find? (fun c => c.1 == .field i) = some (.field i, r) →
           d.rescan = true ∨ (r ≠ d.debounced ∧ sampleCount s.tune d.cls ≤ d.count + 1) →
             tget (finish e).isc.field i = some { d with debounced := r, count := 0, rescan := false }) ∧
         ((∀ r, changes.find? (fun c => c.1 == .field i) = some (.field i, r) →
             d.rescan = false ∧ (r = d.debounced ∨ d.count + 1 < sampleCount s.tune d.cls)) →
           tget (finish e).isc.field i = some d)) ∧
       (∀ i d, tget s.isc.feedback i = some d →
         (∀ r, changes.find? (fun c => c.1 == .feedback i) = some (.feedback i, r) →
           d.rescan = true ∨ (r ≠ d.debounced ∧ sampleCount s.tune d.cls ≤ d.count + 1) →
             tget (finish e).isc.feedback i = some { d with debounced := r, count := 0, rescan := false } ∧
             Task.feedback i r ∈ e.todo) ∧
         ((∀ r, changes.find? (fun c => c.1 == .feedback i) = some (.feedback i, r) →
             d.rescan = false ∧ (r = d.debounced ∨ d.count + 1 < sampleCount s.tune d.cls)) →
           tget (finish e).isc.feedback i = some d)) ∧
       (∀ i, tget s.isc.field i = none → tget (finish e).isc.field i = none) ∧
       (∀ i, tget s.isc.feedback i = none → tget (finish e).isc.feedback i = none) ∧ s.LocksFollow e ∧ s.ScansFirst e ∧
       (finish e).isc.analog = s.isc.analog ∧ (finish e).amu = s.amu ∧ (finish e).lst = s.lst ∧ (finish e).sli = s.sli ∧
       e.osq = s.osq ∧ e.hpa = s.hpa ∧ e.ldu = s.ldu ∧ e.adu = s.adu ∧ e.ost.coils = s.ost.coils ∧ e.ost.props = s.ost.props)

/-- ANALOG_FILTERED_VALUE: a sample of an assigned input replaces the oldest of four; from the fourth on the filtered value is (sum + 2) / 4 and moves the health state
by the table of R22. RECOVERY_TIMER_EXPIRY makes a RECOVERING channel HEALTHY. No other channel and no discrete input changes (R21, R22). A sample
that completes the first scan derives every axis and makes CEV compute its first values (R17, R24, R53). After that scan a filtered value and a recovery recompute every axis that uses the
input, in ascending index (R23, R34); before it they bring each such axis the health of its channels alone (assumption 8). An expiry is taken whatever time is left, which is the model's choice (assumption 1). -/
def Obligations.AnalogChannelFollowsItsSamples : Prop :=
  ∀ (input : Nat) (s : State), s.Ready →
    (∀ count, tget s.isc.analog input = none → exec (.analogFilteredValue input count) s = .next s) ∧
    (∀ count a, tget s.isc.analog input = some a →
      ∃ e : State, exec (.analogFilteredValue input count) s = .next (finish e) ∧
        (∃ b, tget (finish e).isc.analog input = some b ∧ b.samples = (count :: a.samples).take 4 ∧
          (b.samples.length < 4 → b = { a with samples := b.samples }) ∧
          (b.samples.length = 4 →
            let v := (b.samples.sum + 2) / 4
            let inside := 700 ≤ v ∧ v ≤ 4050
            b.filtered = some v ∧
            (inside → a.health = none ∨ a.health = some .healthy → b.health = some .healthy ∧ b.recovery = a.recovery) ∧
            (inside → a.health = some .unhealthy → b.health = some .recovering ∧ b.recovery = some 10) ∧
            (inside → a.health = some .recovering → b.health = some .recovering ∧ b.recovery = a.recovery) ∧
            (¬ inside → b.health = some .unhealthy ∧ b.recovery = if a.health = some .recovering then none else a.recovery))) ∧
        (3 ≤ a.samples.length → s.AxesFollow e input) ∧ (a.samples.length < 3 → a.filtered = none → e = { s with isc := e.isc }) ∧
        (∀ i, i ≠ input → tget (finish e).isc.analog i = tget s.isc.analog i) ∧ s.ScansFirst e ∧
        (finish e).isc.field = s.isc.field ∧ (finish e).isc.feedback = s.isc.feedback ∧ (finish e).amu = s.amu ∧ (finish e).lst = s.lst ∧
        e.osq = s.osq ∧ e.hpa = s.hpa ∧ e.ldu = s.ldu ∧ e.adu = s.adu) ∧
    ((∀ a, tget s.isc.analog input = some a → a.health ≠ some .recovering) → exec (.recoveryTimerExpiry input) s = .next s) ∧
    (∀ a, tget s.isc.analog input = some a → a.health = some .recovering →
      ∃ e : State, exec (.recoveryTimerExpiry input) s = .next (finish e) ∧
        tget (finish e).isc.analog input = some { a with health := some .healthy, recovery := none } ∧ s.AxesFollow e input ∧
        (∀ i, i ≠ input → tget (finish e).isc.analog i = tget s.isc.analog i) ∧
        (finish e).isc.field = s.isc.field ∧ (finish e).isc.feedback = s.isc.feedback ∧ (finish e).amu = s.amu ∧ (finish e).lst = s.lst ∧
        e.osq = s.osq ∧ e.hpa = s.hpa ∧ e.ldu = s.ldu ∧ e.adu = s.adu)

/-- What a recompute of an axis leaves in its record: the reported position of each transducer, absent for one that is not healthy (R27), position and skew from the transducers that are healthy then (R29), health, zone (R33), tip load (R35), DEGRADED with its alarm
(R31), and the faults CHANNEL_FAULT, OVERTRAVEL and SKEW, reported in that order, the first kept (R28, R30, R32, R34); a changed record of a floating axis is handed to ADU (R34), and so is one
whose fault is newly recorded outside a recompute (R8, R13); the conditions that name the axis follow (R37). That TRANSDUCER_LOST stands nowhere acknowledged while the flag is clear (R31, R165) is a premise of its clause at sea. The
unclamped position of a transducer, p_t = floor((u × F + floor(D / 2)) / D), and the reported position, p_t clamped to [0, F]; the position lies outside the overtravel band when
p_t < -50 or p_t > F + 50 (R27, R28). A channel not yet reported is neither healthy nor lost, the model's choice (assumption 8). -/
def Obligations.AxisPositionFromTransducers : Prop :=
  (∀ (i : Nat) (d : AxisDef) (y : AxisDyn) (s : State), s.layout.axis? i = some d → s.axis? i = some y →
     let e := s.axisRecompute i
     let healthy (n : Nat) : Prop := ∃ a, tget s.isc.analog n = some a ∧ a.health = some .healthy
     let lost (n : Nat) : Prop := ∃ a, tget s.isc.analog n = some a ∧ a.health ≠ none ∧ a.health ≠ some .healthy
     let noneLeft := lost d.transA.input ∧ ∀ b, d.transB = some b → lost b.input
     let beyond := ∃ u ∈ s.unclampedAll d, u < -50 ∨ u > d.travel + 50
     ∃ z, e.axis? i = some z ∧ z.posA = (s.unclamped d.travel d.transA).map (reportedPosition d.travel) ∧
       z.posB = (d.transB.bind (s.unclamped d.travel)).map (reportedPosition d.travel) ∧
       (∀ a b, s.unclamped d.travel d.transA = some a → d.transB.bind (s.unclamped d.travel) = some b →
         z.posA = some (reportedPosition d.travel a) ∧ z.posB = some (reportedPosition d.travel b) ∧
           z.p = some ((reportedPosition d.travel a + reportedPosition d.travel b + 1) / 2) ∧ z.skew = some (a - b)) ∧
       (∀ a, s.unclamped d.travel d.transA = some a → d.transB.bind (s.unclamped d.travel) = none →
         z.p = some (reportedPosition d.travel a) ∧ z.skew = none) ∧
       (∀ b, s.unclamped d.travel d.transA = none → d.transB.bind (s.unclamped d.travel) = some b →
         z.p = some (reportedPosition d.travel b) ∧ z.skew = none) ∧
       (s.unclamped d.travel d.transA = none → d.transB.bind (s.unclamped d.travel) = none → z.p = none ∧ z.skew = none) ∧
       (∀ p, z.p = some p → p ≤ d.travel) ∧
       (z.healthyA = true ↔ healthy d.transA.input) ∧ (z.healthyB = true ↔ ∃ b, d.transB = some b ∧ healthy b.input) ∧
       (z.p = none → z.zone = .unknown) ∧
       (∀ p, z.p = some p →
         z.zone = if p ≤ d.endBand then .closedEnd else if d.travel ≤ p + d.endBand then .openEnd else .mid) ∧
       (∀ t a r, d.tip = some t → tget s.isc.analog t.input = some a → a.health = some .healthy → a.filtered = some r →
         ∃ v : Nat, z.tip = some v ∧ (v : Int) = max 0 (min (t.fullScale : Int) ((((r : Int) - 700) * t.fullScale).fdiv 3350))) ∧
       (d.tip = none ∨ (∃ t, d.tip = some t ∧ ¬ healthy t.input) → z.tip = none) ∧
       (z.degraded = true ↔ y.degraded = true ∨ ∃ b, d.transB = some b ∧ (lost d.transA.input ∨ lost b.input)) ∧
       (y.degraded = false → z.degraded = true → s.amu.mode ≠ .sea ∨ s.aeu.NotAcked .transducerLost i → e.aeu.Raised .transducerLost i) ∧
       (let twisted := ∃ k, z.skew = some k ∧ d.skewLimit < k.natAbs
        (∀ c, y.fault = some c → z.fault = some c) ∧
        (y.fault = none →
          (noneLeft → z.fault = some .channelFault) ∧ (¬ noneLeft → beyond → z.fault = some .overtravel) ∧
            (¬ noneLeft → ¬ beyond → twisted → z.fault = some .skew) ∧ (¬ noneLeft → ¬ beyond → ¬ twisted → z.fault = none)) ∧
        (y.reserved ≠ none →
          (noneLeft → ∃ f, Task.faulted i .channelFault f ∈ e.todo) ∧ (beyond → ∃ f, Task.faulted i .overtravel f ∈ e.todo) ∧
            (twisted → ∃ f, Task.faulted i .skew f ∈ e.todo))) ∧
       z.drive = y.drive ∧ z.reserved = y.reserved ∧ (z ≠ y → s.floats i = true → Task.floatRecord i ∈ e.todo) ∧ s.CevFollows e i ∧
       (∀ k, k ≠ i → tget e.pmn.points k = tget s.pmn.points k)) ∧
  (∀ (t : Transducer) (F r : Nat), t.openCount ≠ t.closedCount →
     let D : Int := ((t.openCount : Int) - t.closedCount).natAbs
     let u : Int := if t.openCount > t.closedCount then (r : Int) - t.closedCount else (t.closedCount : Int) - r
     unclampedPosition t F r = (u * F + D / 2).fdiv D ∧
       (∀ p : Int, (reportedPosition F p : Int) = if p < 0 then 0 else if p > F then (F : Int) else p) ∧
       (∀ p : Int, inOvertravelBand F p = false ↔ p < -50 ∨ p > F + 50)) ∧
  (∀ (i : Nat) (d : PointDyn) (code : FaultCode) (s : State), tget s.pmn.points i = some d → d.fault = none → s.floats i = true →
     Task.floatRecord i ∈ (s.recordFault i code).todo)

/-- CONFLICT_TIMER_EXPIRY stops the lock's running conflict timer and records SENSOR_CONFLICT on the point, and the conditions that name it follow where the fault is new (R37); with the timer stopped it changes nothing (R13, R26). STALENESS_TIMER_EXPIRY: freshness is STALE with the values held, c1 and c2 are UNKNOWN and VESSEL_DATA_LOST is raised; with the timer stopped nothing changes (R43). An expiry is taken whatever time is left, which is the model's choice (assumption 1). -/
def Obligations.ConflictAndStalenessExpire : Prop :=
  (∀ (p : Nat) (s : State), s.Ready →
     ((∀ y, s.lock? p = some y → y.conflict = none) → exec (.conflictTimerExpiry p) s = .next s) ∧
     (∀ y, s.lock? p = some y → y.conflict ≠ none →
       ∃ e : State, exec (.conflictTimerExpiry p) s = .next (finish e) ∧
         e.lock? p = some { y with conflict := none, fault := some (y.fault.getD .sensorConflict) } ∧ s.FaultRecorded e p .sensorConflict ∧
         (finish e).fixed = s.fixed ∧ e.hpa = s.hpa ∧ e.ldu = s.ldu ∧ e.adu = s.adu ∧ e.osq = s.osq ∧
         e.ost.coils = s.ost.coils ∧ e.ost.props = s.ost.props)) ∧
  (∀ s : State, s.Ready →
     (s.cev.staleness = none → exec .stalenessTimerExpiry s = .next s) ∧
     (s.cev.staleness ≠ none →
       ∃ e : State, exec .stalenessTimerExpiry s = .next (finish e) ∧
         (finish e).fixed = { s.fixed with freshness := .stale, staleness := none } ∧
         (s.cev.started = true → s.cev.conds.length = 32 → e.cond 1 = .unknown ∧ e.cond 2 = .unknown) ∧
         (∀ i, i ≠ 1 → i ≠ 2 → e.cond i = s.cond i) ∧ e.aeu.Raised .vesselDataLost 0 ∧
         e.pmn = s.pmn ∧ e.hpa = s.hpa ∧ e.ldu = s.ldu ∧ e.adu = s.adu ∧ e.osq = s.osq))

/-! ### Conditions and permissives -/

/-- A condition of the layout combines the values of its terms: FALSE when one is FALSE, otherwise UNKNOWN when one is UNKNOWN, otherwise TRUE, whatever their order;
an undefined condition is UNKNOWN (R36, R40). A lock term and an axis term have the values of R39, and c0 and c3 to c7 those of R38. A recompute gives each condition it names its new
value and derives the closure state from the new values; what changed is handed on, and AEU raises CLOSURE_LOST for an element that is lost at sea and clears it otherwise (R37, R154,
R155, R160). That AEU takes the handover in the act of the recompute, before the other blocks take what changed, is the model's choice (assumption 39). At sea a
visor lock or cleat that leaves ENGAGED raises LOCK_MOVED_AT_SEA, and one that returns clears it (R161). -/
def Obligations.ConditionCombinesItsTerms : Prop :=
  (∀ (i : Nat) (s : State), 8 ≤ i →
    (tget s.layout.conditions i = none → s.evalCond i = .unknown) ∧
    (∀ ts, tget s.layout.conditions i = some ts →
      ((∃ t ∈ ts, s.termValue t = .no) → s.evalCond i = .no) ∧
      ((∀ t ∈ ts, s.termValue t ≠ .no) → (∃ t ∈ ts, s.termValue t = .unknown) → s.evalCond i = .unknown) ∧
      ((∀ t ∈ ts, s.termValue t = .yes) → s.evalCond i = .yes))) ∧
  (∀ xs ys : List Tri, xs.Perm ys → Tri.all xs = Tri.all ys) ∧
  (∀ (p : Nat) (s : State),
    (∀ d, s.lock? p = some d →
      (d.fault = some .sensorConflict ∨ d.confirmed = .conflict →
        s.termValue ⟨p, .engaged⟩ = .unknown ∧ s.termValue ⟨p, .retracted⟩ = .unknown) ∧
      (d.fault ≠ some .sensorConflict → d.confirmed ≠ .conflict →
        s.termValue ⟨p, .engaged⟩ = (if d.confirmed = .engaged then .yes else .no) ∧
          s.termValue ⟨p, .retracted⟩ = (if d.confirmed = .retracted then .yes else .no))) ∧
    (∀ d, s.axis? p = some d →
      (d.p = none ∨ d.fault = some .channelFault ∨ d.fault = some .skew → ∀ req, s.termValue ⟨p, req⟩ = .unknown) ∧
      (∀ q, d.p = some q → d.fault ≠ some .channelFault → d.fault ≠ some .skew →
        s.termValue ⟨p, .atClosed⟩ = (if d.zone = .closedEnd then .yes else .no) ∧
          s.termValue ⟨p, .atOpen⟩ = (if d.zone = .openEnd then .yes else .no) ∧
          (∀ x, s.termValue ⟨p, .atLeast x⟩ = if x ≤ q then .yes else .no) ∧
          (∀ x, s.termValue ⟨p, .atMost x⟩ = if q ≤ x then .yes else .no)))) ∧
  (∀ s : State,
    (s.evalCond 0 = match s.ost.estop with
      | .clear => .yes
      | .active => .no
      | .undecided => .unknown) ∧
    s.evalCond 3 = (if s.amu.consent = true then .yes else .no) ∧
    (let input (i : Nat) (k : Option Nat) : Prop :=
       (k = none → s.evalCond i = .unknown) ∧
       (∀ n d, k = some n → tget s.isc.field n = some d → s.evalCond i = if d.debounced = true then .yes else .no)
     input 4 (s.layout.header.bind (fun h => h.deckClear)) ∧ input 5 (s.layout.header.bind (fun h => h.linkspan))) ∧
    ((∃ q ∈ s.hpa.pumps, q.2.state ≠ .faulted) → s.evalCond 6 = .yes) ∧ ((∀ q ∈ s.hpa.pumps, q.2.state = .faulted) → s.evalCond 6 = .no) ∧
    s.evalCond 7 = (if s.amu.mode = .harbour then .yes else .no)) ∧
  (∀ (ids : List Nat) (s : State), (∀ i ∈ ids, i < 32) → s.cev.conds.length = 32 →
    let t := s.recompute ids
    (s.cev.started = false → t = s) ∧
    (s.cev.started = true →
      (∀ i, i < 32 → t.cond i = if i ∈ ids then s.evalCond i else s.cond i) ∧
      (let element (c : Tri) : Closed := match c with
         | .yes => .secured
         | .no => .notSecured
         | .unknown => .unknown
       (∀ h, s.layout.header = some h →
         t.cev.closure =
           { visor := element (t.cond h.visorCond)
             inner := element (t.cond h.innerCond)
             overall :=
               if t.cond h.visorCond = .yes ∧ t.cond h.innerCond = .yes then .secured
               else if t.cond h.visorCond = .no ∨ t.cond h.innerCond = .no then .notSecured
               else .unknown }) ∧
       (s.layout.header = none → t.cev.closure = { visor := .unknown, inner := .unknown, overall := .unknown })) ∧
      (t.cev = s.cev → t = s) ∧
      (t.cev ≠ s.cev →
        t.aeu = ({ s with cev := t.cev } : State).supervise.aeu ∧
        ∃ cs, t.todo = s.todo ++ [.changed cs] ∧ ∀ c, c ∈ cs ↔ c.1 ∈ ids ∧ c.2 = s.evalCond c.1 ∧ c.2 ≠ s.cond c.1))) ∧
  (∀ s : State, s.aeu.AlarmsOk →
    let a := s.supervise.aeu
    let lost (c : Closed) : Prop := s.amu.mode = .sea ∧ c ≠ .secured
    (lost s.cev.closure.visor → s.aeu.lostVisor = false →
      (∀ x ∈ s.aeu.alarms, x.kind = .closureLost → x.subject = 0 → x.state ≠ .ackActive) → a.Raised .closureLost 0) ∧
    (lost s.cev.closure.inner → s.aeu.lostInner = false → a.Raised .closureLost 1) ∧
    (¬ lost s.cev.closure.visor → s.aeu.lostVisor = true → a.Cleared .closureLost 0) ∧
    (¬ lost s.cev.closure.inner → s.aeu.lostInner = true → a.Cleared .closureLost 1) ∧
    (a.lostVisor = true ↔ lost s.cev.closure.visor) ∧ (a.lostInner = true ↔ lost s.cev.closure.inner)) ∧
  (∀ (p : Nat) (d : LockDef) (y : LockDyn) (s : State), s.layout.lock? p = some d → s.lock? p = some y → s.aeu.AlarmsOk → s.amu.mode = .sea →
    d.role = .visorLock ∨ d.role = .cleat →
      let home := s.debounced d.engagedIn = true ∧ s.debounced d.retractedIn = false
      (y.confirmed = .engaged → ¬ home → (s.lockSensors p).aeu.Raised .lockMovedAtSea p) ∧
      (y.confirmed ≠ .engaged → home → (s.lockSensors p).aeu.Cleared .lockMovedAtSea p))

/-- A permissive entry is satisfied when c0 and every condition of its require set is TRUE and every condition of its forbid set is FALSE; otherwise CEV names the
first unsatisfied condition: c0, then the require set, then the forbid set, each in ascending id (R49). -/
def Obligations.PermissiveNamesTheFirstUnsatisfied : Prop :=
  ∀ (entry : PermEntry) (s : State), (∀ i ∈ entry.require, i < 32) → (∀ i ∈ entry.forbid, i < 32) →
    let ok := s.cond 0 = .yes ∧ (∀ i ∈ entry.require, s.cond i = .yes) ∧ (∀ i ∈ entry.forbid, s.cond i = .no)
    (s.firstUnsatisfied entry = none ↔ ok) ∧
    (∀ c, s.firstUnsatisfied entry = some c ↔
      (s.cond 0 ≠ .yes ∧ c = 0) ∨
      (s.cond 0 = .yes ∧ c ∈ entry.require ∧ s.cond c ≠ .yes ∧ ∀ i ∈ entry.require, i < c → s.cond i = .yes) ∨
      (s.cond 0 = .yes ∧ (∀ i ∈ entry.require, s.cond i = .yes) ∧ c ∈ entry.forbid ∧ s.cond c ≠ .no ∧
        ∀ i ∈ entry.forbid, i < c → s.cond i = .no))

/-- Issue attempts (R115). At the end of a list OSQ pops its stack; at the end of the last with nothing in flight the operation is COMPLETE (R123). A step waits on AFTER_ALL,
is passed when satisfied, waits for room, holds on its permissive, or is handed to its owner (R116, R117, R119). A claim refused leaves it waiting; one taken gives the motion the
first free id from the next one, reserves the points, adds the entry and sends the request (R112); a motion that its unit fails at issue fails its step, taken before the freed points
and with the pointer past the step (R124; assumption 27). An id that no entry holds names no motion record (R122), which the failed move takes as its premise. Outcomes, and the conditions
that complete a WAIT, remove the entry and make an issue attempt, or fail the step (R120, R122, R124). A watched motion whose entry turns unsatisfied holds the operation; which of several
gives the subject is left open (R51; assumption 26). That WAIT steps which one change completes leave the list together, with one issue attempt, is the model's choice (assumption 15). -/
def Obligations.RunningOperationWalksItsSteps : Prop :=
  ∀ (x : Context) (s : State), s.todo = [] → s.osq.context = some x → x.state = .running → x.causes = [] → (∀ n ∈ x.inFlight, n.due = false) →
    let withContext (y : Context) : State := { s with osq := { s.osq with context := some y } }
    let past : StepRef := { x.pointer with index := x.pointer.index + 1 }
    let here := ((tget s.layout.lists x.pointer.list).getD [])[x.pointer.index]?
    let t := runTask .issue s
    (here = none →
      (∀ f, x.stack.getLast? = some f → t = emit .issue (withContext { x with stack := x.stack.dropLast, pointer := f })) ∧
      (x.stack = [] → x.inFlight ≠ [] → t = s) ∧
      (x.stack = [] → x.inFlight = [] →
        t.osq = { s.osq with context := some { x with state := .complete } } ∧ t.aeu.newest = some (.operationEnded x.op true) ∧ t.todo = [])) ∧
    (∀ st, here = some st →
      let satisfied : Prop := match st.kind with
        | .driveGroup g d => ∀ def_, tget s.layout.groups g = some def_ → ∀ p ∈ def_.members, s.confirmed p = d.target
        | .moveAxis i w l => ∃ a p, s.layout.axis? i = some a ∧ s.position i = some p ∧ distanceOf (s.targetOf i w) p ≤ a.inPos ∧
            (l = true → s.landed i = true)
        | .wait c w _ => s.cond c = if w = true then .yes else .no
        | .floatAxis _ => False
        | .pause _ => False
        | .call _ => False
      let asked : Option Subject := match st.kind with
        | .driveGroup g d => some (.group g d)
        | .moveAxis i w _ =>
          if s.position i ≠ none ∧ s.targetProtected i (s.targetOf i w) = false then some (.axis i (s.moveDir i (s.targetOf i w))) else none
        | .floatAxis _ => none
        | .wait _ _ _ => none
        | .pause _ => none
        | .call _ => none
      let full : Prop := st.kind.needsRoom = true ∧ 6 ≤ x.inFlight.length
      let entry (motion remaining : Option Nat) : Entry :=
        { ref := x.pointer, step := st, motion := motion, state := .active, remaining := remaining, cause := none, due := false }
      (st.join = .afterAll → x.inFlight ≠ [] → t = s) ∧
      (st.join = .withPrevious ∨ x.inFlight = [] →
        (satisfied → t = emit .issue (withContext { x with pointer := past })) ∧
        (¬ satisfied → full → t = s) ∧
        (¬ satisfied → ¬ full → ∀ c, asked.bind s.permissive = some c →
          t.todo.contains .issue = false ∧
            ∃ y, t.osq.context = some y ∧ x.GivenCause { kind := .permissive, subject := .condition c } y) ∧
        (¬ satisfied → ¬ full → asked.bind s.permissive = none →
          let issuedAs (e : State) (m : Nat) : Prop :=
            e.osq = { s.osq with nextMotion := (m + 1) % 7,
                                 context := some { x with pointer := past, inFlight := x.inFlight ++ [entry (some m) none] } }
          let firstFree (m : Nat) : Prop := ∃ k < 7, m = (s.osq.nextMotion + k) % 7 ∧ (∀ n ∈ x.inFlight, n.motion ≠ some m) ∧
            ∀ j < k, ∃ n ∈ x.inFlight, n.motion = some ((s.osq.nextMotion + j) % 7)
          let asks (e : State) (m : Nat) (cls : FlowClass) (requested minimum : Nat) : Prop :=
            e.todo = [.pass, .issue] ∧ e.hpa.requests = s.hpa.requests ++
              [{ motion := m, cls := cls, requested := requested, minimum := minimum, stamp := s.hpa.arrival, passed := 0, wait := s.tune.flowWait }]
          let reserves (e : State) (m : Nat) (pts : List Nat) : Prop :=
            ∀ p, e.reservedBy p = if p ∈ pts then some m else s.reservedBy p
          let free (pts : List Nat) : Prop := ∀ p ∈ pts, (tget s.pmn.points p).isSome ∧ s.reservedBy p = none
          let past' (m : Nat) : Context := { x with pointer := past, inFlight := x.inFlight ++ [entry (some m) none] }
          match st.kind with
          | .driveGroup g d =>
            let pts := (((tget s.layout.groups g).map (fun def_ => def_.members)).getD []).filter (fun p => s.confirmed p != d.target)
            let flow := (pts.map (fun p => ((s.layout.lock? p).map (fun l => l.flow)).getD 0)).sum
            let bad := pts.filter (fun p => (s.faultOf p).isSome || s.confirmed p == .conflict)
            (¬ free pts → t = s) ∧
            (∀ def_, tget s.layout.groups g = some def_ → free pts →
              ∃ m, firstFree m ∧
                (bad = [] → issuedAs t m ∧ reserves t m pts ∧ asks t m .locking flow flow ∧
                  t.ldu? m = some
                    { owner := x.pointer, group := g, dir := d, state := .waitingFlow, halt := none, cause := none, failed := []
                      requested := flow, granted := none, watched := s.watchFor (.group g d), policy := def_.policy
                      retryLimit := def_.retryLimit, backOff := def_.backOff, firstCause := none
                      members := pts.map (fun p =>
                        { point := p, limit := ((s.layout.lock? p).map (fun l => l.travelLimit)).getD 0, state := .driving
                          travel := none, back := none, retries := 0 }) }) ∧
                (bad ≠ [] → s.StepFails t (past' m) x.inFlight.length (entry (some m) none) .memberFaulted ∧ t.NothingHeldBy m ∧
                  t.todo.contains .reissue = false ∧ t.hpa.requests.length ≤ s.hpa.requests.length ∧
                  ∀ p ∈ bad, (t.faultOf p).isSome))
          | .moveAxis i w l =>
            let T := s.targetOf i w
            (¬ free [i] → t = s) ∧
            (free [i] →
              ∃ m, firstFree m ∧
                (∀ p a, s.position i = some p → s.faultOf i = none → s.targetProtected i T = false → s.layout.axis? i = some a →
                  let dir := directionTo T p
                  let requested := (a.base dir * a.qFull + 999) / 1000
                  let minimum := (a.vMin * a.qFull + 999) / 1000
                  s.ldu? m = none → issuedAs t m ∧ reserves t m [i] ∧ asks t m .travel requested minimum ∧
                    t.adu? m = some
                      { owner := x.pointer, axis := i, target := T, landing := l, dir := dir, state := .waitingFlow, halt := none
                        cause := none, requested := requested, minimum := minimum, granted := none, watched := s.watchFor (.axis i dir)
                        travel := none, stall := none, settle := none, redrives := 0, last := none }) ∧
                (s.ldu? m = none →
                  let fails (c : FailCause) : Prop := s.StepFails t (past' m) x.inFlight.length (entry (some m) none) c ∧ t.NothingHeldBy m ∧
                    t.hpa.requests.length ≤ s.hpa.requests.length
                  (s.position i = none ∨ s.faultOf i ≠ none → fails .axisFaulted) ∧
                  (s.position i ≠ none → s.faultOf i = none → s.targetProtected i T = true → fails .windowProtected)))
          | .floatAxis i =>
            (s.reservedBy i ≠ none → t = s) ∧
            (s.reservedBy i = none → ∃ e, s.floatEntry i = some e ∧ t.osq.context = some { x with pointer := past } ∧
              t.todo.getLast? = some .issue ∧ t.adu = e.adu ∧ t.pmn = e.pmn ∧ t.ost = e.ost)
          | .call l => t = emit .issue (withContext
              { x with stack := x.stack ++ [past], pointer := { list := l, index := 0 } })
          | .wait _ _ limit => t = emit .issue (withContext
              { x with pointer := past, inFlight := x.inFlight ++ [entry none (if limit = 0 then none else some limit)] })
          | .pause time => t = emit .issue (withContext
              { x with pointer := past, inFlight := x.inFlight ++ [entry none (some time)] })))) ∧
    (∀ (m k : Nat) (n : Entry), x.inFlight[k]? = some n → n.motion = some m → (∀ j < k, ∀ o, x.inFlight[j]? = some o → o.motion ≠ some m) →
      let ended (st : MotionState) (c : Option FailCause) : Prop :=
        (∃ g, s.ldu? m = some g ∧ g.state = st ∧ g.cause = c) ∨ (s.ldu? m = none ∧ ∃ a, s.adu? m = some a ∧ a.state = st ∧ a.cause = c)
      let u := runTask (.outcome m) s
      (∀ c, ended .done c →
        u.osq = { s.osq with context := some { x with inFlight := x.inFlight.eraseIdx k } } ∧ u.ldu? m = none ∧ u.adu? m = none ∧
          u.todo = [.issue] ∧ u.hpa = s.hpa ∧ u.pmn = s.pmn ∧ u.ost = s.ost) ∧
      (∀ c, ended .failed (some c) → n.state ≠ .failed → s.StepFails u x k n c) ∧
      (∀ c, ended .failed (some c) → n.state = .failed → u = s)) ∧
    (∀ m : Nat, (∀ n ∈ x.inFlight, n.motion ≠ some m) → runTask (.outcome m) s = s) ∧
    (∀ cs : List (Nat × Tri),
      let completes (n : Entry) : Prop := n.state = .active ∧ ∃ c w limit, n.step.kind = .wait c w limit ∧ (c, if w = true then .yes else .no) ∈ cs
      let u := runTask (.waits cs) s
      ((∀ n ∈ x.inFlight, ¬ completes n) → u = s) ∧
      ((∃ n ∈ x.inFlight, completes n) →
        ∃ left, left.Sublist x.inFlight ∧ (∀ n, n ∈ left ↔ n ∈ x.inFlight ∧ ¬ completes n) ∧
          u = emit .issue (withContext { x with inFlight := left })) ∧
      (let live (st : MotionState) : Prop := st = .waitingFlow ∨ st = .driving ∨ st = .settling
       let watched (w : Subject) : Prop :=
         (∃ e ∈ s.ldu.motions, live e.2.state ∧ e.2.watched = some w) ∨ ∃ e ∈ s.adu.motions, live e.2.state ∧ e.2.watched = some w
       let broken (c : Nat) : Prop := ∃ w p, watched w ∧ s.permEntry w = some p ∧ s.firstUnsatisfied p = some c ∧
         ∃ h ∈ cs, h.1 = 0 ∨ h.1 ∈ p.require ∨ h.1 ∈ p.forbid
       let v := runTask (.changed cs) s
       ((∀ c, ¬ broken c) → v = emit (.waits cs) s) ∧
       ((∃ c, broken c) → v.todo.getLast? = some (.waits cs) ∧
         ∃ c y, broken c ∧ v.osq.context = some y ∧ x.GivenCause { kind := .permissive, subject := .condition c } y)))

/-! ### Timers of links, authority, vessel data and pumps -/

/-- SILENCE_TIMER_EXPIRY: the link is SILENT, authority held by its station passes to NONE, which is the event AUTHORITY_CHANGED, once and first (R178), with the edit buffer it opened, and the bridge link also takes consent away and
raises BRIDGE_LINK_LOST, and c3 follows (R37, R38); with the timer stopped nothing changes (R178, R179). That an expiry is taken whatever time is left, and that an ended jog's record holds no granted flow and
no remaining time, are the model's choices (assumptions 1, 28). -/
def Obligations.SilentLinkLosesAuthority : Prop :=
  ∀ (st : Station) (s : State), s.Ready →
    ((s.link st).silence = none → exec (.silenceTimerExpiry st) s = .next s) ∧
    ((s.link st).silence ≠ none →
      ∃ e : State, exec (.silenceTimerExpiry st) s = .next (finish e) ∧
        (finish e).link st = { s.link st with silence := none, active := false } ∧
        (∀ x, x ≠ st → (finish e).link x = s.link x) ∧
        (finish e).amu =
          { holder := if s.amu.holder = holderOf st then .none else s.amu.holder
            runTimer := if s.amu.holder = holderOf st then none else s.amu.runTimer
            mode := s.amu.mode
            consent := if st = .bridge then false else s.amu.consent } ∧
        (finish e).lst = { s.lst with
          buffer := if s.amu.holder = holderOf st then s.lst.buffer.filter (fun b => b.owner != st) else s.lst.buffer } ∧
        (finish e).isc = s.isc ∧
        (s.aeu.EventsOk → ∃ es : List Event, (∀ n o, Event.authorityChanged n o ∉ es) ∧
          e.aeu.events = newestRecords (s.aeu.events ++ s.aeu.dated
            ((if s.amu.holder = holderOf st then [.authorityChanged .none (holderOf st)] else []) ++ es))) ∧
        (st = .bridge → e.aeu.Raised .bridgeLinkLost 0) ∧
        (st = .bridge → s.amu.consent = true → s.cev.started = true → s.cev.conds.length = 32 → e.cond 3 = .no) ∧
        (s.amu.holder ≠ holderOf st → e.osq = s.osq) ∧
        (s.amu.holder = holderOf st →
          (∀ x, s.osq.context = some x → x.state = .running →
            ∃ y, e.osq.context = some y ∧ x.GivenCause { kind := .authorityLost, subject := .station st } y) ∧
          (∀ j, s.osq.jog = some j → j.station = st → e.osq.jog = some (j.ended .authorityLost))))

/-- A pump changes state as the table of R55 says on its feedback and on its timers: START_TIMER_EXPIRY and RUN_DOWN_TIMER_EXPIRY of a pump that runs the timer, and the
running feedback ISC hands over. Every change leaves the allocation within the capacity, records PUMP_STATE and recomputes c6, and entry to FAULTED raises PUMP_FAULT,
whose pair stands nowhere acknowledged before it (R165), the clause's premise; what the table does not list leaves the state (R54, R55, R56). IDLE_TIMER_EXPIRY stops every RUNNING and every STARTING pump, each with a run-down of 1.0 s and its contactor off; with the timer stopped nothing changes (R55, R60). An expiry is taken whatever time is left, which is the model's choice (assumption 1). -/
def Obligations.PumpsFollowTheirTable : Prop :=
  (∀ (i : Nat) (s : State), s.Ready →
     (let changed (e : State) (q : Pump) (st : PumpState) (cause : Option PumpCause) (runDown : Option Nat) : Prop :=
        tget e.hpa.pumps i = some { q with state := st, cause := cause, start := none, runDown := runDown } ∧
          (∀ k, k ≠ i → tget e.hpa.pumps k = tget s.hpa.pumps k) ∧ e.hpa.Within ∧ e.todo.getLast? = some .pass ∧
          (∃ r ∈ e.aeu.events, r.event = .pumpState i st cause) ∧ (st = .faulted → e.contactorOn i = false) ∧
          (st = .faulted → s.aeu.NotAcked .pumpFault i → e.aeu.Raised .pumpFault i) ∧
          (s.cev.started = true → s.cev.conds.length = 32 →
            e.cond 6 = if e.hpa.pumps.any (fun p => p.2.state != .faulted) then .yes else .no) ∧
          e.pmn = s.pmn ∧ e.ldu = s.ldu ∧ e.adu = s.adu ∧ e.osq = s.osq ∧ (finish e).fixed = s.fixed
      (∀ q, tget s.hpa.pumps i = some q →
        (q.state = .starting → q.start ≠ none → q.feedback = false →
          ∃ e : State, exec (.startTimerExpiry i) s = .next (finish e) ∧ changed e q .faulted (some .noStart) none) ∧
        (q.state ≠ .starting ∨ q.start = none ∨ q.feedback = true → exec (.startTimerExpiry i) s = .next s) ∧
        (q.state = .stopped → q.runDown ≠ none → q.feedback = true →
          ∃ e : State, exec (.runDownTimerExpiry i) s = .next (finish e) ∧ changed e q .faulted (some .contactorFault) none) ∧
        (q.state = .stopped → q.runDown ≠ none → q.feedback = false →
          exec (.runDownTimerExpiry i) s = .next (finish (emit .pass
            { s with hpa := { s.hpa with pumps := tput s.hpa.pumps i { q with runDown := none } } }))) ∧
        (q.state ≠ .stopped ∨ q.runDown = none → exec (.runDownTimerExpiry i) s = .next s) ∧
        (q.state = .stopped → q.runDown = none → changed (s.pumpFeedback i true) { q with feedback := true } .faulted (some .contactorFault) none) ∧
        (q.state = .starting → changed (s.pumpFeedback i true) { q with feedback := true } .running none none) ∧
        (q.state = .running → s.contactorOn i = true →
          changed (s.pumpFeedback i false) { q with feedback := false } .faulted (some .tripped) none) ∧
        (q.state = .running → s.contactorOn i = false →
          changed (s.pumpFeedback i false) { q with feedback := false } .stopped none (some 10)) ∧
        (∀ on, q.state = .faulted ∨ (q.state = .running ∧ on = true) ∨ (q.state = .starting ∧ on = false) ∨
            (q.state = .stopped ∧ (on = false ∨ q.runDown ≠ none)) →
          s.pumpFeedback i on = { s with hpa := { s.hpa with pumps := tput s.hpa.pumps i { q with feedback := on } } })) ∧
      (tget s.hpa.pumps i = none → exec (.startTimerExpiry i) s = .next s ∧ exec (.runDownTimerExpiry i) s = .next s))) ∧
  (∀ s : State, s.Ready →
     (s.hpa.idle = none → exec .idleTimerExpiry s = .next s) ∧
     (s.hpa.idle ≠ none →
       ∃ e : State, exec .idleTimerExpiry s = .next (finish e) ∧
         (∀ i q, tget s.hpa.pumps i = some q →
           (q.state = .running ∨ q.state = .starting →
             tget e.hpa.pumps i = some { q with state := .stopped, cause := none, start := none, runDown := some 10 } ∧
               e.contactorOn i = false) ∧
           (q.state = .stopped ∨ q.state = .faulted → tget e.hpa.pumps i = some q)) ∧
         e.pmn = s.pmn ∧ e.ldu = s.ldu ∧ e.adu = s.adu ∧ e.osq = s.osq ∧ e.ost.coils = s.ost.coils ∧ e.ost.props = s.ost.props ∧
         (finish e).fixed = s.fixed))

/-- FLOW_WAIT_EXPIRY removes the request, and its motion fails with NO_FLOW: a group drive or an axis move that waits for flow ends FAILED, and a jog ends; with no request
nothing changes (R62, R85, R103, R141). That an expiry is taken whatever time is left, and that an ended jog's record holds no granted flow and no remaining time, are the model's
choices (assumptions 1, 28). -/
def Obligations.FlowWaitExpiryFailsTheMotion : Prop :=
  ∀ (m : Nat) (s : State), s.Ready →
    (s.hpa.entryOf m = none → exec (.flowWaitExpiry m) s = .next s) ∧
    (s.hpa.entryOf m ≠ none →
      ∃ e : State, exec (.flowWaitExpiry m) s = .next (finish e) ∧ e.hpa.entryOf m = none ∧ e.hpa.grantOf m = none ∧
        .pass ∈ e.todo ∧
        (m ≠ 7 → ∀ g, s.ldu? m = some g → g.state = .waitingFlow ∨ (g.state = .halted ∧ g.halt = some .noFlow) →
          s.GroupEnded e m .failed (some .noFlow) []) ∧
        (m ≠ 7 → s.ldu? m = none → ∀ a, s.adu? m = some a → a.state = .waitingFlow ∨ (a.state = .halted ∧ a.halt = some .noFlow) →
          s.MoveEnded e m a .failed (some .noFlow)) ∧
        (m = 7 → ∀ j, s.osq.jog = some j → j.phase ≠ .ended → s.JogEnded e j .noFlow) ∧ (finish e).fixed = s.fixed)

/-! ### Timers of motions, steps and the jog -/

/-- MEMBER_TRAVEL_TIMEOUT of a DRIVING member: while retries remain it backs off with the opposite coil demanded for the back-off time; otherwise it fails with
TRAVEL_TIMEOUT on its point, and under STOP_GROUP the motion ends FAILED. The fault is an event where it is newly recorded, goes to CEV, and at sea raises POINT_FAULT (R13, R37, R162). BACK_OFF_EXPIRY drives the member again with a raised retry count. An expiry of a timer that does not
run changes nothing (R77, R78, R82). An expiry is taken whatever time is left, which is the model's choice (assumption 1). -/
def Obligations.MemberTimersRetryOrFail : Prop :=
  ∀ (m p : Nat) (s : State), s.Ready →
    ((∀ g x, s.ldu? m = some g → g.member? p = some x → g.state = .driving → x.state = .driving → x.travel = none) →
      exec (.memberTravelTimeout m p) s = .next s) ∧
    ((∀ g x, s.ldu? m = some g → g.member? p = some x → g.state = .driving → x.state = .backingOff → x.back = none) →
      exec (.backOffExpiry m p) s = .next s) ∧
    (∀ g x, s.ldu? m = some g → g.member? p = some x → g.state = .driving →
      let swapped (e : State) (target : Bool) : Prop :=
        ∀ d, s.layout.lock? p = some d → d.engageCoil ≠ d.retractCoil → s.reservedBy p = some m →
          (∀ o ∈ [d.engageCoil, d.retractCoil], ∃ c, s.ost.coils[o]? = some c ∧ c.owner = some p) →
            e.coilDemanded (d.coil g.dir) target ∧ e.coilDemanded (d.coil g.dir.opposite) (!target)
      (x.state = .driving → x.travel ≠ none →
        (x.retries < g.retryLimit →
          ∃ e : State, exec (.memberTravelTimeout m p) s = .next (finish e) ∧
            e.ldu? m = some (g.modMember p (fun y => { y with state := .backingOff, travel := none, back := some g.backOff })) ∧
            swapped e false ∧ (∀ n, n ≠ m → e.ldu? n = s.ldu? n) ∧ e.adu = s.adu ∧ e.osq = s.osq ∧ e.hpa = s.hpa ∧
            (finish e).fixed = s.fixed) ∧
        (g.retryLimit ≤ x.retries →
          ∃ e : State, exec (.memberTravelTimeout m p) s = .next (finish e) ∧
            ((tget s.pmn.points p).isSome → s.FaultReported e p .travelTimeout) ∧
            (∃ h, e.ldu? m = some h ∧ ∀ y ∈ h.members, y.point = p → y.state = .failed ∧ y.travel = none ∧ y.back = none) ∧
            (g.policy = .stopGroup → s.GroupEnded e m .failed (some (.point .travelTimeout)) [p]) ∧
            (∀ n, n ≠ m → e.ldu? n = s.ldu? n) ∧ e.adu = s.adu ∧ e.osq = s.osq ∧ (finish e).fixed = s.fixed)) ∧
      (x.state = .backingOff → x.back ≠ none →
        ∃ e : State, exec (.backOffExpiry m p) s = .next (finish e) ∧
          e.ldu? m = some (g.modMember p (fun y =>
            { y with state := .driving, travel := some y.limit, back := none, retries := y.retries + 1 })) ∧
          swapped e true ∧ (∀ n, n ≠ m → e.ldu? n = s.ldu? n) ∧ e.adu = s.adu ∧ e.osq = s.osq ∧ e.hpa = s.hpa ∧
          (finish e).fixed = s.fixed))

/-- CONTROL_INTERVAL of a DRIVING move: in the order of R93 it fails in a protect window, is DONE on landing, arrives within the in-position band, or drives the command
of R93 out of its direction's output with the other at 0 (R93, R94, R95, R99, R100). That a control interval comes as a command of its own, whatever the time since the last one, is the model's choice (assumption 1). -/
def Obligations.ControlIntervalDrivesTheCommand : Prop :=
  ∀ (m : Nat) (s : State), s.Ready →
    ((∀ a, s.adu? m = some a → a.state = .driving → s.layout.axis? a.axis = none ∨ s.position a.axis = none) →
      exec (.controlInterval m) s = .next s) ∧
    (∀ a d y p, s.adu? m = some a → a.state = .driving → s.layout.axis? a.axis = some d → s.axis? a.axis = some y → y.p = some p →
      let ws := s.layout.windows a.axis
      let far := if a.target ≥ p then a.target - p else p - a.target
      (protectedAt d.travel ws p = true →
        ∃ e : State, exec (.controlInterval m) s = .next (finish e) ∧ s.MoveEnded e m a .failed (some .windowProtected)) ∧
      (protectedAt d.travel ws p = false →
        (a.landing = true → s.landed a.axis = true →
          ∃ e : State, exec (.controlInterval m) s = .next (finish e) ∧ s.MoveEnded e m a .done none) ∧
        (a.landing = true → s.landed a.axis = false → far ≤ d.inPos →
          ∃ e : State, exec (.controlInterval m) s = .next (finish e) ∧ s.MoveEnded e m a .failed (some .notLanded)) ∧
        (a.landing = false → far ≤ d.inPos →
          exec (.controlInterval m) s = .next (((s.zeroProps a.axis).modAdu m (fun x =>
            { x with state := .settling, stall := none, settle := some d.settle })).setDrive a.axis .settling)) ∧
        (a.landing = false ∨ s.landed a.axis = false → d.inPos < far →
          let dir := if a.target > p then AxisDir.opening else .closing
          let v1 := d.base dir * (4 - deratingAt d.travel ws p) / 4
          let v1' := if y.degraded then v1 / 2 else v1
          let v2 := if far < d.approach then v1' * far / d.approach else v1'
          let v4 := min (min (max v2 d.vMin) (a.granted.getD 0 * 1000 / d.qFull)) 1000
          ∃ t : State, exec (.controlInterval m) s = .next t ∧ t.adu? m = some { a with last := some (dir, v4) } ∧
            (d.openOut ≠ d.closeOut → s.reservedBy a.axis = some m → s.ost.estop ≠ .active →
              (∀ q, s.ost.props[d.out dir]? = some q → q.owner = some a.axis → q.state = .active →
                t.ost.props[d.out dir]? = some { q with command := v4 }) ∧
              (∀ q, s.ost.props[d.out dir.opposite]? = some q → q.owner = some a.axis →
                t.ost.props[d.out dir.opposite]? = some { q with command := 0 })) ∧
            (∀ n, n ≠ m → t.adu? n = s.adu? n) ∧ (∀ o, o ≠ d.openOut → o ≠ d.closeOut → t.ost.props[o]? = s.ost.props[o]?) ∧
            t = { s with adu := t.adu, ost := { s.ost with props := t.ost.props } })))

/-- STALL_WINDOW_END, AXIS_TRAVEL_TIMEOUT and SETTLE_END of an axis move: each ends the move FAILED with its fault recorded, or lets it go on, as R96, R97 and R99
say; the fault is an event where it is newly recorded, goes to CEV, and at sea raises POINT_FAULT (R13, R37, R162); an expiry of a timer that does not run changes nothing. An expiry is taken whatever time is left, which is the model's choice (assumption 1). -/
def Obligations.MoveTimersSuperviseTheMove : Prop :=
  ∀ (m : Nat) (s : State), s.Ready →
    ((∀ a, s.adu? m = some a → a.state ≠ .driving ∨ a.stall = none) → exec (.stallWindowEnd m) s = .next s) ∧
    ((∀ a, s.adu? m = some a → (a.state ≠ .driving ∧ a.state ≠ .settling) ∨ a.travel = none) →
      exec (.axisTravelTimeout m) s = .next s) ∧
    ((∀ a, s.adu? m = some a → a.state ≠ .settling ∨ a.settle = none) → exec (.settleEnd m) s = .next s) ∧
    (∀ a d, s.adu? m = some a → s.layout.axis? a.axis = some d →
      let failed (e : State) (code : FaultCode) : Prop :=
        s.MoveEnded e m a .failed (some (.point code)) ∧
          ((tget s.pmn.points a.axis).isSome → s.FaultReported e a.axis code)
      (a.state = .driving ∨ a.state = .settling → a.travel ≠ none →
        ∃ e : State, exec (.axisTravelTimeout m) s = .next (finish e) ∧ failed e .travelTimeout) ∧
      (∀ p, s.position a.axis = some p →
        (∀ w, a.state = .driving → a.stall = some w →
          let moved := if p ≥ w.start then p - w.start else w.start - p
          (moved < d.stallDelta → ∃ e : State, exec (.stallWindowEnd m) s = .next (finish e) ∧ failed e .stall) ∧
          (d.stallDelta ≤ moved → exec (.stallWindowEnd m) s = .next
            (s.modAdu m (fun x => { x with stall := some { left := d.stallWindow, start := p } })))) ∧
        (a.state = .settling → a.settle ≠ none →
          let far := if a.target ≥ p then a.target - p else p - a.target
          (far ≤ d.inPos → ∃ e : State, exec (.settleEnd m) s = .next (finish e) ∧ s.MoveEnded e m a .done none) ∧
          (d.inPos < far → 2 ≤ a.redrives → ∃ e : State, exec (.settleEnd m) s = .next (finish e) ∧ failed e .inposFailed) ∧
          (d.inPos < far → a.redrives < 2 →
            let again := (s.modAdu m (fun x =>
              { x with state := .driving, halt := none, settle := none, redrives := x.redrives + 1
                       stall := some { left := d.stallWindow, start := p } })).setDrive a.axis .driving
            (s.runAsserted = true → exec (.settleEnd m) s = .next (finish (again.aduInterval m))) ∧
            (s.runAsserted = false → exec (.settleEnd m) s = .next
              (finish (emit (.cause { kind := .runReleased, subject := .holder s.amu.holder }) again)))))))

/-- A tick of the time stamp counts every running timer down by 0.1 s; that the expiries are apart from it and are taken whatever time is left is the model's choice (assumption 1).
WAIT_STEP_EXPIRY fails its step with WAIT_EXPIRED: the operation holds with STEP_FAILED, or is replaced by its reverse operation where on-fail REVERSE and R136 allow it (R120,
R124, R136); that the expired WAIT then shows no remaining time is the model's choice (assumption 32). PAUSE_EXPIRY completes its step and an issue attempt follows (R121, R122). An expiry of a timer that does not run changes nothing. FLOAT_AXIS on a reserved axis is refused; on a floating one
it changes nothing; otherwise the outputs go to 0, the float coil is energized and supervision starts (R104). At the end of float the coil goes off and both alarms are cleared (R105). The limit
flag is raised outside the window and cleared inside the clear band (R106). A tip load below the lift-off threshold starts the timer at 2.0 s, one at or above it stops the timer and clears the
flag, and an absent one stops the timer; LIFT_OFF_TIMER_EXPIRY raises the flag and RAMP_LIFTOFF (R107). -/
def Obligations.TimersCountAndFloatIsSupervised : Prop :=
  (∀ s : State, s.held = false →
     let less (o : Option Nat) : Option Nat := o.map (fun n => n - 1)
     ∃ t : State, exec .timeStampTick s = .next t ∧
       (∀ st, t.link st = { s.link st with silence := less (s.link st).silence }) ∧ t.amu = { s.amu with runTimer := less s.amu.runTimer } ∧
       t.cev = { s.cev with staleness := less s.cev.staleness } ∧ t.ost = { s.ost with discrepancy := less s.ost.discrepancy } ∧
       (∀ i, tget t.isc.analog i = (tget s.isc.analog i).map (fun a => { a with recovery := less a.recovery })) ∧
       t.isc.field = s.isc.field ∧ t.isc.feedback = s.isc.feedback ∧
       (∀ i y, s.lock? i = some y → t.lock? i = some { y with conflict := less y.conflict }) ∧
       (∀ i y, s.axis? i = some y → t.axis? i = some y) ∧
       (∀ i, tget t.hpa.pumps i = (tget s.hpa.pumps i).map (fun q => { q with start := less q.start, runDown := less q.runDown })) ∧
       t.hpa.requests = s.hpa.requests.map (fun r => { r with wait := r.wait - 1 }) ∧ t.hpa.grants = s.hpa.grants ∧
       t.hpa.idle = less s.hpa.idle ∧ t.hpa.arrival = s.hpa.arrival ∧
       (∀ m, t.ldu? m = (s.ldu? m).map (fun g =>
         { g with members := g.members.map (fun x => { x with travel := less x.travel, back := less x.back }) })) ∧
       (∀ m, t.adu? m = (s.adu? m).map (fun a =>
         { a with travel := less a.travel, settle := less a.settle, stall := a.stall.map (fun w => { w with left := w.left - 1 }) })) ∧
       (∀ i, tget t.adu.floats i = (tget s.adu.floats i).map (fun f => { f with liftTimer := less f.liftTimer })) ∧
       t.osq.context = s.osq.context.map (fun x =>
         { x with inFlight := x.inFlight.map (fun n => if n.state = .active then { n with remaining := less n.remaining } else n) }) ∧
       t.osq.jog = s.osq.jog.map (fun j => { j with timer := less j.timer }) ∧ t.osq.nextMotion = s.osq.nextMotion) ∧
  (∀ (k : Nat) (s : State), s.Ready →
     ((∀ n c w l, s.inFlight[k]? = some n → n.step.kind = .wait c w l → n.state ≠ .active ∨ n.remaining = none) →
       exec (.waitStepExpiry k) s = .next s) ∧
     (∀ x n c w l, s.osq.context = some x → x.state = .running → x.causes = [] → x.inFlight[k]? = some n →
       n.step.kind = .wait c w l → n.state = .active → n.remaining ≠ none →
       let reversible := n.step.onFail = .reverse ∧ x.reversed = none ∧ ∃ r d, s.reverseOf x = some (r, d) ∧ s.amu.mode ∈ d.modes
       (¬ reversible →
         ∃ e : State, exec (.waitStepExpiry k) s = .next (finish e) ∧
           (∃ y, e.osq.context = some y ∧ y.state = .holding ∧ y.causes = [{ kind := .stepFailed, subject := .step n.ref }] ∧
             y.inFlight[k]? = some { n with state := .failed, cause := some .waitExpired, remaining := none, due := false } ∧
             (∀ i, i ∈ y.inFlight → i.state ≠ .active) ∧ y.pointer = x.pointer ∧ y.stack = x.stack) ∧
           e.osq.jog = s.osq.jog ∧ (finish e).fixed = s.fixed) ∧
       (reversible → ∀ r d, s.reverseOf x = some (r, d) →
         ∃ e : State, exec (.waitStepExpiry k) s = .next (finish e) ∧
           e.osq.context = some
             { op := r, name := d.name, origin := x.origin, state := .running, reversed := some x.op, stack := [],
               pointer := { list := d.list, index := 0 }, inFlight := [], causes := [], start := s.aeu.stamp } ∧
           e.osq.jog = s.osq.jog ∧ e.aeu.newest = some (.reversed r x.op) ∧ e.todo.getLast? = some .issue ∧
           (finish e).fixed = s.fixed))) ∧
  (∀ s : State, s.Ready →
     (∀ k, (∀ n time, s.inFlight[k]? = some n → n.step.kind = .pause time → n.state ≠ .active ∨ n.remaining = none) →
       exec (.pauseExpiry k) s = .next s) ∧
     (∀ k x n time, s.osq.context = some x → x.inFlight[k]? = some n → n.step.kind = .pause time → n.state = .active → n.remaining ≠ none →
       n.motion = none →
       exec (.pauseExpiry k) s = .next
         (finish (emit .issue { s with osq := { s.osq with context := some { x with inFlight := x.inFlight.eraseIdx k } } }))) ∧
     (∀ i, (∀ f, tget s.adu.floats i = some f → f.liftTimer = none) → exec (.liftOffTimerExpiry i) s = .next s) ∧
     (∀ i f, tget s.adu.floats i = some f → f.liftTimer ≠ none →
       ∃ t : State, exec (.liftOffTimerExpiry i) s = .next t ∧
         tget t.adu.floats i = some { f with liftTimer := none, liftRaised := true } ∧
         (∀ k, k ≠ i → tget t.adu.floats k = tget s.adu.floats k) ∧ t.adu.motions = s.adu.motions ∧ t.aeu.Raised .rampLiftoff i ∧
         t = { s with adu := t.adu, aeu := t.aeu, ost := { s.ost with general := t.ost.general, sea := t.ost.sea } })) ∧
  (∀ (i : Nat) (s : State),
     (s.reservedBy i ≠ none → s.floatEntry i = none) ∧
     (s.reservedBy i = none → s.floats i = true → s.floatEntry i = some s) ∧
     (∀ d w y, s.reservedBy i = none → s.floats i = false → s.layout.axis? i = some d → d.float = some w → s.axis? i = some y →
       ∃ t f c, s.floatEntry i = some t ∧ t.axis? i = some { y with drive := .float, fault := c } ∧ (y.fault ≠ none → c = y.fault) ∧
         ((∀ b ∈ s.ost.banks, b.stuck = false) → c = y.fault) ∧
         (∀ o ∈ t.ost.props, o.owner = some i → o.command = 0) ∧
         ((∀ c, s.ost.coils[w.coil]? = some c → c.owner = some i) → t.coilDemanded w.coil true) ∧
         (∀ k, k ≠ i → tget t.adu.floats k = tget s.adu.floats k) ∧ t.adu.motions = s.adu.motions ∧ t.hpa = s.hpa ∧ t.ldu = s.ldu ∧
         t.osq = s.osq ∧ t.fixed = s.fixed ∧ tget t.adu.floats i = some f ∧ f.liftRaised = false ∧
         (f.limitRaised = true ↔ ∃ p, y.p = some p ∧ (p < w.low ∨ w.high < p)) ∧
         f.liftTimer = (match d.tip, y.tip with
           | some q, some load => if load < q.liftOff then some 20 else none
           | _, _ => none)) ∧
     (s.aeu.AlarmsOk → s.floats i = true →
       let t := s.floatEnd i
       t.floats i = false ∧ (∀ k, k ≠ i → tget t.adu.floats k = tget s.adu.floats k) ∧ t.adu.motions = s.adu.motions ∧
         t.aeu.Cleared .floatLimit i ∧ t.aeu.Cleared .rampLiftoff i ∧ t.pmn = s.pmn ∧ t.hpa = s.hpa ∧ t.osq = s.osq ∧ t.todo = s.todo ∧
         ∀ d w, s.layout.axis? i = some d → d.float = some w →
           (∀ c, s.ost.coils[w.coil]? = some c → c.owner = some i) → t.coilDemanded w.coil false) ∧
     (∀ d f, s.layout.axis? i = some d → tget s.adu.floats i = some f → s.aeu.AlarmsOk →
       let puts (t : State) (g : FloatRec) : Prop := t.adu = { s.adu with floats := tput s.adu.floats i g }
       (let t := s.floatLimit i
        (s.position i = none → t = s) ∧
        (∀ w p, d.float = some w → s.position i = some p →
          let outside := p < w.low ∨ w.high < p
          let clear := if w.high < w.low + 20 then w.low ≤ p ∧ p ≤ w.high else w.low + 10 ≤ p ∧ p + 10 ≤ w.high
          (f.limitRaised = false → outside → puts t { f with limitRaised := true } ∧ t.aeu.Raised .floatLimit i) ∧
          (f.limitRaised = true → clear → puts t { f with limitRaised := false } ∧ t.aeu.Cleared .floatLimit i) ∧
          (f.limitRaised = false → ¬ outside → t = s) ∧ (f.limitRaised = true → ¬ clear → t = s))) ∧
       (let t := s.floatLift i
        let tip := (s.axis? i).bind (fun y => y.tip)
        (d.tip = none → t = s) ∧
        (∀ q, d.tip = some q →
          (tip = none → puts t { f with liftTimer := none } ∧ t.aeu = s.aeu) ∧
          (∀ load, tip = some load → load < q.liftOff →
            (f.liftTimer = none → f.liftRaised = false → puts t { f with liftTimer := some 20 } ∧ t.aeu = s.aeu) ∧
            (f.liftTimer ≠ none ∨ f.liftRaised = true → t = s)) ∧
          (∀ load, tip = some load → q.liftOff ≤ load → puts t { f with liftTimer := none, liftRaised := false } ∧
            (f.liftRaised = true → t.aeu.Cleared .rampLiftoff i) ∧ (f.liftRaised = false → t.aeu = s.aeu))))))

/-- On its grant a lock jog energizes its coil, and an axis jog ends the float, takes drive state DRIVING and makes its first check; the duration timer starts with the first grant, and an
ended jog releases the grant (R67, R138, R139, R140). A revocation switches the outputs off and returns the phase to WAITING_FLOW, and a jogged lock that reaches its target ends COMPLETED
(R68, R139, R140). JOG_DURATION_EXPIRY ends a jog whose timer runs with EXPIRED, whatever time is left, the model's choice (assumption 1). JOG_AXIS_CHECK of a driving axis jog ends it without a position, at its end zone or beyond the overtravel
band ahead, and otherwise drives v_min out of its direction's output with the other at 0. In every other case neither changes anything (R139, R140, R141). That an ended jog's record holds no granted flow and no remaining time is the
model's choice too (assumption 28). -/
def Obligations.JogTimersEndOrDrive : Prop :=
  ∀ s : State, s.Ready →
    ((∀ j, s.osq.jog = some j → j.phase = .ended ∨ j.timer = none) → exec .jogDurationExpiry s = .next s) ∧
    (∀ j, s.osq.jog = some j → j.phase ≠ .ended → j.timer ≠ none →
      ∃ e : State, exec .jogDurationExpiry s = .next (finish e) ∧ s.JogEnded e j .expired) ∧
    ((∀ j dir, s.osq.jog = some j → j.dir = .axis dir → j.phase ≠ .driving ∨ s.layout.axis? j.point = none) →
      exec .jogAxisCheck s = .next s) ∧
    (∀ j dir d, s.osq.jog = some j → j.dir = .axis dir → j.phase = .driving → s.layout.axis? j.point = some d →
      (s.position j.point = none → ∃ e : State, exec .jogAxisCheck s = .next (finish e) ∧ s.JogEnded e j .positionLost) ∧
      (s.position j.point ≠ none →
        let there := ∃ y, s.axis? j.point = some y ∧ y.zone = match dir with
          | .opening => .openEnd
          | .closing => .closedEnd
        let beyond := ∃ u ∈ s.unclampedAll d, match dir with
          | .opening => u > d.travel + 50
          | .closing => u < -50
        (there → ∃ e : State, exec .jogAxisCheck s = .next (finish e) ∧ s.JogEnded e j .completed) ∧
        (¬ there → beyond → ∃ e : State, exec .jogAxisCheck s = .next (finish e) ∧ s.JogEnded e j .overtravel) ∧
        (¬ there → ¬ beyond →
          ∃ t : State, exec .jogAxisCheck s = .next t ∧
            (d.openOut ≠ d.closeOut → s.reservedBy j.point = some 7 → s.ost.estop ≠ .active →
              (∀ q, s.ost.props[d.out dir]? = some q → q.owner = some j.point → q.state = .active → d.vMin ≤ 1000 →
                t.ost.props[d.out dir]? = some { q with command := d.vMin }) ∧
              (∀ q, s.ost.props[d.out dir.opposite]? = some q → q.owner = some j.point →
                t.ost.props[d.out dir.opposite]? = some { q with command := 0 })) ∧
            (∀ o, o ≠ d.openOut → o ≠ d.closeOut → t.ost.props[o]? = s.ost.props[o]?) ∧
            t = { s with ost := { s.ost with props := t.ost.props } }))) ∧
    (∀ j q, s.osq.jog = some j → s.hpa.grantOf 7 = some q →
      let t := runTask (.granted 7) s
      let driving := { s.osq with jog := some { j with phase := .driving, granted := some q.flow, timer := some (j.timer.getD j.duration) } }
      (j.phase = .ended → t.hpa.grantOf 7 = none ∧ .pass ∈ t.todo ∧ t.osq = s.osq ∧ t.ost = s.ost ∧ t.pmn = s.pmn) ∧
      (∀ dir d, j.phase ≠ .ended → j.dir = .lock dir → s.layout.lock? j.point = some d →
        t.osq = driving ∧ t.hpa = s.hpa ∧ t.ldu = s.ldu ∧ t.adu = s.adu ∧ t.fixed = s.fixed ∧
          (∀ o, o ≠ d.coil dir → t.ost.coils[o]? = s.ost.coils[o]?) ∧
          (s.reservedBy j.point = some 7 → (∀ c, s.ost.coils[d.coil dir]? = some c → c.owner = some j.point) →
            t.coilDemanded (d.coil dir) true)) ∧
      (∀ dir y, j.phase ≠ .ended → j.dir = .axis dir → s.axis? j.point = some y →
        ∃ e : State, t = e.jogCheck ∧ e.osq = driving ∧ e.floats j.point = false ∧ e.axis? j.point = some { y with drive := .driving } ∧
          e.hpa = s.hpa ∧ e.ldu = s.ldu ∧ e.adu.motions = s.adu.motions ∧ e.todo = s.todo ∧ e.fixed = s.fixed)) ∧
    (∀ j, s.osq.jog = some j → j.phase = .driving →
      let t := runTask (.revoked 7) s
      t.osq = { s.osq with jog := some { j with phase := .waitingFlow, granted := none } } ∧ t.hpa = s.hpa ∧ t.fixed = s.fixed ∧
        (∀ p, t.reservedBy p = s.reservedBy p) ∧
        (∀ dir d, j.dir = .lock dir → s.layout.lock? j.point = some d → s.reservedBy j.point = some 7 →
          (∀ c, s.ost.coils[d.coil dir]? = some c → c.owner = some j.point) → t.coilDemanded (d.coil dir) false) ∧
        (∀ dir, j.dir = .axis dir → (∀ o ∈ t.ost.props, o.owner = some j.point → o.command = 0) ∧
          ∀ y, t.axis? j.point = some y → y.drive = if s.floats j.point = true then .float else .idle)) ∧
    (∀ j dir, s.osq.jog = some j → j.phase ≠ .ended → j.dir = .lock dir → s.reservedBy j.point = some 7 → s.confirmed j.point = dir.target →
      s.JogEnded (runTask (.lockMoved j.point) s) j .completed)

/-! ### The layout store -/

/-- LAYOUT_OPEN: its refusals in the order of R184; an accepted one opens a buffer of the region, owned by the station, with a copy of the active layout, and makes the commit
state IDLE. LAYOUT_DISCARD drops the owner's buffer, is answered OK with no buffer open, and refuses any other station (R184). LAYOUT_COMMIT: its refusals in the order of R186, a failed check named by its number and its subject; an accepted one closes the buffer, makes its content the pending layout,
erases the valid marker and begins WRITING (R186). Which record is the subject, and its one byte in the reply, are the model's choice (assumptions 10, 21). -/
def Obligations.LayoutBufferAnswers : Prop :=
  (∀ (st : Station) (run : Bool) (s : State), s.Ready → s.busyPeriod = false →
     (∀ code, 2 ≤ code → exec (.layoutOpen st run code) s = .next (s.answered st run 0x30 .badValue)) ∧
     (∀ code r, regionOf code = some r →
       (s.amu.holder ≠ holderOf st → exec (.layoutOpen st run code) s = .next (s.answered st run 0x30 .refusedAuthority)) ∧
       (s.amu.holder = holderOf st →
         (s.lst.buffer ≠ none → exec (.layoutOpen st run code) s = .next (s.answered st run 0x30 .busy)) ∧
         (s.lst.buffer = none →
           let wrongMode := (r = .tuning ∧ s.amu.mode = .sea) ∨ (r = .struct ∧ s.amu.mode ≠ .maintenance)
           let moving := r = .tuning ∧ (s.contextLive = true ∨ s.jogActive = true)
           (s.lst.phase = .unconfigured → r = .tuning → exec (.layoutOpen st run code) s = .next (s.answered st run 0x30 .refusedState)) ∧
           (s.lst.phase ≠ .unconfigured ∨ r = .struct →
             (wrongMode → exec (.layoutOpen st run code) s = .next (s.answered st run 0x30 .refusedMode)) ∧
             (¬ wrongMode → moving → exec (.layoutOpen st run code) s = .next (s.answered st run 0x30 .busy)) ∧
             (¬ wrongMode → ¬ moving →
               exec (.layoutOpen st run code) s = .next
                 ({ s.takeRun st run with
                     lst := { s.lst with
                       buffer := some { region := r, owner := st, content := s.lst.active.getD {}, cursor := none }, commit := .idle } }.setReply
                   st 0xB0 .ok [])))))) ∧
     (s.lst.buffer = none → exec (.layoutDiscard st run) s = .next (s.answered st run 0x32 .ok)) ∧
     (∀ b, s.lst.buffer = some b →
       (b.owner = st → exec (.layoutDiscard st run) s = .next
         ({ s.takeRun st run with lst := { s.lst with buffer := none } }.setReply st 0xB2 .ok [])) ∧
       (b.owner ≠ st → exec (.layoutDiscard st run) s = .next (s.answered st run 0x32 .refusedAuthority)))) ∧
  (∀ (st : Station) (run : Bool) (s : State), s.Ready → s.busyPeriod = false →
     (s.lst.buffer = none → exec (.layoutCommit st run) s = .next (s.answered st run 0x31 .refusedState)) ∧
     (∀ b, s.lst.buffer = some b →
       (b.owner ≠ st → exec (.layoutCommit st run) s = .next (s.answered st run 0x31 .refusedAuthority)) ∧
       (b.owner = st →
         (b.region = .tuning → s.contextLive = true ∨ s.jogActive = true →
           exec (.layoutCommit st run) s = .next (s.answered st run 0x31 .busy)) ∧
         (b.region = .struct ∨ (s.contextLive = false ∧ s.jogActive = false) →
           (∀ n subj, firstFailure b.content = some (n, subj) →
             1 ≤ n ∧ n ≤ 12 ∧ exec (.layoutCommit st run) s = .next (s.answered st run 0x31 .refusedState (b2 n ++ b1 subj))) ∧
           (firstFailure b.content = none →
             exec (.layoutCommit st run) s = .next
               ({ s.takeRun st run with
                   lst := { s.lst with
                     commit := .writing, buffer := none, pendingLayout := some (b.region, b.content),
                     stored := { s.lst.stored with marker := false } } }.setReply st 0xB1 .ok []))))))

/-- What a layout that passes the twelve checks of R186 holds, check by check (R4 to R7, R36, R39, R48, R110, R159), and that a layout in order which holds it fails none; that a sensor input which
the header also assigns is used twice is the model's inference (assumption 9). LAYOUT_WRITE_END: the pending layout is stored with its marker and
check word and becomes active, the commit state is DONE and LAYOUT_COMMITTED is recorded. A TUNING commit keeps the tag and everything that moves. A STRUCTURE commit computes the tag,
makes authority NONE, makes a live operation ABORTED with OPERATION_ENDED, keeping its pointer, stack and causes, cancels the jog with AUTHORITY_LOST, and takes points, pumps, inputs and output owners from the new layout; an output that changes its owner goes off; every
assigned discrete input is rescanned with its class (R18, R20, R38), an analog input assigned before keeps what it holds (R21), and every condition and the closure are computed (R37; c1 and c2 alone
at a TUNING commit). The first commit of an UNCONFIGURED part also makes it CONFIGURED in HARBOUR with MODE_CHANGED recorded, takes STARTUP from every bank and awaits the first scan. A terminal context with no entry in flight, as every step keeps it
(StepKeepsContextConsistent), stays as it is (R126). With nothing being written nothing changes (R17, R71, R153, R186, R188). What the tag covers, the absent
positions of the axes and the bytes of the check word are as assumptions 11, 12 and 22 say, and the ended jog's record as assumption 28 says; the record of an axis that stays in FLOAT is handed to ADU (R8). -/
def Obligations.CommittedLayoutIsConsistentAndActive : Prop :=
  (∀ l : Layout, firstFailure l = none → LayoutConsistent l) ∧
  (∀ l : Layout, LayoutSorted l → LayoutConsistent l → firstFailure l = none) ∧
  (∀ s : State, s.Ready →
    (s.lst.commit ≠ .writing ∨ s.lst.pendingLayout = none → exec .layoutWriteEnd s = .next s) ∧
    (∀ l, s.lst.commit = .writing → s.lst.pendingLayout = some (.tuning, l) →
      ∃ e : State, exec .layoutWriteEnd s = .next (finish e) ∧
        (finish e).lst = { s.lst with
          stored := { marker := true, image := l, check := crc32 (imageBytes l) }, active := some l, commit := .done, pendingLayout := none } ∧
        (∃ r ∈ e.aeu.events, r.event = .layoutCommitted .tuning s.lst.tag) ∧ (finish e).amu = s.amu ∧ (finish e).isc = s.isc ∧
        e.pmn = s.pmn ∧ e.ldu = s.ldu ∧ e.adu = s.adu ∧ e.osq = s.osq ∧ e.hpa = s.hpa ∧ e.ost.coils = s.ost.coils ∧
        (s.cev.started = true → s.cev.conds.length = 32 →
          let now := { s with lst := (finish e).lst }
          e.cond 1 = now.evalCond 1 ∧ e.cond 2 = now.evalCond 2 ∧ ∀ i, i ≠ 1 → i ≠ 2 → e.cond i = s.cond i) ∧
        (s.tune.travelPromotion ≠ l.tune.travelPromotion → e.todo.getLast? = some .pass)) ∧
    (∀ l, s.lst.commit = .writing → s.lst.pendingLayout = some (.struct, l) →
      ∃ e : State, exec .layoutWriteEnd s = .next (finish e) ∧
        (finish e).lst.stored = { marker := true, image := l, check := crc32 (imageBytes l) } ∧ (finish e).lst.active = some l ∧
        (finish e).lst.tag = tagOf l ∧ (finish e).lst.commit = .done ∧ (finish e).lst.pendingLayout = none ∧ tagOf l ≠ 0 ∧
        (∃ r ∈ e.aeu.events, r.event = .layoutCommitted .struct (tagOf l)) ∧
        (finish e).lst.phase = (if s.lst.phase = .unconfigured then .configured else s.lst.phase) ∧
        (finish e).amu.holder = .none ∧ (finish e).amu.mode = (if s.lst.phase = .unconfigured then .harbour else s.amu.mode) ∧
        (∀ x, e.osq.context = some x → x.state = .complete ∨ x.state = .aborted) ∧
        (s.contextLive = false → s.osq.ContextOk → e.osq.context = s.osq.context) ∧
        (∀ x, s.osq.context = some x → x.state = .running ∨ x.state = .holding →
          e.osq.context = some { x with state := .aborted, inFlight := [] } ∧
          (∀ n ∈ x.inFlight, ∀ m, n.motion = some m → e.ldu? m = none ∧ e.adu? m = none) ∧
          ∃ es : List Event, e.aeu.events = newestRecords (s.aeu.events ++ s.aeu.dated (.operationEnded x.op false :: es))) ∧
        (∀ j, e.osq.jog = some j → j.phase = .ended) ∧ e.osq.jog = s.osq.jog.map (Jog.ended .authorityLost) ∧
        (∀ i, e.floats i = true → Task.floatRecord i ∈ e.todo) ∧
        (∀ i, tget l.points i = none → tget e.pmn.points i = none) ∧
        (∀ i d, tget l.points i = some (.lock d) →
          tget e.pmn.points i = some (.lock { confirmed := .between, conflict := none, fault := none, reserved := none })) ∧
        (∀ i d ws, tget l.points i = some (.axis d ws) → ∃ y, tget e.pmn.points i = some (.axis y) ∧ y.posA = none ∧ y.posB = none ∧
          y.p = none ∧ y.zone = .unknown ∧ y.skew = none ∧ y.degraded = false ∧ y.tip = none ∧ y.fault = none ∧ y.reserved = none ∧
          y.drive = if e.floats i then .float else .idle) ∧
        (∀ i, (tget e.hpa.pumps i).map (fun q => (q.capacity, q.startTime)) = (tget l.pumps i).map (fun q => (q.capacity, q.startTime))) ∧
        e.hpa.Within ∧ (∀ c ∈ e.ost.coils, c.state.latched = false) ∧ (∀ p ∈ e.ost.props, p.state = .active) ∧
        e.ost.OwnersFrom l ∧
        (∀ (i : Nat) (c c' : Coil), s.ost.coils[i]? = some c → e.ost.coils[i]? = some c' → c.owner ≠ c'.owner → c'.demand = false ∧ c'.state = .off) ∧
        (∀ (i : Nat) (p p' : PropOut), s.ost.props[i]? = some p → e.ost.props[i]? = some p' → p.owner ≠ p'.owner → p'.command = 0) ∧
        (let asked (k : Nat) : Prop := ∃ h, l.header = some h ∧ (h.deckClear = some k ∨ h.linkspan = some k)
         let senses (k : Nat) : Prop := ∃ x ∈ l.points, k ∈ sensorsOf x.2
         let reads (k : Nat) : Prop := ∃ x ∈ l.points, k ∈ analogsOf x.2
         let isc := (finish e).isc
         (∀ k, asked k → tget isc.field k = some { cls := .general, debounced := s.debounced k, count := 0, rescan := true }) ∧
         (∀ k, senses k → ¬ asked k → tget isc.field k = some { cls := .sensor, debounced := s.debounced k, count := 0, rescan := true }) ∧
         (∀ k, ¬ senses k → ¬ asked k → tget isc.field k = none) ∧
         (∀ k, tget isc.feedback k = (tget l.pumps k).map (fun _ =>
           { cls := .feedback, debounced := (tget s.isc.feedback k).any (fun d => d.debounced), count := 0, rescan := true })) ∧
         (∀ k, reads k → tget isc.analog k =
           some ((tget s.isc.analog k).getD { samples := [], filtered := none, health := none, recovery := none })) ∧
         (∀ k, ¬ reads k → tget isc.analog k = none) ∧
         isc.scanPending = if s.lst.phase = .unconfigured then true else s.isc.scanPending) ∧
        (s.cev.started = true → s.cev.conds.length = 32 →
          let now := { s with lst := (finish e).lst }
          e.cond 1 = now.evalCond 1 ∧ e.cond 2 = now.evalCond 2 ∧ (∀ i < 32, i ≠ 1 → i ≠ 2 → e.cond i = e.evalCond i) ∧
            e.cev.closure = e.closureNow) ∧
        (∀ b < 6, e.ost.banks[b]? = s.ost.banks[b]?.map (fun k =>
          { k with stuck := false, startup := if s.lst.phase = .unconfigured then false else k.startup })) ∧
        (s.lst.phase = .unconfigured → ∃ r ∈ e.aeu.events, r.event = .modeChanged .harbour s.amu.mode)))

/-- The PUT records of a whole record and the two of the TUNING region: answered in the order of R185, and an accepted one stores its record in the buffer and changes nothing
else; a present record replaces what its index held, an absent one makes it absent (R183, R185). A TUNING buffer admits a PUT_POINT exactly when it is present, the buffer holds a present
record of its kind, and every field outside the TUNING region equals that record's (R183, R185). Each field is checked against its own range as the record arrives (R9): R2 and R4 to R6
for points, R10 for groups, R39 for conditions, R48 for permissive entries, R109 for operations, R54 for pumps, R154 for the header, R18, R41 and R58 for the tuning, R110 for steps, R7 for windows; a record with a named value outside its list does not fit. That a float coil
outside 40 to 47, and a travel window, float window or tip load outside its own range, are BAD_VALUE on arrival is the model's choice (assumption 10). That PUT_POINT
keeps the travel windows of its index and that an empty condition is out of range is the model's choice (assumption 23); so are a repeated member of a set (assumption 21) and the
printable characters (assumption 29). -/
def Obligations.PutRecordsStore : Prop :=
  (∀ (c : Instr) (st : Station) (run : Bool) (k : Nat) (admits : EditBuffer → Bool) (fits : Bool) (f : Layout → Layout) (s : State),
    s.Ready → s.busyPeriod = false →
    ((∃ h, c = .putHeader st run h ∧ k = 0x40 ∧ admits = (fun _ => false) ∧ fits = h.any headerInRange ∧ f = fun l => { l with header := h }) ∨
      (∃ t, c = .putTuning st run t ∧ k = 0x4A ∧ admits = (fun _ => true) ∧ fits = tuningInRange t ∧ f = fun l => { l with tuning := some t }) ∨
      (∃ i r, c = .putPump st run i r ∧ k = 0x41 ∧ admits = (fun _ => false) ∧ fits = (decide (i ≤ 2) && r.fits pumpInRange) ∧
        f = fun l => { l with pumps := tset l.pumps i r.record }) ∨
      (∃ i r, c = .putPoint st run i r ∧ k = 0x42 ∧ admits = pointAdmitted i r ∧ fits = (decide (i ≤ 47) && r.fits bodyInRange) ∧
        f = fun l => { l with points := tset l.points i (r.record.map (fun b => match b with
          | .lock d => .lock d
          | .axis d => .axis d (l.windows i))) }) ∨
      (∃ i r, c = .putGroup st run i r ∧ k = 0x44 ∧ admits = (fun _ => false) ∧ fits = (decide (i ≤ 11) && r.fits groupInRange) ∧
        f = fun l => { l with groups := tset l.groups i r.record }) ∨
      (∃ i r, c = .putCondition st run i r ∧ k = 0x45 ∧ admits = (fun _ => false) ∧
        fits = (decide (8 ≤ i) && decide (i ≤ 31) && r.fits conditionInRange) ∧ f = fun l => { l with conditions := tset l.conditions i r.record }) ∨
      (∃ i r, c = .putPermissive st run i r ∧ k = 0x46 ∧ admits = (fun _ => false) ∧ fits = (decide (i ≤ 63) && r.fits permInRange) ∧
        f = fun l => { l with permissives := tset l.permissives i r.record }) ∨
      (∃ i r, c = .putOperation st run i r ∧ k = 0x47 ∧ admits = (fun _ => false) ∧ fits = (decide (i ≤ 15) && r.fits opInRange) ∧
        f = fun l => { l with operations := tset l.operations i r.record })) →
    (s.lst.buffer = none → exec c s = .next (s.answered st run k .refusedState)) ∧
    (∀ b, s.lst.buffer = some b →
      (b.owner ≠ st → exec c s = .next (s.answered st run k .refusedAuthority)) ∧
      (b.owner = st →
        (b.region = .tuning → admits b = false → exec c s = .next (s.answered st run k .refusedState)) ∧
        (b.region = .struct ∨ admits b = true →
          (fits = false → exec c s = .next (s.answered st run k .badValue)) ∧
          (fits = true → exec c s = .next
            ({ s.takeRun st run with lst := { s.lst with buffer := some { b with content := f b.content } } }.setReply
              st (BitVec.ofNat 8 (k + 128)) .ok [])))))) ∧
  (let within (lo hi x : Nat) : Prop := lo ≤ x ∧ x ≤ hi
   let given (input : Option Nat) : Prop := ∀ n, input = some n → within 0 95 n
   (∀ h, headerInRange h = true ↔ within 0 31 h.visorCond ∧ within 0 31 h.innerCond ∧ given h.deckClear ∧ given h.linkspan) ∧
   (∀ p, pumpInRange p = true ↔ within 20 400 p.capacity ∧ within 10 150 p.startTime) ∧
   (∀ d, bodyInRange (.lock d) = true ↔
     within 0 95 d.engagedIn ∧ within 0 95 d.retractedIn ∧ within 0 47 d.engageCoil ∧ within 0 47 d.retractCoil ∧ within 1 60 d.flow ∧
       within 10 300 d.travelLimit) ∧
   (let transducer (t : Transducer) : Prop := within 0 11 t.input ∧ within 0 4095 t.closedCount ∧ within 0 4095 t.openCount
    ∀ d, bodyInRange (.axis d) = true ↔
      transducer d.transA ∧ (∀ t, d.transB = some t → transducer t) ∧ within 100 1200 d.travel ∧ within 2 50 d.endBand ∧
        within 5 100 d.skewLimit ∧ within 0 7 d.openOut ∧ within 0 7 d.closeOut ∧ within 10 400 d.qFull ∧ within 50 300 d.vMin ∧
        within 100 1000 d.vOpen ∧ within 100 1000 d.vClose ∧ within 10 200 d.approach ∧ within 2 20 d.inPos ∧ within 1 20 d.settle ∧
        within 1 20 d.stallDelta ∧ within 5 50 d.stallWindow ∧ within 50 1800 d.limitOpen ∧ within 50 1800 d.limitClose ∧
        (∀ f, d.float = some f → within 40 47 f.coil ∧ within 0 1200 f.low ∧ within 0 1200 f.high) ∧
        (∀ t, d.tip = some t →
          within 0 11 t.input ∧ within 10 5000 t.fullScale ∧ within 1 t.fullScale t.landing ∧ within 0 t.fullScale t.liftOff)) ∧
   (∀ g, groupInRange g = true ↔
     within 1 8 g.members.length ∧ (∀ p ∈ g.members, p ≤ 47) ∧ within 0 7 g.retryLimit ∧ within 3 30 g.backOff) ∧
   (∀ ts, conditionInRange ts = true ↔ ts ≠ [] ∧
     ∀ t ∈ ts, t.point ≤ 47 ∧ (∀ x, t.req = .atLeast x → x ≤ 1200) ∧ (∀ x, t.req = .atMost x → x ≤ 1200)) ∧
   (∀ e, permInRange e = true ↔
     (∀ g d, e.subject = .group g d → g ≤ 11) ∧ (∀ p d, e.subject = .axis p d → p ≤ 47) ∧ (∀ c ∈ e.require, c ≤ 31) ∧
       (∀ c ∈ e.forbid, c ≤ 31) ∧ e.require.Nodup ∧ e.forbid.Nodup) ∧
   (∀ d, opInRange d = true ↔
     within 1 8 d.name.length ∧ (∀ b ∈ d.name, within 0x20 0x7E b.toNat) ∧ d.modes ≠ [] ∧ d.modes.Nodup ∧ d.list ≤ 31 ∧
       ∀ r, d.reverse = some r → r ≤ 15) ∧
   (∀ t, tuningInRange t = true ↔
     within 0 7 t.travelPromotion ∧ within 50 1200 t.flowWait ∧ within 100 6000 t.idleTime ∧ within 5 100 t.heelLimit ∧
       within 5 100 t.pitchLimit ∧ within 1 20 t.attitudeHyst ∧ within 50 400 t.windLimit ∧ within 1 20 t.windHyst ∧
       within 10 500 t.debSensor ∧ within 10 500 t.debGeneral ∧ within 10 500 t.debFeedback) ∧
   (∀ x, stepInRange x = true ↔ match x.kind with
     | .driveGroup g _ => g ≤ 11
     | .moveAxis p target _ => p ≤ 47 ∧ ∀ n, target = .position n → n ≤ 1200
     | .floatAxis p => p ≤ 47
     | .wait c _ limit => c ≤ 31 ∧ limit ≤ 6000
     | .pause time => within 1 600 time
     | .call i => i ≤ 31) ∧
   (∀ w, windowInRange w = true ↔ w.start ≤ 1200 ∧ within 1 1200 w.range ∧ w.level ≤ 3)) ∧
  (∀ (i : Nat) (r : Given PointBody) (b : EditBuffer), pointAdmitted i r b = true ↔
    (∃ d was, r = .present (.lock d) ∧ tget b.content.points i = some (.lock was) ∧ d = { was with travelLimit := d.travelLimit }) ∨
    (∃ d was ws, r = .present (.axis d) ∧ tget b.content.points i = some (.axis was ws) ∧
      d = { was with
        qFull := d.qFull, vMin := d.vMin, vOpen := d.vOpen, vClose := d.vClose, approach := d.approach, inPos := d.inPos
        settle := d.settle, stallDelta := d.stallDelta, stallWindow := d.stallWindow, limitOpen := d.limitOpen, limitClose := d.limitClose }))

/-- PUT_WINDOW, LIST_BEGIN and PUT_STEP: with no buffer open the answer is REFUSED_STATE, on another station's buffer REFUSED_AUTHORITY (R185, checks 1 and 2). On the owner's buffer a window is appended at the length of its axis's list, replaces one below it, or is removed; LIST_BEGIN empties or removes a list
and sets the append cursor; PUT_STEP stores at the cursor and advances it, up to 32 steps (R7, R185). The answers of PUT_WINDOW for an axis that is none and for an absent window at the length, and that PUT_STEP's answers
for an absent cursor and a full list come before the range check of its fields, are the model's choice (assumption 23). -/
def Obligations.WindowsAndStepsAreWrittenInPieces : Prop :=
  (∀ (c : Instr) (st : Station) (run : Bool) (k : Nat) (s : State), s.Ready → s.busyPeriod = false →
    ((∃ i position r, c = .putWindow st run i position r ∧ k = 0x43) ∨ (∃ i present, c = .listBegin st run i present ∧ k = 0x48) ∨
      (∃ x, c = .putStep st run x ∧ k = 0x49)) →
    (s.lst.buffer = none → exec c s = .next (s.answered st run k .refusedState)) ∧
    (∀ b, s.lst.buffer = some b → b.owner ≠ st → exec c s = .next (s.answered st run k .refusedAuthority))) ∧
  (∀ (st : Station) (run : Bool) (s : State) (b : EditBuffer), s.Ready → s.busyPeriod = false → s.lst.buffer = some b → b.owner = st →
    let stores (c : Instr) (k : Byte) (b' : EditBuffer) : Prop :=
      exec c s = .next ({ s.takeRun st run with lst := { s.lst with buffer := some b' } }.setReply st k .ok [])
    let points (i : Nat) (d : AxisDef) (ws : List Window) : EditBuffer :=
      { b with content := { b.content with points := tput b.content.points i (.axis d ws) } }
    (∀ i d ws position, tget b.content.points i = some (.axis d ws) →
      (∀ w, windowInRange w = true → position ≤ 3 →
        (position = ws.length → stores (.putWindow st run i position (.present w)) 0xC3 (points i d (ws ++ [w]))) ∧
        (position < ws.length → stores (.putWindow st run i position (.present w)) 0xC3 (points i d (ws.set position w)))) ∧
      (position ≤ 3 → position < ws.length → stores (.putWindow st run i position .absent) 0xC3 (points i d (ws.eraseIdx position))) ∧
      (∀ r, r.fits windowInRange = false ∨ 3 < position ∨ ws.length < position ∨ (r = .absent ∧ ws.length = position) →
        exec (.putWindow st run i position r) s = .next (s.answered st run 0x43 .badValue))) ∧
    (∀ i position r, b.content.axis? i = none → exec (.putWindow st run i position r) s = .next (s.answered st run 0x43 .badValue)) ∧
    (b.region = .tuning → (∀ i present, exec (.listBegin st run i present) s = .next (s.answered st run 0x48 .refusedState)) ∧
      ∀ x, exec (.putStep st run x) s = .next (s.answered st run 0x49 .refusedState)) ∧
    (b.region = .struct →
      (∀ i present,
        (32 ≤ i ∨ present = none → exec (.listBegin st run i present) s = .next (s.answered st run 0x48 .badValue)) ∧
        (i < 32 → ∀ p, present = some p → stores (.listBegin st run i present) 0xC8
          { b with
            content := { b.content with lists := tset b.content.lists i (if p then some [] else none) }
            cursor := if p then some (i, 0) else none })) ∧
      (∀ x, b.cursor = none → exec (.putStep st run x) s = .next (s.answered st run 0x49 .refusedState)) ∧
      (∀ x i n, b.cursor = some (i, n) →
        (32 ≤ n → exec (.putStep st run x) s = .next (s.answered st run 0x49 .full)) ∧
        (n < 32 →
          (x.all stepInRange = false ∨ x = none → exec (.putStep st run x) s = .next (s.answered st run 0x49 .badValue)) ∧
          (∀ y, x = some y → stepInRange y = true → stores (.putStep st run x) 0xC9
            { b with
              content := { b.content with lists := tput b.content.lists i ((tget b.content.lists i).getD [] ++ [y]) }
              cursor := some (i, n + 1) })))))

/-! ### Reports -/

/-- The GET records report the record that the requester's own buffer holds, else the active layout's, in the form of R185, or NOT_FOUND; they need no authority and change
nothing but hold-to-run and the reply (R180, R185). The one-byte window position and step index, and the form of a set, are the model's choice (assumption 21). -/
def Obligations.GetRecordsReport : Prop :=
  ∀ (c : Instr) (st : Station) (run : Bool) (k : Nat) (fields : Layout → Option (List Byte)) (s : State), s.Ready → s.busyPeriod = false →
    ((c = .getHeader st run ∧ k = 0x50 ∧ fields = fun l => l.header.map putHeaderRec) ∨
      (c = .getTuning st run ∧ k = 0x5A ∧ fields = fun l => l.tuning.map putTuningRec) ∨
      (∃ i, c = .getPump st run i ∧ k = 0x51 ∧ fields = fun l => (tget l.pumps i).map (fun a => b1 i ++ bFlag true ++ putPumpRec a)) ∨
      (∃ i, c = .getPoint st run i ∧ k = 0x52 ∧ fields = fun l => (tget l.points i).map (fun a => b1 i ++ bFlag true ++ putBody a.body)) ∨
      (∃ i n, c = .getWindow st run i n ∧ k = 0x53 ∧
        fields = fun l => (l.windows i)[n]?.map (fun w => b1 i ++ b1 n ++ bFlag true ++ putWindowRec w)) ∨
      (∃ i, c = .getGroup st run i ∧ k = 0x54 ∧ fields = fun l => (tget l.groups i).map (fun a => b1 i ++ bFlag true ++ putGroupRec a)) ∨
      (∃ i, c = .getCondition st run i ∧ k = 0x55 ∧
        fields = fun l => (tget l.conditions i).map (fun a => b1 i ++ bFlag true ++ putConditionRec a)) ∨
      (∃ i, c = .getPermissive st run i ∧ k = 0x56 ∧ fields = fun l => (tget l.permissives i).map (fun a => b1 i ++ bFlag true ++ putPermRec a)) ∨
      (∃ i, c = .getOperation st run i ∧ k = 0x57 ∧ fields = fun l => (tget l.operations i).map (fun a => b1 i ++ bFlag true ++ putOpRec a)) ∨
      (∃ i, c = .getListBegin st run i ∧ k = 0x58 ∧ fields = fun l => (tget l.lists i).map (fun _ => b1 i ++ bFlag true)) ∨
      (∃ i n, c = .getStep st run i n ∧ k = 0x59 ∧
        fields = fun l => (((tget l.lists i).getD [])[n]?).map (fun x => b1 i ++ b1 n ++ putStepRec x))) →
    let view := match s.lst.buffer with
      | some b => if b.owner = st then b.content else s.lst.active.getD {}
      | none => s.lst.active.getD {}
    (fields view = none → exec c s = .next (s.answered st run k .notFound)) ∧
    (∀ bytes, fields view = some bytes → exec c s = .next (s.answered st run k .ok bytes))

/-- STATUS and the READ_ records are answered in every phase from either station, report the state as it stands with hold-to-run taken first, field by field in the order of R181,
R16, R52, R125, R70 and R166, and change nothing else; READ_POINT of an absent point is answered NOT_FOUND. READ_OPERATION leaves out the in-flight entries that would pass the body
limit and counts them (12.5). Without a tuning record READ_PUMPS takes the next free value for K, the model's choice (assumption 5); the byte forms that R176 leaves open, that
the wait of the step at the pointer is worked out when the record is handled, and that it is nothing in a terminal context, are the model's choice too (assumptions 21, 33). -/
def Obligations.ReadRecordsReport : Prop :=
  ∀ (st : Station) (run : Bool) (s : State), s.Ready →
    (let now := s.takeRun st run
     let closure := b1 (closedCode s.cev.closure.visor) ++ b1 (closedCode s.cev.closure.inner) ++ b1 (closedCode s.cev.closure.overall)
     let ref (r : StepRef) : List Byte := b1 r.list ++ b1 r.index
     exec (.status st run) s = .next (s.answered st run 0x01 .ok
       (b1 (partPhaseCode s.lst.phase) ++ b4 s.lst.tag ++ b1 (commitCode s.lst.commit) ++
         bOpt (fun b : EditBuffer => b1 (regionCode b.region) ++ b1 (stationCode b.owner)) s.lst.buffer ++
         b1 (Mode.code s.amu.mode) ++ b1 (holderCode s.amu.holder) ++ bFlag s.amu.consent ++ bFlag now.amu.runTimer.isSome ++
         b1 (estopCode s.ost.estop) ++ bFlag s.ost.latch ++ closure ++
         (match s.osq.context with
           | some x => b1 (opStateCode x.state) ++ bOpt b1 (some x.op) ++ b2 x.causes.length
           | none => b1 0 ++ bOpt b1 none ++ b2 0) ++
         bFlag s.jogActive ++ b2 s.aeu.alarms.length ++ bFlag (s.aeu.alarms.any (fun x => x.state != .ackActive)) ++ bFlag s.aeu.overflow ++
         b4 s.aeu.nextSerial ++ b4 (s.link st).cursor ++ bFlag (!s.sli.bridge.active) ++ bFlag (!s.sli.stand.active) ++ b4 s.aeu.stamp)) ∧
     exec (.readConditions st run) s = .next (s.answered st run 0x21 .ok
       ((List.range 32).flatMap (fun i =>
           b1 (triCode (s.cond i)) ++ b1 (if i < 8 then 0 else if (tget s.layout.conditions i).isSome then 1 else 2)) ++
         bOpt bInt (s.cev.vessel.map (fun v => v.heel)) ++ bOpt bInt (s.cev.vessel.map (fun v => v.pitch)) ++
         bOpt b2 (s.cev.vessel.map (fun v => v.wind)) ++ b1 (freshnessCode s.cev.freshness) ++ bOpt b2 s.cev.staleness ++
         bFlag s.amu.consent ++ closure)) ∧
     (let jog (j : Jog) : List Byte :=
        b1 j.point ++
          (match j.dir with
            | .lock d => b1 0 ++ b1 (lockDirCode d)
            | .axis d => b1 1 ++ b1 (axisDirCode d)) ++
          b1 (stationCode j.station) ++ b1 (phaseCode j.phase) ++ b2 j.duration ++ bOpt b2 j.timer ++ bOpt b2 j.granted ++
          bOpt (fun c => b1 (jogEndCode c)) j.cause
      let tail := b1 s.osq.nextMotion ++ bOpt jog s.osq.jog
      (s.osq.context = none → exec (.readOperation st run) s = .next (s.answered st run 0x22 .ok (b1 0 ++ tail))) ∧
      (∀ x, s.osq.context = some x →
        let member (y : Member) : List Byte := b1 y.point ++ b1 (memberCode y.state) ++ bOpt b2 y.travel ++ bOpt b2 y.back ++ b2 y.retries
        let record (m : Nat) : List Byte := match s.ldu? m, s.adu? m with
          | some g, _ =>
            b1 (groupStateCode g.state) ++ bOpt (fun h => b1 (haltCode h)) g.halt ++ bOpt (fun c => b1 (groupCauseCode c)) g.cause ++
              bOpt b2 g.granted ++ bList member g.members
          | none, some a =>
            b1 (moveStateCode a.state) ++ bOpt (fun h => b1 (haltCode h)) a.halt ++ bOpt (fun c => b1 (moveCauseCode c)) a.cause ++
              bOpt b2 a.granted
          | none, none => []
        let entry (n : Entry) : List Byte :=
          ref n.ref ++ b1 (stepKindCode n.step.kind) ++ b1 (entryCode n.state) ++ bOpt (fun c => b1 (stepCauseCode n.step.kind c)) n.cause ++
            bOpt b2 n.remaining ++ bOpt (fun m => b1 m ++ record m) n.motion
        let waits : Nat := match ((tget s.layout.lists x.pointer.list).getD [])[x.pointer.index]? with
          | none => 3
          | some z =>
            if x.state = .complete ∨ x.state = .aborted then 3
            else if z.join = .afterAll ∧ x.inFlight.length ≠ 0 then 0
            else if s.satisfied z.kind = true then 3
            else if z.kind.needsRoom = true ∧ 6 ≤ x.inFlight.length then 1
            else if ∃ p ∈ s.pointsWanted z.kind, (s.reservedBy p).isSome = true then 2
            else 3
        let cause (c : HoldCause) : List Byte := b1 (causeKindCode c.kind) ++ match c.subject with
          | .station a => b1 (stationCode a)
          | .condition a => b1 a
          | .step r => ref r
          | .holder h => b1 (holderCode h)
          | .nothing => []
          | .point i => b1 i
        let head := b1 x.op ++ bList (fun c => [c]) x.name ++ b1 (stationCode x.origin) ++ b1 (opStateCode x.state) ++ bOpt b1 x.reversed ++
          b4 x.start ++ bList ref x.stack ++ ref x.pointer ++ b1 waits ++ bList cause x.causes
        ∃ shown left : List Entry, shown ++ left = x.inFlight ∧
          exec (.readOperation st run) s =
            .next (s.answered st run 0x22 .ok (head ++ bList entry shown ++ b2 left.length ++ tail)) ∧
          (let room := 1 + head.length + 1 + 2 + tail.length + (shown.flatMap entry).length
           (shown ≠ [] → room ≤ 240) ∧ ∀ n rest, left = n :: rest → 240 < room + (entry n).length))) ∧
     (∀ i, tget s.layout.points i = none → exec (.readPoint st run i) s = .next (s.answered st run 0x20 .notFound)) ∧
     (∀ i d y, tget s.layout.points i = some (.lock d) → tget s.pmn.points i = some (.lock y) →
       exec (.readPoint st run i) s = .next (s.answered st run 0x20 .ok
         (putBody (.lock d) ++ (b1 (confirmedCode y.confirmed) ++ bOpt b2 y.conflict ++ bOpt (fun c => b1 (faultCodeCode c)) y.fault ++ bOpt b1 y.reserved)))) ∧
     (∀ i d ws y, tget s.layout.points i = some (.axis d ws) → tget s.pmn.points i = some (.axis y) →
       let b (f : List Byte) : List Byte := if d.transB.isSome then f else []
       exec (.readPoint st run i) s = .next (s.answered st run 0x20 .ok
         (putBody (.axis d) ++ bList putWindowRec ws ++
           (bOpt b2 y.posA ++ b (bOpt b2 y.posB) ++ bFlag (!y.healthyA) ++ b (bFlag (!y.healthyB)) ++ bOpt b2 y.p ++ b1 (zoneCode y.zone) ++
             bOpt bInt y.skew ++ bFlag y.degraded ++ bOpt b2 y.tip ++ bOpt (fun c => b1 (faultCodeCode c)) y.fault ++ b1 (driveCode y.drive) ++
             bOpt b1 y.reserved)))) ∧
     (∀ n, exec (.readAlarms st run n) s = .next (s.answered st run 0x24 .ok
       (b2 s.aeu.alarms.length ++ bFlag s.aeu.overflow ++ bFlag s.aeu.general ++ bFlag s.aeu.sea ++
         bList (fun x => b1 (alarmKindCode x.kind) ++ b1 x.subject ++ b1 (alarmStateCode x.state) ++ b4 x.stamp)
           ((s.aeu.alarms.drop n).take 8)))) ∧
     (let pump (p : Pump) : List Byte :=
        b2 p.capacity ++ b2 p.startTime ++ b1 (pumpStateCode p.state) ++ bOpt (fun c => b1 (pumpCauseCode c)) p.cause ++ bFlag p.feedback ++
          bOpt b2 (p.start.or p.runDown)
      let fields (K : Nat) : List Byte :=
        [0, 1, 2].flatMap (fun i => bOpt pump (tget s.hpa.pumps i)) ++
          b2 ((s.hpa.pumps.filter (fun e => e.2.state == .running)).map (fun e => e.2.capacity)).sum ++
          b2 (s.hpa.grants.map (fun g => g.flow)).sum ++ b2 K ++ bOpt b2 s.hpa.idle ++
          bList (fun r => b1 r.motion ++ b1 (classCode r.cls) ++ b2 r.requested ++ b2 r.minimum ++ b4 r.stamp ++ b2 r.passed ++ b2 r.wait)
            s.hpa.requests ++
          bList (fun g => b1 g.motion ++ b1 (classCode g.cls) ++ b2 g.flow ++ b4 g.stamp) s.hpa.grants
      (∀ t, s.layout.tuning = some t →
        exec (.readPumps st run) s = .next (s.answered st run 0x23 .ok (fields t.travelPromotion))) ∧
      (s.layout.tuning = none →
        exec (.readPumps st run) s =
          .next ({ s with free := s.free + 1 }.answered st run 0x23 .ok (fields (Config.travelPromotionUnset s.free).toNat)))))

/-! ### Alarms, events, grants -/

/-- A raise acts on the pair's entry as the table of R164 says, with its event; OVERFLOW is set by a lost raise and clears at the first removal that leaves 24 entries or fewer (R164). -/
def Obligations.AlarmRaiseFollowsItsTable : Prop :=
  ∀ (k : AlarmKind) (subj : Nat) (a : Aeu), a.AlarmsOk →
    let new : Alarm := { kind := k, subject := subj, state := .unackActive, stamp := a.stamp }
    let b := a.raise k subj
    ((∀ x ∈ a.alarms, ¬ (x.kind = k ∧ x.subject = subj)) →
      (a.alarms.length < 32 →
        b.alarms = a.alarms ++ [new] ∧ b.overflow = a.overflow ∧ b.newest = some (.alarmRaised k subj .entered)) ∧
      (∀ before x after, a.alarms = before ++ x :: after → a.alarms.length = 32 → (∀ y ∈ before, y.state = .unackActive) →
        x.state ≠ .unackActive →
          b.alarms = before ++ after ++ [new] ∧ b.overflow = a.overflow ∧ b.newest = some (.alarmRaised k subj .displaced)) ∧
      (a.alarms.length = 32 → (∀ y ∈ a.alarms, y.state = .unackActive) →
        b.alarms = a.alarms ∧ b.overflow = true ∧ b.newest = some (.alarmRaised k subj .lost))) ∧
    (∀ before x after, a.alarms = before ++ x :: after → x.kind = k → x.subject = subj →
      (x.state = .unackCleared →
        b.alarms = before ++ new :: after ∧ b.overflow = a.overflow ∧ b.newest = some (.alarmRaised k subj .reactivated)) ∧
      (x.state ≠ .unackCleared → b = a)) ∧
    ((a.clear k subj).overflow =
      if (a.clear k subj).alarms.length < a.alarms.length then a.overflow && decide (24 < (a.clear k subj).alarms.length) else a.overflow) ∧
    (∀ sel what st, (a.ack sel what st).overflow =
      if (a.ack sel what st).alarms.length < a.alarms.length then a.overflow && decide (24 < (a.ack sel what st).alarms.length) else a.overflow) ∧
    b.AlarmsOk

/-- What a clear leaves of the pair's entry, and ACK_ALARM: its answers in the order of R165; an accepted one acknowledges the entries named in list order and, when
at least one changed, adds one event to the list as R168 adds it and records nothing else (R165); nothing else of AEU changes but OVERFLOW and the GENERAL demand. -/
def Obligations.AckAlarmAcknowledges : Prop :=
  (∀ (k : AlarmKind) (subj : Nat) (a : Aeu) (before after : List Alarm) (x : Alarm), a.AlarmsOk → a.alarms = before ++ x :: after →
    x.kind = k → x.subject = subj →
      (a.clear k subj).alarms = (match x.state with
        | .unackActive => before ++ { x with state := .unackCleared } :: after
        | .ackActive => before ++ after
        | .unackCleared => a.alarms) ∧ (a.clear k subj).events = a.events) ∧
  (∀ (st : Station) (run : Bool) (s : State), s.Ready → s.lst.phase ≠ .unconfigured →
    (∀ code subj, 13 ≤ code → exec (.ackAlarm st run (.pair code subj)) s = .next (s.answered st run 0x25 .badValue)) ∧
    (∀ code k subj, alarmKindOf code = some k → (∀ x ∈ s.aeu.alarms, ¬ (x.kind = k ∧ x.subject = subj)) →
      exec (.ackAlarm st run (.pair code subj)) s = .next (s.answered st run 0x25 .notFound)) ∧
    (∀ (what : AckWhat) (named : Alarm → Bool) (subject : Option (AlarmKind × Nat)),
      (what = .all ∧ named = (fun _ => true) ∧ subject = none) ∨
        (∃ code k subj, what = .pair code subj ∧ alarmKindOf code = some k ∧ (∃ x ∈ s.aeu.alarms, x.kind = k ∧ x.subject = subj) ∧
          named = (fun x => x.kind == k && x.subject == subj) ∧ subject = some (k, subj)) →
      ∃ t : State, exec (.ackAlarm st run what) s = .next (t.setReply st 0xA5 .ok []) ∧
        t.aeu.alarms = s.aeu.alarms.filterMap (fun x =>
          if named x then
            match x.state with
            | .unackActive => some { x with state := .ackActive }
            | .unackCleared => none
            | .ackActive => some x
          else some x) ∧
        (let left (a : Aeu) : Aeu := { a with alarms := t.aeu.alarms, overflow := t.aeu.overflow, general := t.aeu.general }
         ((∃ x ∈ s.aeu.alarms, named x = true ∧ x.state ≠ .ackActive) →
           t.aeu.newest = some (.alarmAcked subject st) ∧ t.aeu = left (s.aeu.record (.alarmAcked subject st))) ∧
         ((∀ x ∈ s.aeu.alarms, named x = true → x.state = .ackActive) →
           t.aeu.events = s.aeu.events ∧ t.aeu = left s.aeu ∧ t.aeu.alarms = s.aeu.alarms ∧ t.aeu.overflow = s.aeu.overflow)) ∧
        t = { s.takeRun st run with aeu := t.aeu, ost := { s.ost with general := t.aeu.general, sea := t.aeu.sea } }))

/-- An event becomes one record with the next serial and the present stamp, and the oldest of 128 records is lost; SEEK_EVENTS sets the station's cursor, and READ_EVENTS returns up to 8 records from
it and advances it past them, from the oldest retained record and marked SKIPPED where it stands behind (R168, R169, R170). -/
def Obligations.EventListAndCursors : Prop :=
  (∀ (e : Event) (a : Aeu), a.EventsOk →
    let r : EventRec := { serial := a.nextSerial, stamp := a.stamp, event := e }
    (a.record e).events = (if a.events.length < 128 then a.events else a.events.tail) ++ [r] ∧ (a.record e).nextSerial = a.nextSerial + 1 ∧
      (a.record e).EventsOk) ∧
  (∀ (st : Station) (run : Bool) (s : State), s.Ready → s.aeu.EventsOk →
    let set (c : Word32) : State := (s.takeRun st run).modLink st (fun l => { l with cursor := c })
    let oldest := s.aeu.nextSerial - BitVec.ofNat 32 s.aeu.events.length
    (s.lst.phase ≠ .unconfigured →
      (∀ n, exec (.seekEvents st run 0 n) s = .next ((set oldest).setReply st 0xA6 .ok (b4 oldest))) ∧
      (∀ n,
        (s.aeu.events.length ≤ min n 127 → exec (.seekEvents st run 1 n) s = .next ((set oldest).setReply st 0xA6 .ok (b4 oldest))) ∧
        (min n 127 < s.aeu.events.length →
          let c := s.aeu.nextSerial - 1 - BitVec.ofNat 32 (min n 127)
          exec (.seekEvents st run 1 n) s = .next ((set c).setReply st 0xA6 .ok (b4 c)))) ∧
      (∀ choice n, 2 ≤ choice → exec (.seekEvents st run choice n) s = .next (s.answered st run 0x26 .badValue))) ∧
    (let distance := (s.aeu.nextSerial - (s.link st).cursor).toNat
     let count := s.aeu.events.length
     (distance ≤ count →
       let rs := (s.aeu.events.drop (count - distance)).take 8
       exec (.readEvents st run) s = .next ((set ((s.link st).cursor + BitVec.ofNat 32 rs.length)).setReply st 0xA7 .ok
         (bFlag false ++ b4 0 ++ bList putEventRec rs))) ∧
     (count < distance →
       let rs := s.aeu.events.take 8
       exec (.readEvents st run) s = .next ((set (oldest + BitVec.ofNat 32 rs.length)).setReply st 0xA7 .ok
         (bFlag true ++ b4 (BitVec.ofNat 32 (distance - count)) ++ bList putEventRec rs)))))

/-- The walk order takes promoted TRAVEL entries, then LOCKING, then other TRAVEL entries, each in the order of the list (R64, R65). A grant pass takes the entries in that order up to
the first it cannot grant: a LOCKING entry gets its requested flow, a TRAVEL entry the smaller of its requested flow and the free flow at its turn; each LOCKING grant raises the
passed-over count of every TRAVEL entry left, and the allocation stays within the capacity (R63, R64, R65). At its end HPA starts the lowest-numbered eligible pump where the start
decision of R66 asks for it. A request takes the present value of the arrival counter, which is 0 while list and grants are empty (R61). A capacity drop reduces TRAVEL grants to their
minimum, youngest first, and then revokes grants, youngest first, until the allocation is within the capacity; a revoked request re-enters the list by its first stamp (R68). -/
def Obligations.GrantPassServesInWalkOrder : Prop :=
  (∀ (K : Nat) (rs : List Request), (walkOrder K rs).Perm rs ∧
    ∃ a b c, walkOrder K rs = a ++ b ++ c ∧ a.Sublist rs ∧ b.Sublist rs ∧ c.Sublist rs ∧
      (∀ r ∈ a, r.cls = .travel ∧ K ≠ 0 ∧ K ≤ r.passed) ∧ (∀ r ∈ b, r.cls = .locking) ∧
      (∀ r ∈ c, r.cls = .travel ∧ (K = 0 ∨ r.passed < K))) ∧
  (∀ (rs : List Request) (h : Hpa), h.Within → (rs.map (fun r => r.motion)).Nodup → (∀ r ∈ rs, ∀ g ∈ h.grants, g.motion ≠ r.motion) →
    let x := passGo rs h
    let n := x.2.1.length
    x.1.Within ∧ x.1.pumps = h.pumps ∧ x.2.1 = (rs.take n).map (fun r => r.motion) ∧ x.2.2 = rs[n]? ∧
      (∀ r, x.2.2 = some r → x.1.freeFlow < match r.cls with
        | .locking => r.requested
        | .travel => r.minimum) ∧
      (∃ flows : List Nat, flows.length = n ∧ ∀ (k : Nat) (r : Request), k < n → rs[k]? = some r →
        let free := h.freeFlow - (flows.take k).sum
        ∃ g, x.1.grantOf r.motion = some g ∧ g.cls = r.cls ∧ g.stamp = r.stamp ∧ g.requested = r.requested ∧ g.minimum = r.minimum ∧
          flows[k]? = some g.flow ∧
          match r.cls with
          | .locking => r.requested ≤ free ∧ g.flow = r.requested
          | .travel => r.minimum ≤ free ∧ g.flow = min r.requested free) ∧
      (∀ g ∈ h.grants, g ∈ x.1.grants) ∧
      ((∀ r ∈ h.requests, r.passed ≤ 255) →
        let lockings := ((rs.take n).filter (fun r => r.cls == .locking)).length
        x.1.requests = (h.requests.filter (fun r => !x.2.1.contains r.motion)).map (fun r =>
          if r.cls = .travel then { r with passed := min (r.passed + lockings) 255 } else r))) ∧
  (∀ s : State, s.hpa.Within → tsorted s.hpa.pumps = true →
    let x := passGo (walkOrder s.tune.travelPromotion s.hpa.requests) s.hpa
    let t := s.grantPass
    let eligible (i : Nat) (q : Pump) : Prop := tget s.hpa.pumps i = some q ∧ q.state = .stopped ∧ q.runDown = none
    t.hpa.grants = x.1.grants ∧ t.hpa.requests = x.1.requests ∧ (∀ m ∈ x.2.1, Task.granted m ∈ t.todo) ∧
      (∀ r i q, x.2.2 = some r → s.ost.estop = .clear → (∀ e ∈ s.hpa.pumps, e.2.state ≠ .starting) → eligible i q →
        (∀ k p, k < i → ¬ eligible k p) →
          (x.1.capacity < x.1.allocation + r.requested →
            tget t.hpa.pumps i = some { q with state := .starting, cause := none, start := some q.startTime, runDown := none } ∧
              (∀ k, k ≠ i → tget t.hpa.pumps k = tget s.hpa.pumps k) ∧ (i < s.ost.contactors.length → t.contactorOn i = true)) ∧
          (x.1.allocation + r.requested ≤ x.1.capacity → t.hpa.pumps = s.hpa.pumps)) ∧
      (x.2.2 = none ∨ s.ost.estop ≠ .clear ∨ (∃ e ∈ s.hpa.pumps, e.2.state = .starting) ∨ (∀ i q, ¬ eligible i q) →
        t.hpa.pumps = s.hpa.pumps)) ∧
  (∀ (m : Nat) (cls : FlowClass) (requested minimum : Nat) (s : State),
    let t := s.request m cls requested minimum
    t.hpa.requests = s.hpa.requests ++ [{ motion := m, cls := cls, requested := requested, minimum := minimum, stamp := s.hpa.arrival
                                          passed := 0, wait := s.tune.flowWait }] ∧
      t.hpa.arrival = s.hpa.arrival + 1 ∧ t.hpa.grants = s.hpa.grants ∧ t.todo = s.todo ++ [.pass] ∧
      (s.hpa.entryOf m ≠ none ∨ s.hpa.grantOf m ≠ none →
        let u := s.giveUpFlow m
        u.hpa.entryOf m = none ∧ u.hpa.grantOf m = none ∧ (u.hpa.requests = [] → u.hpa.grants = [] → u.hpa.arrival = 0))) ∧
  (∀ (wait : Nat) (h : Hpa),
    let d := h.drop wait
    let down (g : Grant) : Grant := if g.cls = .travel ∧ g.minimum < g.flow then { g with flow := g.minimum } else g
    let young := h.grants.reverse
    let stage (i : Nat) : List Grant := (young.take i).map down ++ young.drop i
    let total (gs : List Grant) : Nat := (gs.map (fun g => g.flow)).sum
    let again (g : Grant) : Request :=
      { motion := g.motion, cls := g.cls, requested := g.requested, minimum := g.minimum, stamp := g.stamp, passed := 0, wait := wait }
    ∃ i k, i ≤ young.length ∧ (∀ j, j < i → h.capacity < total (stage j)) ∧ (i < young.length → total (stage i) ≤ h.capacity) ∧
      k ≤ (stage i).length ∧ (∀ j, j < k → h.capacity < total ((stage i).drop j)) ∧ total ((stage i).drop k) ≤ h.capacity ∧
      d.1.grants = ((stage i).drop k).reverse ∧ d.1.pumps = h.pumps ∧
      (∀ r, r ∈ d.1.requests ↔ r ∈ h.requests ∨ ∃ g ∈ (stage i).take k, r = again g) ∧
      (h.requests.Pairwise (fun a b => a.stamp.toNat ≤ b.stamp.toNat) → d.1.requests.Pairwise (fun a b => a.stamp.toNat ≤ b.stamp.toNat)) ∧
      d.2.2 = ((stage i).take k).map (fun g => g.motion) ∧
      (∀ g ∈ young.take i, down g ≠ g → down g ∈ (stage i).drop k → g.motion ∈ d.2.1)) ∧
  (∀ s : State, let d := s.hpa.drop s.tune.flowWait
    s.capacityDrop.hpa.grants = d.1.grants ∧ s.capacityDrop.hpa.requests = d.1.requests ∧
      s.capacityDrop.todo = s.todo ++ d.2.1.map Task.reduced ++ d.2.2.map Task.revoked)

/-- The handover of a grant. LDU: a waiting motion drives, its members energized as one action with their timers at their limits; one halted for flow does so too, after its watched
entry is found satisfied; one that drives or settles already stands on its grant, and any other releases it (R67, R75, R84). ADU: float ends, the move becomes DRIVING with its travel timer and stall window started, and the first control
interval follows, or RUN_RELEASED where hold-to-run does not run (R92, R101). A member whose confirmed state changes arrives, its coil going off, is driven again when it leaves the target, or fails in
CONFLICT, and under either policy the motion ends once no member moves (R76, R78, R79, R80, R82, R83). A point fault fails the member or the move, and under a hold a newly recorded
one is given to OSQ as POINT_FAULT (R81, R98, R131). A revocation halts a motion for want of flow, a withdrawal of its flow halts it as a hold does, and a reduction lowers its granted
flow (R68, R69, R84, R101). A halted motion re-issued evaluates its members, or its target, afresh, and ends or sends a first arrival; a move whose axis
has no position fails with AXIS_FAULTED (R84, R91, R102). That under STOP_GROUP the first bad member alone fails and is listed is the model's choice (assumption 31). -/
def Obligations.UnitsDriveOnTheirGrants : Prop :=
  (∀ (m : Nat) (g : GroupMotion) (s : State), m ≠ 7 → s.ldu? m = some g →
    let energized (t : State) (p : Nat) (dir : LockDir) : Prop := ∀ d, s.layout.lock? p = some d → s.reservedBy p = some m →
      (∀ c, s.ost.coils[d.coil dir]? = some c → c.owner = some p) → t.coilDemanded (d.coil dir) true
    let failedOf (h : GroupMotion) := (h.members.filter (fun x => x.state == .failed)).map (fun x => x.point)
    let idle (h : GroupMotion) : Prop := ∀ x ∈ h.members, x.state ≠ .driving ∧ x.state ≠ .backingOff
    let goesOn (t : State) (h : GroupMotion) : Prop :=
      (¬ idle h → t.ldu? m = some h) ∧
      (idle h → failedOf h = [] → s.GroupEnded t m .done none []) ∧
      (idle h → failedOf h ≠ [] → s.GroupEnded t m .failed h.firstCause (failedOf h))
    let quiet (t : State) (p : Nat) (dir : LockDir) : Prop := ∀ d, s.layout.lock? p = some d →
      (∀ c, s.ost.coils[d.coil dir]? = some c → c.owner = some p) → t.coilDemanded (d.coil dir) false
    let failing (t : State) (p : Nat) (code : FaultCode) : Prop :=
      s.LockOff t m p ∧ (g.policy = .stopGroup → s.GroupEnded t m .failed (some (.point code)) [p]) ∧
        (g.policy = .carryOn → goesOn t
          { g.modMember p (fun y => { y with state := .failed, travel := none, back := none }) with
            firstCause := some (g.firstCause.getD (.point code)) })
    let waits := g.state = .waitingFlow ∨ (g.state = .halted ∧ g.halt = some .noFlow)
    (∀ q, s.hpa.grantOf m = some q →
      let t := runTask (.granted m) s
      let broken (c : Nat) : Prop := g.state = .halted ∧ g.watched.bind s.permissive = some c
      (waits → (∀ c, ¬ broken c) →
        t.ldu? m = some
            { g with
              state := .driving, halt := none, granted := some q.flow
              members := g.members.map (fun x =>
                if x.state = .driving then { x with travel := some x.limit }
                else if x.state = .backingOff then { x with back := some g.backOff } else x) } ∧
          (∀ x ∈ g.members, (x.state = .driving → energized t x.point g.dir) ∧ (x.state = .backingOff → energized t x.point g.dir.opposite)) ∧
          (∀ n, n ≠ m → t.ldu? n = s.ldu? n) ∧ t.adu = s.adu ∧ t.osq = s.osq ∧ t.hpa = s.hpa ∧ t.fixed = s.fixed) ∧
      (waits → ∀ c, broken c → t = emit (.cause { kind := .permissive, subject := .condition c }) s) ∧
      (g.state = .driving ∨ g.state = .settling → t = s) ∧
      (¬ waits → g.state ≠ .driving → g.state ≠ .settling →
        t.hpa.grantOf m = none ∧ .pass ∈ t.todo ∧ t.ldu = s.ldu ∧ t.ost = s.ost ∧ t.pmn = s.pmn)) ∧
    (∀ (p : Nat) (x : Member), s.reservedBy p = some m → g.member? p = some x → g.state = .driving ∨ waits →
      let t := runTask (.lockMoved p) s
      let home := s.confirmed p = g.dir.target
      (s.confirmed p = .conflict → x.state ≠ .failed →
        t.faultOf p = some ((s.faultOf p).getD .sensorConflict) ∧ failing t p .sensorConflict) ∧
      (home → x.state = .driving ∨ x.state = .backingOff →
        quiet t p (if x.state = .driving then g.dir else g.dir.opposite) ∧ goesOn t (g.modMember p (fun y => { y with state := .done, travel := none, back := none }))) ∧
      (¬ home → s.confirmed p ≠ .conflict → x.state = .done →
        t.ldu? m = some (g.modMember p (fun y =>
          { y with state := .driving, travel := if g.state = .driving then some y.limit else none })) ∧
        (g.state = .driving → energized t p g.dir)) ∧
      (s.confirmed p ≠ .conflict → (home ∧ x.state = .done) ∨ (¬ home ∧ x.state ≠ .done) ∨ x.state = .failed → t = s)) ∧
    (∀ (p : Nat) (x : Member) (code : FaultCode) (fresh : Bool), s.reservedBy p = some m → g.member? p = some x → s.adu? m = none →
      let t := runTask (.faulted p code fresh) s
      (g.state = .driving ∨ waits → x.state ≠ .failed → failing t p code) ∧
      (g.state = .driving ∨ waits → x.state = .failed → ¬ idle g → t = s) ∧
      (g.state = .halted → g.halt = some .hold →
        t = if fresh = true then emit (.cause { kind := .pointFault, subject := .point p }) s else s) ∧
      (g.state = .done ∨ g.state = .failed → t = s)) ∧
    (s.adu? m = none →
      let t := runTask (.withdrawn m) s
      (g.state = .driving ∨ waits →
        t.ldu? m = some { g with
            state := .halted, halt := some .hold, granted := none
            members := g.members.map (fun x => { x with travel := none, back := none }) } ∧
          (∀ x ∈ g.members, s.LockOff t m x.point) ∧ t.hpa.grantOf m = none ∧ t.hpa.entryOf m = none ∧
          (s.hpa.grantOf m = none → s.hpa.entryOf m = none → t.hpa = s.hpa ∧ t.todo = s.todo) ∧
          t.osq = s.osq ∧ t.fixed = s.fixed ∧ ∀ p, t.reservedBy p = s.reservedBy p) ∧
      (g.state ≠ .driving → ¬ waits → t = s)) ∧
    (g.state = .waitingFlow ∨ g.state = .driving →
      let t := runTask (.revoked m) s
      t.ldu? m = some { g with
          state := .halted, halt := some .noFlow, granted := none
          members := g.members.map (fun x => { x with travel := none, back := none }) } ∧
        (∀ x ∈ g.members, s.LockOff t m x.point) ∧ t.hpa = s.hpa ∧ t.osq = s.osq ∧ t.fixed = s.fixed ∧
        ∀ p, t.reservedBy p = s.reservedBy p) ∧
    (g.state = .halted → g.halt = some .hold → (g.members.map (fun x => x.point)).Nodup →
      let t := s.lduReissue m
      let bad := (g.members.filter (fun x => x.state != .failed && ((s.faultOf x.point).isSome || s.confirmed x.point == .conflict))).map
        (fun x => x.point)
      let again : GroupMotion :=
        { g with
          state := .waitingFlow, halt := none, watched := s.watchFor (.group g.group g.dir)
          members := g.members.map (fun x => { x with
            state :=
              if x.state = .failed then .failed
              else if s.confirmed x.point = g.dir.target then .done
              else if x.state = .backingOff then .backingOff else .driving }) }
      (bad = [] → goesOn t again ∧
        (¬ idle again → t.todo = s.todo ++ [.pass] ∧ t.pmn = s.pmn ∧ t.ost = s.ost ∧ t.hpa.requests = s.hpa.requests ++
          [{ motion := m, cls := .locking, requested := g.requested, minimum := g.requested, stamp := s.hpa.arrival, passed := 0
             wait := s.tune.flowWait }])) ∧
      (∀ p rest, bad = p :: rest → g.policy = .stopGroup →
        s.GroupEnded t m .failed (some (.point ((s.faultOf p).getD .sensorConflict))) [p]) ∧
      (g.policy = .carryOn → ∀ h, t.ldu? m = some h → ∀ x ∈ h.members, x.point ∈ bad → x.state = .failed))) ∧
  (∀ (m : Nat) (a : AxisMotion) (d : AxisDef) (y : AxisDyn) (p : Nat) (s : State), m ≠ 7 → s.ldu? m = none → s.adu? m = some a →
      s.layout.axis? a.axis = some d → s.axis? a.axis = some y → y.p = some p →
    let waits := a.state = .waitingFlow ∨ (a.state = .halted ∧ a.halt = some .noFlow)
    (∀ q, s.hpa.grantOf m = some q →
      let t := runTask (.granted m) s
      let broken (c : Nat) : Prop := a.state = .halted ∧ a.watched.bind s.permissive = some c
      (waits → (∀ c, ¬ broken c) →
        ∃ e : State,
          e.adu? m = some { a with
            state := .driving, halt := none, granted := some q.flow, travel := some (d.limit a.dir), settle := none
            stall := some { left := d.stallWindow, start := p } } ∧
          e.axis? a.axis = some { y with drive := .driving } ∧ e.floats a.axis = false ∧
          (∀ w, d.float = some w → s.floats a.axis = true → (∀ c, s.ost.coils[w.coil]? = some c → c.owner = some a.axis) →
            e.coilDemanded w.coil false) ∧
          e.ldu = s.ldu ∧ e.osq = s.osq ∧ e.hpa = s.hpa ∧ e.todo = s.todo ∧ e.fixed = s.fixed ∧
          (s.runAsserted = true → t = e.aduInterval m) ∧
          (s.runAsserted = false → t = emit (.cause { kind := .runReleased, subject := .holder s.amu.holder }) e)) ∧
      (waits → ∀ c, broken c → t = emit (.cause { kind := .permissive, subject := .condition c }) s) ∧
      (a.state = .driving ∨ a.state = .settling → t = s) ∧
      (¬ waits → a.state ≠ .driving → a.state ≠ .settling →
        t.hpa.grantOf m = none ∧ .pass ∈ t.todo ∧ t.adu = s.adu ∧ t.ost = s.ost ∧ t.pmn = s.pmn) ∧
      runTask (.reduced m) s = s.modAdu m (fun x => { x with granted := some q.flow })) ∧
    (let moves := waits ∨ a.state = .driving ∨ a.state = .settling
     (∀ (code : FaultCode) (fresh : Bool), s.reservedBy a.axis = some m →
       let t := runTask (.faulted a.axis code fresh) s
       (moves → s.MoveEnded t m a .failed (some (.point code))) ∧
       (a.state = .halted → a.halt = some .hold →
         t = if fresh = true then emit (.cause { kind := .pointFault, subject := .point a.axis }) s else s) ∧
       (a.state = .done ∨ a.state = .failed → t = s)) ∧
     (let t := runTask (.withdrawn m) s
      (moves →
        t.adu? m = some { a with
            state := .halted, halt := some .hold, granted := none, travel := none, stall := none, settle := none } ∧
          (∀ o ∈ t.ost.props, o.owner = some a.axis → o.command = 0) ∧ t.hpa.grantOf m = none ∧ t.hpa.entryOf m = none ∧
          (s.hpa.grantOf m = none → s.hpa.entryOf m = none → t.hpa = s.hpa ∧ t.todo = s.todo) ∧
          t.axis? a.axis = some (if waits then y else { y with drive := .halted }) ∧ t.osq = s.osq ∧ t.fixed = s.fixed ∧
          ∀ i, t.reservedBy i = s.reservedBy i) ∧
      (¬ moves → t = s))) ∧
    (a.state = .waitingFlow ∨ a.state = .driving ∨ a.state = .settling →
      let t := runTask (.revoked m) s
      t.adu? m = some { a with
          state := .halted, halt := some .noFlow, granted := none, travel := none, stall := none, settle := none } ∧
        (∀ o ∈ t.ost.props, o.owner = some a.axis → o.command = 0) ∧
        t.axis? a.axis = some (if a.state = .waitingFlow then y else { y with drive := .halted }) ∧
        t.hpa = s.hpa ∧ t.osq = s.osq ∧ t.fixed = s.fixed) ∧
    (a.state = .halted → a.halt = some .hold →
      let t := s.aduReissue m
      let there := distanceOf a.target p ≤ d.inPos ∧ (a.landing = true → s.landed a.axis = true)
      (there → s.MoveEnded t m a .done none) ∧
      (¬ there → s.faultOf a.axis ≠ none → s.MoveEnded t m a .failed (some .axisFaulted)) ∧
      (¬ there → s.faultOf a.axis = none → s.targetProtected a.axis a.target = true → s.MoveEnded t m a .failed (some .windowProtected)) ∧
      (¬ there → s.faultOf a.axis = none → s.targetProtected a.axis a.target = false →
        let dir := directionTo a.target p
        let requested := (d.base dir * d.qFull + 999) / 1000
        let minimum := (d.vMin * d.qFull + 999) / 1000
        t.adu? m = some { a with
            dir := dir, state := .waitingFlow, halt := none, requested := requested, minimum := minimum
            watched := s.watchFor (.axis a.axis dir) } ∧
          t.axis? a.axis = some { y with drive := if s.floats a.axis = true then .float else .idle } ∧
          t.hpa.requests = s.hpa.requests ++
            [{ motion := m, cls := .travel, requested := requested, minimum := minimum, stamp := s.hpa.arrival, passed := 0
               wait := s.tune.flowWait }] ∧
          t.todo = s.todo ++ [.pass] ∧ t.osq = s.osq ∧ t.fixed = s.fixed))) ∧
  (∀ (m : Nat) (a : AxisMotion) (s : State), m ≠ 7 → s.adu? m = some a → a.state = .halted → a.halt = some .hold → s.position a.axis = none →
    s.MoveEnded (s.aduReissue m) m a .failed (some .axisFaulted))

end
end

