-- ==== Sys2Proof/Laws/Aeu.lean ====
section
/-! SUPPORT. Laws/Aeu.lean: what each act of the Alarm and Event Unit leaves: that recording, raising, clearing and acknowledging keep the two lists
in order (R164, R165, R168). -/
namespace Sys2Proof.Machine

/-- The pair that names an entry. -/
def Alarm.pair (e : Alarm) : AlarmKind × Nat := (e.kind, e.subject)

theorem Alarm.is_iff (k : AlarmKind) (i : Nat) (e : Alarm) : Alarm.is k i e = true ↔ e.pair = (k, i) := by
  simp [Alarm.is, Alarm.pair]

theorem Aeu.alarmsOk_iff (a : Aeu) : a.AlarmsOk ↔ a.alarms.length ≤ Config.alarmMax ∧ (a.alarms.map Alarm.pair).Nodup := Iff.rfl

/-! ### Recording -/

@[simp] theorem Aeu.record_alarms (e : Event) (a : Aeu) : (a.record e).alarms = a.alarms := by simp only [Aeu.record]
@[simp] theorem Aeu.record_overflow (e : Event) (a : Aeu) : (a.record e).overflow = a.overflow := by simp only [Aeu.record]
@[simp] theorem Aeu.record_sea (e : Event) (a : Aeu) : (a.record e).sea = a.sea := by simp only [Aeu.record]
@[simp] theorem Aeu.record_nextSerial (e : Event) (a : Aeu) : (a.record e).nextSerial = a.nextSerial + 1 := by simp only [Aeu.record]
@[simp] theorem Aeu.record_newest (e : Event) (a : Aeu) : (a.record e).newest = some e := by simp [Aeu.record, Aeu.newest]

theorem Aeu.AlarmsOk.congr {a b : Aeu} (h : a.AlarmsOk) (e : b.alarms = a.alarms) : b.AlarmsOk := by
  rw [Aeu.AlarmsOk, e]; exact h

theorem Aeu.EventsOk.congr {a b : Aeu} (h : a.EventsOk) (e : b.events = a.events) (e2 : b.nextSerial = a.nextSerial) : b.EventsOk := by
  cases a; cases b; simp only at e e2; subst e; subst e2; exact h

/-- A recorded event becomes the newest of at most 128 records without a gap (R168). -/
theorem Aeu.EventsOk.record {a : Aeu} (h : a.EventsOk) (e : Event) : (a.record e).EventsOk := by
  obtain ⟨hl, hs⟩ := h
  simp only [Config.eventMax] at hl
  refine ⟨by simp only [Aeu.record, Config.eventMax, List.length_append, List.length_drop, List.length_singleton]; omega, ?_⟩
  intro k hk
  simp only [Aeu.record, Config.eventMax, List.length_append, List.length_drop, List.length_singleton] at hk ⊢
  rw [List.getElem_append]
  split
  · rename_i h1
    rw [List.length_drop] at h1
    rw [List.getElem_drop, hs]
    have h2 : a.events.length - (a.events.length + 1 - 128) + 1 - k = (a.events.length - (a.events.length + 1 - 128 + k)) + 1 := by omega
    rw [h2, BitVec.ofNat_add]
    generalize BitVec.ofNat 32 (a.events.length - (a.events.length + 1 - 128 + k)) = y
    generalize a.nextSerial = x
    show x - y = x + 1#32 - (y + 1#32)
    bv_omega
  · rename_i h1
    rw [List.length_drop] at h1
    have h2 : a.events.length - (a.events.length + 1 - 128) + 1 - k = 1 := by omega
    rw [h2]
    simp only [List.getElem_singleton]
    generalize a.nextSerial = x
    show x = x + 1#32 - 1#32
    bv_omega

/-! ### Raising -/

theorem Aeu.raise_eventsOk {a : Aeu} (h : a.EventsOk) (k : AlarmKind) (i : Nat) : (a.raise k i).EventsOk := by
  simp only [Aeu.raise]
  repeat' split
  · exact Aeu.EventsOk.record (h.congr rfl rfl) _
  · exact h
  · exact Aeu.EventsOk.record (h.congr rfl rfl) _
  · exact Aeu.EventsOk.record (h.congr rfl rfl) _
  · exact Aeu.EventsOk.record (h.congr rfl rfl) _

/-- Replacing an entry by one of the same pair keeps the pairs. -/
theorem Aeu.pairs_map (f : Alarm → Alarm) (hf : ∀ x, (f x).pair = x.pair) (l : List Alarm) : (l.map f).map Alarm.pair = l.map Alarm.pair := by
  simp [hf]

theorem Aeu.nodup_append {l : List Alarm} {k : AlarmKind} {i : Nat} {e : Alarm} (he : e.pair = (k, i))
    (h : (l.map Alarm.pair).Nodup) (hn : ∀ x ∈ l, Alarm.is k i x = false) : ((l ++ [e]).map Alarm.pair).Nodup := by
  rw [List.map_append, List.nodup_append]
  refine ⟨h, by simp, ?_⟩
  intro a ha b hb
  obtain ⟨x, hx, rfl⟩ := List.mem_map.1 ha
  simp only [List.map_cons, List.map_nil, List.mem_singleton] at hb
  subst hb
  intro e2
  have := hn x hx
  rw [he] at e2
  rw [(Alarm.is_iff k i x).2 e2] at this
  simp at this

theorem Aeu.AlarmsOk.raise {a : Aeu} (h : a.AlarmsOk) (k : AlarmKind) (i : Nat) : (a.raise k i).AlarmsOk := by
  obtain ⟨hl, hn⟩ := h
  simp only [Config.alarmMax] at hl
  simp only [Aeu.raise]
  split
  · rename_i e he
    split
    · rw [Aeu.AlarmsOk, Aeu.record_alarms]
      refine ⟨by simpa [Config.alarmMax] using hl, ?_⟩
      rw [show (List.map (fun e : Alarm => (e.kind, e.subject)) = List.map Alarm.pair) from rfl]
      rw [Aeu.pairs_map _ _ _]
      · exact hn
      · intro x
        split
        · rename_i hx; rw [(Alarm.is_iff k i x).1 hx]; rfl
        · rfl
    · exact ⟨hl, hn⟩
  · rename_i hf
    rw [List.find?_eq_none] at hf
    have hf' : ∀ x ∈ a.alarms, Alarm.is k i x = false := fun x hx => by simpa using hf x hx
    split
    · rename_i hlt
      simp only [Config.alarmMax] at hlt
      rw [Aeu.AlarmsOk, Aeu.record_alarms]
      exact ⟨by simp [Config.alarmMax]; omega, Aeu.nodup_append rfl hn hf'⟩
    · split
      · rename_i hany
        obtain ⟨y, hy, hp⟩ := List.any_eq_true.1 hany
        rw [Aeu.AlarmsOk, Aeu.record_alarms]
        refine ⟨?_, Aeu.nodup_append rfl (hn.sublist (List.eraseP_sublist.map _)) fun x hx => hf' x (List.mem_of_mem_eraseP hx)⟩
        simp only [List.length_append, List.length_singleton, Config.alarmMax]
        rw [List.length_eraseP_of_mem hy hp]
        have := List.length_pos_of_mem hy
        omega
      · rw [Aeu.AlarmsOk, Aeu.record_alarms]
        exact ⟨hl, hn⟩

/-! ### Clearing -/

theorem Aeu.clear_events (k : AlarmKind) (i : Nat) (a : Aeu) : (a.clear k i).events = a.events := by
  simp only [Aeu.clear]
  repeat' split
  all_goals rfl

theorem Aeu.clear_nextSerial (k : AlarmKind) (i : Nat) (a : Aeu) : (a.clear k i).nextSerial = a.nextSerial := by
  simp only [Aeu.clear]
  repeat' split
  all_goals rfl

theorem Aeu.clear_eventsOk {a : Aeu} (h : a.EventsOk) (k : AlarmKind) (i : Nat) : (a.clear k i).EventsOk :=
  h.congr (Aeu.clear_events k i a) (Aeu.clear_nextSerial k i a)

theorem Aeu.AlarmsOk.clear {a : Aeu} (h : a.AlarmsOk) (k : AlarmKind) (i : Nat) : (a.clear k i).AlarmsOk := by
  obtain ⟨hl, hn⟩ := h
  simp only [Aeu.clear]
  repeat' split
  · refine ⟨by simpa using hl, ?_⟩
    rw [show (List.map (fun e : Alarm => (e.kind, e.subject)) = List.map Alarm.pair) from rfl]
    rw [Aeu.pairs_map _ _ _]
    · exact hn
    · intro x; split <;> rfl
  · refine ⟨Nat.le_trans (List.eraseP_sublist.length_le) hl, hn.sublist (List.eraseP_sublist.map _)⟩
  all_goals exact ⟨hl, hn⟩

/-! ### Supervision, acknowledgement, the clearing of a kind -/

theorem Aeu.AlarmsOk.element {a : Aeu} (h : a.AlarmsOk) (w n : Bool) (i : Nat) : (a.element w n i).AlarmsOk := by
  simp only [Aeu.element]
  repeat' split
  · exact h.raise _ _
  · exact h.clear _ _
  · exact h

theorem Aeu.EventsOk.element {a : Aeu} (h : a.EventsOk) (w n : Bool) (i : Nat) : (a.element w n i).EventsOk := by
  simp only [Aeu.element]
  repeat' split
  · exact Aeu.raise_eventsOk h _ _
  · exact Aeu.clear_eventsOk h _ _
  · exact h

theorem Aeu.AlarmsOk.supervise {a : Aeu} (h : a.AlarmsOk) (m : Mode) (c : Closure) : (a.supervise m c).AlarmsOk :=
  ((h.element _ _ _).element _ _ _).congr rfl

theorem Aeu.EventsOk.supervise {a : Aeu} (h : a.EventsOk) (m : Mode) (c : Closure) : (a.supervise m c).EventsOk :=
  ((h.element _ _ _).element _ _ _).congr rfl rfl

theorem Aeu.AlarmsOk.clearKind {a : Aeu} (h : a.AlarmsOk) (k : AlarmKind) : (a.clearKind k).AlarmsOk := by
  simp only [Aeu.clearKind]
  generalize (a.alarms.filter (fun e => e.kind == k)).map (fun e => e.subject) = l
  induction l generalizing a with
  | nil => exact h
  | cons x l ih => exact ih (h.clear k x)

theorem Aeu.EventsOk.clearKind {a : Aeu} (h : a.EventsOk) (k : AlarmKind) : (a.clearKind k).EventsOk := by
  simp only [Aeu.clearKind]
  generalize (a.alarms.filter (fun e => e.kind == k)).map (fun e => e.subject) = l
  induction l generalizing a with
  | nil => exact h
  | cons x l ih => exact ih (Aeu.clear_eventsOk h k x)

theorem Aeu.acked_sublist (sel : Alarm → Bool) (l : List Alarm) :
    ((l.filterMap (fun e => if sel e then e.acked else some e)).map Alarm.pair).Sublist (l.map Alarm.pair) := by
  induction l with
  | nil => simp
  | cons e l ih =>
    simp only [List.filterMap_cons, List.map_cons]
    split
    · exact ih.cons _
    · rename_i b hb
      have hp : b.pair = e.pair := by
        split at hb
        · unfold Alarm.acked at hb
          split at hb <;> simp at hb <;> subst hb <;> rfl
        · simp at hb; subst hb; rfl
      rw [List.map_cons, hp]
      exact ih.cons_cons _

theorem Aeu.AlarmsOk.ack {a : Aeu} (h : a.AlarmsOk) (sel : Alarm → Bool) (w : Option (AlarmKind × Nat)) (st : Station) :
    (a.ack sel w st).AlarmsOk := by
  obtain ⟨hl, hn⟩ := h
  have hs := Aeu.acked_sublist sel a.alarms
  have ok : ((a.alarms.filterMap (fun e => if sel e then e.acked else some e)).length ≤ Config.alarmMax) ∧
      ((a.alarms.filterMap (fun e => if sel e then e.acked else some e)).map Alarm.pair).Nodup :=
    ⟨Nat.le_trans (by simpa using hs.length_le) hl, hn.sublist hs⟩
  simp only [Aeu.ack]
  repeat' split
  · rw [Aeu.AlarmsOk, Aeu.record_alarms]
    exact ok
  · rw [Aeu.AlarmsOk, Aeu.record_alarms]
    exact ok
  · exact ⟨hl, hn⟩

theorem Aeu.EventsOk.ack {a : Aeu} (h : a.EventsOk) (sel : Alarm → Bool) (w : Option (AlarmKind × Nat)) (st : Station) :
    (a.ack sel w st).EventsOk := by
  simp only [Aeu.ack]
  repeat' split
  · exact Aeu.EventsOk.record (h.congr rfl rfl) _
  · exact Aeu.EventsOk.record (h.congr rfl rfl) _
  · exact h

end Sys2Proof.Machine
end

