-- ==== Sys2Proof/Laws/Fixed.lean ====
section
/-! SUPPORT. Laws/Fixed.lean: what no report between the blocks changes, and no operation that a report calls: authority and mode, the inputs, the
links, the layout store, the queue, the vessel data, the emergency-stop state, the banks, the time stamp. Said once for each operation, and for
`settle` as a whole. -/
namespace Sys2Proof.Machine

/-! ### Plain changes of one block -/

@[simp] theorem fixed_pmn (s : State) (x : Pmn) : ({ s with pmn := x }).fixed = s.fixed := rfl
@[simp] theorem fixed_hpa (s : State) (x : Hpa) : ({ s with hpa := x }).fixed = s.fixed := rfl
@[simp] theorem fixed_ldu (s : State) (x : Ldu) : ({ s with ldu := x }).fixed = s.fixed := rfl
@[simp] theorem fixed_adu (s : State) (x : Adu) : ({ s with adu := x }).fixed = s.fixed := rfl
@[simp] theorem fixed_osq (s : State) (x : Osq) : ({ s with osq := x }).fixed = s.fixed := rfl
@[simp] theorem fixed_todo (s : State) (x : List Task) : ({ s with todo := x }).fixed = s.fixed := rfl
@[simp] theorem fixed_emit (t : Task) (s : State) : (emit t s).fixed = s.fixed := by
  unfold emit
  rw [fixed_todo]

/-- A walk over a list keeps what each of its acts keeps. -/
@[simp] theorem fixed_foldl {α : Type} (f : State → α → State) (h : ∀ x a, (f x a).fixed = x.fixed) (l : List α) (s : State) :
    (l.foldl f s).fixed = s.fixed := by
  induction l generalizing s with
  | nil => rfl
  | cons a l ih => rw [List.foldl_cons, ih, h]

/-! ### AEU -/

/-- An act of AEU that keeps its time stamp and whether it makes demands. -/
theorem fixed_withAeu (f : Aeu → Aeu) (s : State) (h1 : (f s.aeu).stamp = s.aeu.stamp) (h2 : (f s.aeu).demanding = s.aeu.demanding) :
    (s.withAeu f).fixed = s.fixed := by
  simp [State.withAeu, State.fixed, Aeu.remake, h1, h2]

theorem Aeu.record_stamp (e : Event) (a : Aeu) : (a.record e).stamp = a.stamp := by simp only [Aeu.record]
theorem Aeu.record_demanding (e : Event) (a : Aeu) : (a.record e).demanding = a.demanding := by simp only [Aeu.record]

theorem Aeu.raise_stamp (k : AlarmKind) (i : Nat) (a : Aeu) : (a.raise k i).stamp = a.stamp := by
  simp only [Aeu.raise]
  repeat' split
  all_goals rfl

theorem Aeu.raise_demanding (k : AlarmKind) (i : Nat) (a : Aeu) : (a.raise k i).demanding = a.demanding := by
  simp only [Aeu.raise]
  repeat' split
  all_goals rfl

theorem Aeu.clear_stamp (k : AlarmKind) (i : Nat) (a : Aeu) : (a.clear k i).stamp = a.stamp := by
  simp only [Aeu.clear]
  repeat' split
  all_goals rfl

theorem Aeu.clear_demanding (k : AlarmKind) (i : Nat) (a : Aeu) : (a.clear k i).demanding = a.demanding := by
  simp only [Aeu.clear]
  repeat' split
  all_goals rfl

theorem Aeu.element_stamp (w n : Bool) (i : Nat) (a : Aeu) : (a.element w n i).stamp = a.stamp := by
  simp only [Aeu.element]
  repeat' split
  all_goals simp [Aeu.raise_stamp, Aeu.clear_stamp]

theorem Aeu.element_demanding (w n : Bool) (i : Nat) (a : Aeu) : (a.element w n i).demanding = a.demanding := by
  simp only [Aeu.element]
  repeat' split
  all_goals simp [Aeu.raise_demanding, Aeu.clear_demanding]

@[simp] theorem fixed_event (e : Event) (s : State) : (s.event e).fixed = s.fixed :=
  fixed_withAeu _ _ (Aeu.record_stamp e _) (Aeu.record_demanding e _)
@[simp] theorem fixed_raise (k : AlarmKind) (i : Nat) (s : State) : (s.raise k i).fixed = s.fixed :=
  fixed_withAeu _ _ (Aeu.raise_stamp k i _) (Aeu.raise_demanding k i _)
@[simp] theorem fixed_clearAlarm (k : AlarmKind) (i : Nat) (s : State) : (s.clearAlarm k i).fixed = s.fixed :=
  fixed_withAeu _ _ (Aeu.clear_stamp k i _) (Aeu.clear_demanding k i _)
@[simp] theorem fixed_supervise (s : State) : s.supervise.fixed = s.fixed :=
  fixed_withAeu _ _ (by simp [Aeu.supervise, Aeu.element_stamp]) (by simp [Aeu.supervise, Aeu.element_demanding])

/-! ### OST -/

/-- An act of OST that keeps the emergency-stop state and the banks. -/
theorem fixed_modOst (f : Ost → Ost) (s : State) (h : ({ s with ost := f s.ost }).fixed = s.fixed) : (s.modOst f).fixed = s.fixed := h

/-! ### CEV, PMN -/

@[simp] theorem fixed_recompute (ids : List Nat) (s : State) : (State.recompute ids s).fixed = s.fixed := by
  unfold State.recompute
  split
  · dsimp only
    split
    · rfl
    · rw [fixed_emit, fixed_supervise]
      rfl
  · rfl

@[simp] theorem fixed_pointToCev (i : Nat) (s : State) : (State.pointToCev i s).fixed = s.fixed := by
  unfold State.pointToCev
  simp

@[simp] theorem fixed_modLock (i : Nat) (g : LockDyn → LockDyn) (s : State) : (s.modLock i g).fixed = s.fixed := by
  unfold State.modLock
  try dsimp only
  repeat' split
  all_goals simp

@[simp] theorem fixed_modAxis (i : Nat) (g : AxisDyn → AxisDyn) (s : State) : (s.modAxis i g).fixed = s.fixed := by
  unfold State.modAxis
  try dsimp only
  repeat' split
  all_goals simp

theorem fixed_claim (m : Nat) (pts : List Nat) {s t : State} (h : State.claim m pts s = some t) : t.fixed = s.fixed := by
  unfold State.claim at h
  try dsimp only at h
  repeat' split at h
  all_goals simp at h
  all_goals (try subst h)
  all_goals simp

@[simp] theorem fixed_release (m : Nat) (s : State) : (State.release m s).fixed = s.fixed := by
  unfold State.release
  try dsimp only
  repeat' split
  all_goals simp

@[simp] theorem fixed_handFloat (i : Nat) (s : State) : (State.handFloat i s).fixed = s.fixed := by
  unfold State.handFloat
  split
  all_goals simp

@[simp] theorem fixed_takeFault (i : Nat) (c : FaultCode) (s : State) : (State.takeFault i c s).fixed = s.fixed := by
  unfold State.takeFault
  try dsimp only
  repeat' split
  all_goals simp

@[simp] theorem fixed_recordFault (i : Nat) (c : FaultCode) (s : State) : (State.recordFault i c s).fixed = s.fixed := by
  unfold State.recordFault
  try dsimp only
  repeat' split
  all_goals simp

/-! ### OST -/

@[simp] theorem fixed_putDemand (out owner : Nat) (on : Bool) (s : State) : (State.putDemand out owner on s).fixed = s.fixed := by
  unfold State.putDemand
  repeat' split
  all_goals simp
  all_goals rfl

@[simp] theorem fixed_demandCoil (m out : Nat) (on : Bool) (s : State) : (State.demandCoil m out on s).fixed = s.fixed := by
  unfold State.demandCoil
  try dsimp only
  repeat' split
  all_goals simp

@[simp] theorem fixed_demandFloat (a out : Nat) (on : Bool) (s : State) : (State.demandFloat a out on s).fixed = s.fixed := by
  unfold State.demandFloat
  try dsimp only
  repeat' split
  all_goals simp

@[simp] theorem fixed_demandProp (m out v : Nat) (s : State) : (State.demandProp m out v s).fixed = s.fixed := by
  unfold State.demandProp
  repeat' split
  all_goals rfl

@[simp] theorem fixed_zeroProps (a : Nat) (s : State) : (State.zeroProps a s).fixed = s.fixed := rfl

@[simp] theorem fixed_contactor (p : Nat) (on : Bool) (s : State) : (State.contactor p on s).fixed = s.fixed := by
  unfold State.contactor
  split <;> rfl

/-! ### HPA -/

@[simp] theorem fixed_modHpa (g : Hpa → Hpa) (s : State) : (State.modHpa g s).fixed = s.fixed := rfl

@[simp] theorem fixed_capacityDrop (s : State) : (State.capacityDrop s).fixed = s.fixed := by
  unfold State.capacityDrop
  simp

@[simp] theorem fixed_setPump (i : Nat) (st : PumpState) (c : Option PumpCause) (r : Option Nat) (s : State) : (State.setPump i st c r s).fixed = s.fixed := by
  unfold State.setPump
  try dsimp only
  repeat' split
  all_goals simp

@[simp] theorem fixed_pumpFeedback (i : Nat) (on : Bool) (s : State) : (State.pumpFeedback i on s).fixed = s.fixed := by
  unfold State.pumpFeedback
  try dsimp only
  repeat' split
  all_goals simp

@[simp] theorem fixed_stopPump (i : Nat) (s : State) : (State.stopPump i s).fixed = s.fixed := by
  unfold State.stopPump
  try dsimp only
  repeat' split
  all_goals simp

@[simp] theorem fixed_stopPumps (s : State) : (State.stopPumps s).fixed = s.fixed := by
  unfold State.stopPumps
  simp

@[simp] theorem fixed_request (m : Nat) (c : FlowClass) (r q : Nat) (s : State) : (State.request m c r q s).fixed = s.fixed := by
  unfold State.request
  simp

@[simp] theorem fixed_giveUpFlow (m : Nat) (s : State) : (State.giveUpFlow m s).fixed = s.fixed := by
  unfold State.giveUpFlow
  try dsimp only
  repeat' split
  all_goals simp

@[simp] theorem fixed_grantPass (s : State) : (State.grantPass s).fixed = s.fixed := by
  unfold State.grantPass
  try dsimp only
  repeat' split
  all_goals simp

/-! ### LDU -/

@[simp] theorem fixed_modLdu (m : Nat) (g : GroupMotion → GroupMotion) (s : State) : (State.modLdu m g s).fixed = s.fixed := rfl

@[simp] theorem fixed_driveLock (m p : Nat) (d : LockDir) (on : Bool) (s : State) : (State.driveLock m p d on s).fixed = s.fixed := by
  unfold State.driveLock
  try dsimp only
  repeat' split
  all_goals simp

@[simp] theorem fixed_lockOff (m p : Nat) (s : State) : (State.lockOff m p s).fixed = s.fixed := by
  unfold State.lockOff
  simp

@[simp] theorem fixed_groupOff (m : Nat) (g : GroupMotion) (s : State) : (State.groupOff m g s).fixed = s.fixed := by
  unfold State.groupOff
  simp

@[simp] theorem fixed_lduEnd (m : Nat) (st : MotionState) (c : Option FailCause) (xs : List Nat) (s : State) : (State.lduEnd m st c xs s).fixed = s.fixed := by
  unfold State.lduEnd
  try dsimp only
  repeat' split
  all_goals simp

@[simp] theorem fixed_lduCheck (m : Nat) (s : State) : (State.lduCheck m s).fixed = s.fixed := by
  unfold State.lduCheck
  try dsimp only
  repeat' split
  all_goals simp

@[simp] theorem fixed_lduFail (m p : Nat) (c : FaultCode) (b : Bool) (s : State) : (State.lduFail m p c b s).fixed = s.fixed := by
  unfold State.lduFail
  try dsimp only
  repeat' split
  all_goals simp

theorem fixed_lduIssue (m : Nat) (o : StepRef) (g : Nat) (d : LockDir) (pts : List Nat) {s t : State} (h : State.lduIssue m o g d pts s = some t) : t.fixed = s.fixed := by
  unfold State.lduIssue at h
  split at h
  · rename_i hc
    have hf := fixed_claim _ _ hc
    dsimp only at h
    split at h
    · simp only [Option.some.injEq] at h
      subst h
      simpa using hf
    · simp only [Option.some.injEq] at h
      subst h
      rw [fixed_lduEnd, fixed_foldl, fixed_ldu, hf]
      intro x a
      split <;> simp
  · simp at h

@[simp] theorem fixed_lduDrive (m q : Nat) (s : State) : (State.lduDrive m q s).fixed = s.fixed := by
  unfold State.lduDrive
  split
  · rfl
  · rw [fixed_foldl, fixed_modLdu]
    intro x a
    split <;> simp

@[simp] theorem fixed_lduGrant (m : Nat) (s : State) : (State.lduGrant m s).fixed = s.fixed := by
  unfold State.lduGrant
  try dsimp only
  repeat' split
  all_goals simp

@[simp] theorem fixed_lduMoved (m p : Nat) (s : State) : (State.lduMoved m p s).fixed = s.fixed := by
  unfold State.lduMoved
  try dsimp only
  repeat' split
  all_goals simp

@[simp] theorem fixed_lduFault (m p : Nat) (c : FaultCode) (b : Bool) (s : State) : (State.lduFault m p c b s).fixed = s.fixed := by
  unfold State.lduFault
  try dsimp only
  repeat' split
  all_goals simp

@[simp] theorem fixed_lduHalt (m : Nat) (w : HaltCause) (s : State) : (State.lduHalt m w s).fixed = s.fixed := by
  unfold State.lduHalt
  try dsimp only
  repeat' split
  all_goals simp

@[simp] theorem fixed_lduNoFlow (m : Nat) (s : State) : (State.lduNoFlow m s).fixed = s.fixed := by
  unfold State.lduNoFlow
  try dsimp only
  repeat' split
  all_goals simp

@[simp] theorem fixed_lduReissue (m : Nat) (s : State) : (State.lduReissue m s).fixed = s.fixed := by
  unfold State.lduReissue
  split
  · rfl
  · rename_i g hg
    split
    · dsimp only
      split
      · split
        · rw [fixed_request, fixed_lduCheck, fixed_foldl, fixed_modLdu]
          intro y a
          split <;> simp
        · rw [fixed_lduCheck, fixed_foldl, fixed_modLdu]
          intro y a
          split <;> simp
      · rw [fixed_lduCheck, fixed_foldl, fixed_modLdu]
        intro y a
        split <;> simp
    · rfl

@[simp] theorem fixed_lduDrop (m : Nat) (s : State) : (State.lduDrop m s).fixed = s.fixed := rfl

@[simp] theorem fixed_lduWithdraw (m : Nat) (s : State) : (State.lduWithdraw m s).fixed = s.fixed := by
  unfold State.lduWithdraw
  try dsimp only
  repeat' split
  all_goals simp

@[simp] theorem fixed_lduTravelOut (m p : Nat) (s : State) : (State.lduTravelOut m p s).fixed = s.fixed := by
  unfold State.lduTravelOut
  try dsimp only
  repeat' split
  all_goals simp

@[simp] theorem fixed_lduBackOut (m p : Nat) (s : State) : (State.lduBackOut m p s).fixed = s.fixed := by
  unfold State.lduBackOut
  try dsimp only
  repeat' split
  all_goals simp

/-! ### ADU -/

@[simp] theorem fixed_modAdu (m : Nat) (g : AxisMotion → AxisMotion) (s : State) : (State.modAdu m g s).fixed = s.fixed := rfl

@[simp] theorem fixed_setDrive (i : Nat) (d : Drive) (s : State) : (State.setDrive i d s).fixed = s.fixed := by
  unfold State.setDrive
  simp

@[simp] theorem fixed_restDrive (i : Nat) (s : State) : (State.restDrive i s).fixed = s.fixed := by
  unfold State.restDrive
  try dsimp only
  repeat' split
  all_goals simp

@[simp] theorem fixed_floatLimit (i : Nat) (s : State) : (State.floatLimit i s).fixed = s.fixed := by
  unfold State.floatLimit
  try dsimp only
  repeat' split
  all_goals simp

@[simp] theorem fixed_floatLift (i : Nat) (s : State) : (State.floatLift i s).fixed = s.fixed := by
  unfold State.floatLift
  try dsimp only
  repeat' split
  all_goals simp

@[simp] theorem fixed_floatEval (i : Nat) (s : State) : (State.floatEval i s).fixed = s.fixed := by
  unfold State.floatEval
  simp

@[simp] theorem fixed_floatEnd (i : Nat) (s : State) : (State.floatEnd i s).fixed = s.fixed := by
  unfold State.floatEnd
  try dsimp only
  repeat' split
  all_goals simp

theorem fixed_floatEntry (i : Nat) {s t : State} (h : State.floatEntry i s = some t) : t.fixed = s.fixed := by
  unfold State.floatEntry at h
  try dsimp only at h
  repeat' split at h
  all_goals simp at h
  all_goals (try subst h)
  all_goals simp

@[simp] theorem fixed_liftOffOut (i : Nat) (s : State) : (State.liftOffOut i s).fixed = s.fixed := by
  unfold State.liftOffOut
  try dsimp only
  repeat' split
  all_goals simp

@[simp] theorem fixed_aduEnd (m : Nat) (st : MotionState) (c : Option FailCause) (s : State) : (State.aduEnd m st c s).fixed = s.fixed := by
  unfold State.aduEnd
  try dsimp only
  repeat' split
  all_goals simp

@[simp] theorem fixed_moveRequest (m : Nat) (s : State) : (State.moveRequest m s).fixed = s.fixed := by
  unfold State.moveRequest
  try dsimp only
  repeat' split
  all_goals simp

theorem fixed_aduIssue (m : Nat) (o : StepRef) (i T : Nat) (l : Bool) {s t : State} (h : State.aduIssue m o i T l s = some t) : t.fixed = s.fixed := by
  unfold State.aduIssue at h
  split at h
  · simp at h
  · rename_i hc
    have hf := fixed_claim _ _ hc
    dsimp only at h
    split at h <;> (simp only [Option.some.injEq] at h; subst h; simpa using hf)

@[simp] theorem fixed_driveAxis (m : Nat) (d : AxisDef) (dir : AxisDir) (v : Nat) (s : State) : (State.driveAxis m d dir v s).fixed = s.fixed := by
  unfold State.driveAxis
  simp

@[simp] theorem fixed_aduInterval (m : Nat) (s : State) : (State.aduInterval m s).fixed = s.fixed := by
  unfold State.aduInterval
  try dsimp only
  repeat' split
  all_goals simp

@[simp] theorem fixed_aduGo (m : Nat) (s : State) : (State.aduGo m s).fixed = s.fixed := by
  unfold State.aduGo
  try dsimp only
  repeat' split
  all_goals simp

@[simp] theorem fixed_aduStart (m q : Nat) (s : State) : (State.aduStart m q s).fixed = s.fixed := by
  unfold State.aduStart
  try dsimp only
  repeat' split
  all_goals simp

@[simp] theorem fixed_aduGrant (m : Nat) (s : State) : (State.aduGrant m s).fixed = s.fixed := by
  unfold State.aduGrant
  try dsimp only
  repeat' split
  all_goals simp

@[simp] theorem fixed_aduReduced (m : Nat) (s : State) : (State.aduReduced m s).fixed = s.fixed := by
  unfold State.aduReduced
  try dsimp only
  repeat' split
  all_goals simp

@[simp] theorem fixed_aduStall (m : Nat) (s : State) : (State.aduStall m s).fixed = s.fixed := by
  unfold State.aduStall
  try dsimp only
  repeat' split
  all_goals simp

@[simp] theorem fixed_aduTravelOut (m : Nat) (s : State) : (State.aduTravelOut m s).fixed = s.fixed := by
  unfold State.aduTravelOut
  try dsimp only
  repeat' split
  all_goals simp

@[simp] theorem fixed_aduSettleEnd (m : Nat) (s : State) : (State.aduSettleEnd m s).fixed = s.fixed := by
  unfold State.aduSettleEnd
  try dsimp only
  repeat' split
  all_goals simp

@[simp] theorem fixed_aduFault (m p : Nat) (c : FaultCode) (b : Bool) (s : State) : (State.aduFault m p c b s).fixed = s.fixed := by
  unfold State.aduFault
  try dsimp only
  repeat' split
  all_goals simp

@[simp] theorem fixed_aduHalt (m : Nat) (w : HaltCause) (s : State) : (State.aduHalt m w s).fixed = s.fixed := by
  unfold State.aduHalt
  try dsimp only
  repeat' split
  all_goals simp

@[simp] theorem fixed_aduNoFlow (m : Nat) (s : State) : (State.aduNoFlow m s).fixed = s.fixed := by
  unfold State.aduNoFlow
  try dsimp only
  repeat' split
  all_goals simp

@[simp] theorem fixed_aduReissue (m : Nat) (s : State) : (State.aduReissue m s).fixed = s.fixed := by
  unfold State.aduReissue
  try dsimp only
  repeat' split
  all_goals simp

@[simp] theorem fixed_aduDrop (m : Nat) (s : State) : (State.aduDrop m s).fixed = s.fixed := rfl

@[simp] theorem fixed_aduWithdraw (m : Nat) (s : State) : (State.aduWithdraw m s).fixed = s.fixed := by
  unfold State.aduWithdraw
  try dsimp only
  repeat' split
  all_goals simp

/-! ### OSQ -/

@[simp] theorem fixed_modCtx (g : Context → Context) (s : State) : (State.modCtx g s).fixed = s.fixed := rfl

@[simp] theorem fixed_modEntry (k : Nat) (g : Entry → Entry) (s : State) : (State.modEntry k g s).fixed = s.fixed := by
  unfold State.modEntry
  simp

@[simp] theorem fixed_addEntry (e : Entry) (s : State) : (State.addEntry e s).fixed = s.fixed := by
  unfold State.addEntry
  simp

@[simp] theorem fixed_dropMotion (m : Nat) (s : State) : (State.dropMotion m s).fixed = s.fixed := by
  unfold State.dropMotion
  simp

@[simp] theorem fixed_haltMotion (m : Nat) (w : HaltCause) (s : State) : (State.haltMotion m w s).fixed = s.fixed := by
  unfold State.haltMotion
  simp

@[simp] theorem fixed_withdrawMotion (m : Nat) (s : State) : (State.withdrawMotion m s).fixed = s.fixed := by
  unfold State.withdrawMotion
  simp

theorem fixed_onMotion (e : Entry) (g : Nat → State → State) (h : ∀ m x, (g m x).fixed = x.fixed) (s : State) :
    (e.onMotion g s).fixed = s.fixed := by
  unfold Entry.onMotion
  split
  · exact h _ _
  · rfl

@[simp] theorem fixed_onMotion_drop (e : Entry) (s : State) : (e.onMotion State.dropMotion s).fixed = s.fixed :=
  fixed_onMotion _ _ (by simp) _

@[simp] theorem fixed_onMotion_halt (e : Entry) (w : HaltCause) (s : State) :
    (e.onMotion (fun m => State.haltMotion m w) s).fixed = s.fixed := fixed_onMotion _ _ (by simp) _

@[simp] theorem fixed_onMotion_withdraw (e : Entry) (s : State) : (e.onMotion State.withdrawMotion s).fixed = s.fixed :=
  fixed_onMotion _ _ (by simp) _

@[simp] theorem fixed_removeEntry (k : Nat) (s : State) : (State.removeEntry k s).fixed = s.fixed := by
  unfold State.removeEntry
  try dsimp only
  repeat' split
  all_goals simp

@[simp] theorem fixed_completeEntry (k : Nat) (s : State) : (State.completeEntry k s).fixed = s.fixed := by
  unfold State.completeEntry
  simp

@[simp] theorem fixed_hold (s : State) : (State.hold s).fixed = s.fixed := by
  unfold State.hold
  dsimp only
  rw [fixed_foldl, fixed_modCtx]
  intro x e
  split <;> simp

@[simp] theorem fixed_giveCause (c : HoldCause) (s : State) : (State.giveCause c s).fixed = s.fixed := by
  unfold State.giveCause
  try dsimp only
  repeat' split
  all_goals simp

@[simp] theorem fixed_withdrawAll (s : State) : (State.withdrawAll s).fixed = s.fixed := by
  unfold State.withdrawAll
  simp

@[simp] theorem fixed_abortContext (s : State) : (State.abortContext s).fixed = s.fixed := by
  unfold State.abortContext
  try dsimp only
  repeat' split
  all_goals simp

@[simp] theorem fixed_reversal (o : Station) (s : State) : (State.reversal o s).fixed = s.fixed := by
  unfold State.reversal
  try dsimp only
  repeat' split
  all_goals simp

@[simp] theorem fixed_failEntry (k : Nat) (c : FailCause) (s : State) : (State.failEntry k c s).fixed = s.fixed := by
  unfold State.failEntry
  try dsimp only
  repeat' split
  all_goals simp

@[simp] theorem fixed_takeOutcome (m : Nat) (s : State) : (State.takeOutcome m s).fixed = s.fixed := by
  unfold State.takeOutcome
  try dsimp only
  repeat' split
  all_goals simp

theorem fixed_tryIssue (r : StepRef) (k : StepKind) {s t : State} {m : Nat} (h : State.tryIssue r k s = some (m, t)) :
    t.fixed = s.fixed := by
  unfold State.tryIssue at h
  simp only [Option.map_eq_some_iff, Prod.mk.injEq] at h
  obtain ⟨x, hx, -, rfl⟩ := h
  rw [fixed_osq]
  revert hx
  split
  · exact fun hx => fixed_lduIssue _ _ _ _ _ hx
  · exact fun hx => fixed_aduIssue _ _ _ _ _ hx
  all_goals simp

@[simp] theorem fixed_stepOn (s : State) : (State.stepOn s).fixed = s.fixed := rfl

@[simp] theorem fixed_advance (s : State) : (State.advance s).fixed = s.fixed := by
  unfold State.advance
  simp

@[simp] theorem fixed_issued (m : Nat) (s : State) : (State.issued m s).fixed = s.fixed := by
  unfold State.issued
  split
  · rw [fixed_takeOutcome, fixed_stepOn]
  · exact fixed_advance s

@[simp] theorem fixed_takeStep (x : Context) (st : Step) (s : State) : (State.takeStep x st s).fixed = s.fixed := by
  unfold State.takeStep
  try dsimp only
  repeat' split
  all_goals first
    | (simp; done)
    | (rename_i hi; simpa using fixed_floatEntry _ hi)
    | (rename_i hi; simpa using fixed_tryIssue _ _ hi)

@[simp] theorem fixed_issueTurn (s : State) : (State.issueTurn s).fixed = s.fixed := by
  unfold State.issueTurn
  try dsimp only
  repeat' split
  all_goals simp

@[simp] theorem fixed_resumeAccepted (s : State) : (State.resumeAccepted s).fixed = s.fixed := by
  unfold State.resumeAccepted
  try dsimp only
  repeat' split
  all_goals simp

@[simp] theorem fixed_freshStep (k : Nat) (e : Entry) (s : State) : (State.freshStep k e s).fixed = s.fixed := by
  unfold State.freshStep
  try dsimp only
  repeat' split
  all_goals first
    | (simp; done)
    | (rename_i hi; simpa using fixed_floatEntry _ hi)
    | (rename_i hi; simpa using fixed_tryIssue _ _ hi)

@[simp] theorem fixed_reissueEntry (k : Nat) (e : Entry) (s : State) : (State.reissueEntry k e s).fixed = s.fixed := by
  unfold State.reissueEntry
  try dsimp only
  repeat' split
  all_goals simp

@[simp] theorem fixed_reissueTurn (s : State) : (State.reissueTurn s).fixed = s.fixed := by
  unfold State.reissueTurn
  try dsimp only
  repeat' split
  all_goals simp

@[simp] theorem fixed_offerTurn (k : Nat) (s : State) : (State.offerTurn k s).fixed = s.fixed := by
  unfold State.offerTurn
  try dsimp only
  repeat' split
  all_goals first
    | (simp; done)
    | (rename_i hi; simpa using fixed_floatEntry _ hi)
    | (rename_i hi; simpa using fixed_tryIssue _ _ hi)

@[simp] theorem fixed_takeWaits (cs : List (Nat × Tri)) (s : State) : (State.takeWaits cs s).fixed = s.fixed := by
  unfold State.takeWaits
  try dsimp only
  repeat' split
  all_goals simp

@[simp] theorem fixed_waitOut (k : Nat) (s : State) : (State.waitOut k s).fixed = s.fixed := by
  unfold State.waitOut
  try dsimp only
  repeat' split
  all_goals simp

@[simp] theorem fixed_pauseOut (k : Nat) (s : State) : (State.pauseOut k s).fixed = s.fixed := by
  unfold State.pauseOut
  try dsimp only
  repeat' split
  all_goals simp

@[simp] theorem fixed_watchOne (cs : List (Nat × Tri)) (w : Option Subject) (s : State) : (State.watchOne cs w s).fixed = s.fixed := by
  unfold State.watchOne
  try dsimp only
  repeat' split
  all_goals simp

@[simp] theorem fixed_takeChanged (cs : List (Nat × Tri)) (s : State) : (State.takeChanged cs s).fixed = s.fixed := by
  unfold State.takeChanged
  simp

@[simp] theorem fixed_modJog (g : Jog → Jog) (s : State) : (State.modJog g s).fixed = s.fixed := rfl

@[simp] theorem fixed_jogOff (j : Jog) (s : State) : (State.jogOff j s).fixed = s.fixed := by
  unfold State.jogOff
  try dsimp only
  repeat' split
  all_goals simp

@[simp] theorem fixed_jogRest (j : Jog) (s : State) : (State.jogRest j s).fixed = s.fixed := by
  unfold State.jogRest
  try dsimp only
  repeat' split
  all_goals simp

@[simp] theorem fixed_endJog (c : JogEnd) (s : State) : (State.endJog c s).fixed = s.fixed := by
  unfold State.endJog
  try dsimp only
  repeat' split
  all_goals simp

@[simp] theorem fixed_jogCheck (s : State) : (State.jogCheck s).fixed = s.fixed := by
  unfold State.jogCheck
  try dsimp only
  repeat' split
  all_goals simp

@[simp] theorem fixed_jogGrant (s : State) : (State.jogGrant s).fixed = s.fixed := by
  unfold State.jogGrant
  try dsimp only
  repeat' split
  all_goals simp

@[simp] theorem fixed_jogRevoked (s : State) : (State.jogRevoked s).fixed = s.fixed := by
  unfold State.jogRevoked
  try dsimp only
  repeat' split
  all_goals simp

@[simp] theorem fixed_jogMoved (p : Nat) (s : State) : (State.jogMoved p s).fixed = s.fixed := by
  unfold State.jogMoved
  try dsimp only
  repeat' split
  all_goals simp

@[simp] theorem fixed_jogOut (s : State) : (State.jogOut s).fixed = s.fixed := by
  unfold State.jogOut
  try dsimp only
  repeat' split
  all_goals simp

@[simp] theorem fixed_authorityLost (st : Station) (s : State) : (State.authorityLost st s).fixed = s.fixed := by
  unfold State.authorityLost
  try dsimp only
  repeat' split
  all_goals simp

@[simp] theorem fixed_runLapsed (s : State) : (State.runLapsed s).fixed = s.fixed := by
  unfold State.runLapsed
  try dsimp only
  repeat' split
  all_goals simp

@[simp] theorem fixed_osqStop (s : State) : (State.osqStop s).fixed = s.fixed := by
  unfold State.osqStop
  simp

/-! ### The reports -/

@[simp] theorem fixed_noFlow (m : Nat) (s : State) : (State.noFlow m s).fixed = s.fixed := by
  unfold State.noFlow
  try dsimp only
  repeat' split
  all_goals simp

@[simp] theorem fixed_handGrant (m : Nat) (s : State) : (State.handGrant m s).fixed = s.fixed := by
  unfold State.handGrant
  try dsimp only
  repeat' split
  all_goals simp

@[simp] theorem fixed_tellRevoked (m : Nat) (s : State) : (State.tellRevoked m s).fixed = s.fixed := by
  unfold State.tellRevoked
  try dsimp only
  repeat' split
  all_goals simp

@[simp] theorem fixed_tellWithdrawn (m : Nat) (s : State) : (State.tellWithdrawn m s).fixed = s.fixed := by
  unfold State.tellWithdrawn
  try dsimp only
  repeat' split
  all_goals simp

@[simp] theorem fixed_tellMoved (p : Nat) (s : State) : (State.tellMoved p s).fixed = s.fixed := by
  unfold State.tellMoved
  try dsimp only
  repeat' split
  all_goals simp

@[simp] theorem fixed_tellFault (p : Nat) (c : FaultCode) (b : Bool) (s : State) : (State.tellFault p c b s).fixed = s.fixed := by
  unfold State.tellFault
  try dsimp only
  repeat' split
  all_goals simp

/-- No report changes the fixed part. -/
theorem fixed_runTask (t : Task) (s : State) : (runTask t s).fixed = s.fixed := by
  cases t <;> simp [runTask]

/-- Settling changes none of the fixed part. -/
theorem fixed_settle (n : Nat) (ts : List Task) (s : State) : (settle n ts s).fixed = s.fixed := by
  induction n generalizing ts s with
  | zero => cases ts <;> rfl
  | succ n ih =>
    cases ts with
    | nil => rfl
    | cons t ts => rw [settle, ih, fixed_todo, fixed_runTask]

/-- What a command sets going changes none of the fixed part. -/
@[simp] theorem fixed_finish (s : State) : (finish s).fixed = s.fixed := by
  rw [finish, fixed_settle, fixed_todo]

/-- With no report made there is nothing to settle. -/
theorem finish_of_todo_nil {s : State} (h : s.todo = []) : finish s = s := by
  cases s
  simp only at h
  subst h
  rfl

end Sys2Proof.Machine
end

