-- ==== Sys2Proof/Laws/State.lean ====
section
/-! SUPPORT. Laws/State.lean: for each update of the state, one lemma per field, true by rfl: what the update leaves as it was, and what it
writes. A later proof cites these and unfolds no record update. -/
namespace Sys2Proof.Machine

/-! ### emit -/

@[simp] theorem emit_sli (t : Task) (s : State) : (emit t s).sli = s.sli := rfl
@[simp] theorem emit_amu (t : Task) (s : State) : (emit t s).amu = s.amu := rfl
@[simp] theorem emit_isc (t : Task) (s : State) : (emit t s).isc = s.isc := rfl
@[simp] theorem emit_pmn (t : Task) (s : State) : (emit t s).pmn = s.pmn := rfl
@[simp] theorem emit_cev (t : Task) (s : State) : (emit t s).cev = s.cev := rfl
@[simp] theorem emit_hpa (t : Task) (s : State) : (emit t s).hpa = s.hpa := rfl
@[simp] theorem emit_ldu (t : Task) (s : State) : (emit t s).ldu = s.ldu := rfl
@[simp] theorem emit_adu (t : Task) (s : State) : (emit t s).adu = s.adu := rfl
@[simp] theorem emit_osq (t : Task) (s : State) : (emit t s).osq = s.osq := rfl
@[simp] theorem emit_ost (t : Task) (s : State) : (emit t s).ost = s.ost := rfl
@[simp] theorem emit_aeu (t : Task) (s : State) : (emit t s).aeu = s.aeu := rfl
@[simp] theorem emit_lst (t : Task) (s : State) : (emit t s).lst = s.lst := rfl
@[simp] theorem emit_held (t : Task) (s : State) : (emit t s).held = s.held := rfl
@[simp] theorem emit_todo (t : Task) (s : State) : (emit t s).todo = s.todo ++ [t] := rfl
@[simp] theorem emit_free (t : Task) (s : State) : (emit t s).free = s.free := rfl
@[simp] theorem emit_pending (t : Task) (s : State) : (emit t s).pending = s.pending := rfl

/-! ### AEU acts -/

@[simp] theorem withAeu_sli (f : Aeu → Aeu) (s : State) : (s.withAeu f).sli = s.sli := rfl
@[simp] theorem withAeu_amu (f : Aeu → Aeu) (s : State) : (s.withAeu f).amu = s.amu := rfl
@[simp] theorem withAeu_isc (f : Aeu → Aeu) (s : State) : (s.withAeu f).isc = s.isc := rfl
@[simp] theorem withAeu_pmn (f : Aeu → Aeu) (s : State) : (s.withAeu f).pmn = s.pmn := rfl
@[simp] theorem withAeu_cev (f : Aeu → Aeu) (s : State) : (s.withAeu f).cev = s.cev := rfl
@[simp] theorem withAeu_hpa (f : Aeu → Aeu) (s : State) : (s.withAeu f).hpa = s.hpa := rfl
@[simp] theorem withAeu_ldu (f : Aeu → Aeu) (s : State) : (s.withAeu f).ldu = s.ldu := rfl
@[simp] theorem withAeu_adu (f : Aeu → Aeu) (s : State) : (s.withAeu f).adu = s.adu := rfl
@[simp] theorem withAeu_osq (f : Aeu → Aeu) (s : State) : (s.withAeu f).osq = s.osq := rfl
@[simp] theorem withAeu_ost (f : Aeu → Aeu) (s : State) : (s.withAeu f).ost = { s.ost with general := (f s.aeu).remake.general, sea := (f s.aeu).remake.sea } := rfl
@[simp] theorem withAeu_aeu (f : Aeu → Aeu) (s : State) : (s.withAeu f).aeu = (f s.aeu).remake := rfl
@[simp] theorem withAeu_lst (f : Aeu → Aeu) (s : State) : (s.withAeu f).lst = s.lst := rfl
@[simp] theorem withAeu_held (f : Aeu → Aeu) (s : State) : (s.withAeu f).held = s.held := rfl
@[simp] theorem withAeu_todo (f : Aeu → Aeu) (s : State) : (s.withAeu f).todo = s.todo := rfl
@[simp] theorem withAeu_free (f : Aeu → Aeu) (s : State) : (s.withAeu f).free = s.free := rfl
@[simp] theorem withAeu_pending (f : Aeu → Aeu) (s : State) : (s.withAeu f).pending = s.pending := rfl

/-! ### Events -/

@[simp] theorem event_sli (e : Event) (s : State) : (s.event e).sli = s.sli := rfl
@[simp] theorem event_amu (e : Event) (s : State) : (s.event e).amu = s.amu := rfl
@[simp] theorem event_isc (e : Event) (s : State) : (s.event e).isc = s.isc := rfl
@[simp] theorem event_pmn (e : Event) (s : State) : (s.event e).pmn = s.pmn := rfl
@[simp] theorem event_cev (e : Event) (s : State) : (s.event e).cev = s.cev := rfl
@[simp] theorem event_hpa (e : Event) (s : State) : (s.event e).hpa = s.hpa := rfl
@[simp] theorem event_ldu (e : Event) (s : State) : (s.event e).ldu = s.ldu := rfl
@[simp] theorem event_adu (e : Event) (s : State) : (s.event e).adu = s.adu := rfl
@[simp] theorem event_osq (e : Event) (s : State) : (s.event e).osq = s.osq := rfl
@[simp] theorem event_aeu (e : Event) (s : State) : (s.event e).aeu = (s.aeu.record e).remake := rfl
@[simp] theorem event_lst (e : Event) (s : State) : (s.event e).lst = s.lst := rfl
@[simp] theorem event_held (e : Event) (s : State) : (s.event e).held = s.held := rfl
@[simp] theorem event_todo (e : Event) (s : State) : (s.event e).todo = s.todo := rfl
@[simp] theorem event_free (e : Event) (s : State) : (s.event e).free = s.free := rfl
@[simp] theorem event_pending (e : Event) (s : State) : (s.event e).pending = s.pending := rfl

/-! ### Alarms raised -/

@[simp] theorem raise_sli (k : AlarmKind) (i : Nat) (s : State) : (s.raise k i).sli = s.sli := rfl
@[simp] theorem raise_amu (k : AlarmKind) (i : Nat) (s : State) : (s.raise k i).amu = s.amu := rfl
@[simp] theorem raise_isc (k : AlarmKind) (i : Nat) (s : State) : (s.raise k i).isc = s.isc := rfl
@[simp] theorem raise_pmn (k : AlarmKind) (i : Nat) (s : State) : (s.raise k i).pmn = s.pmn := rfl
@[simp] theorem raise_cev (k : AlarmKind) (i : Nat) (s : State) : (s.raise k i).cev = s.cev := rfl
@[simp] theorem raise_hpa (k : AlarmKind) (i : Nat) (s : State) : (s.raise k i).hpa = s.hpa := rfl
@[simp] theorem raise_ldu (k : AlarmKind) (i : Nat) (s : State) : (s.raise k i).ldu = s.ldu := rfl
@[simp] theorem raise_adu (k : AlarmKind) (i : Nat) (s : State) : (s.raise k i).adu = s.adu := rfl
@[simp] theorem raise_osq (k : AlarmKind) (i : Nat) (s : State) : (s.raise k i).osq = s.osq := rfl
@[simp] theorem raise_aeu (k : AlarmKind) (i : Nat) (s : State) : (s.raise k i).aeu = (s.aeu.raise k i).remake := rfl
@[simp] theorem raise_lst (k : AlarmKind) (i : Nat) (s : State) : (s.raise k i).lst = s.lst := rfl
@[simp] theorem raise_held (k : AlarmKind) (i : Nat) (s : State) : (s.raise k i).held = s.held := rfl
@[simp] theorem raise_todo (k : AlarmKind) (i : Nat) (s : State) : (s.raise k i).todo = s.todo := rfl
@[simp] theorem raise_free (k : AlarmKind) (i : Nat) (s : State) : (s.raise k i).free = s.free := rfl
@[simp] theorem raise_pending (k : AlarmKind) (i : Nat) (s : State) : (s.raise k i).pending = s.pending := rfl

/-! ### Alarms cleared -/

@[simp] theorem clearAlarm_sli (k : AlarmKind) (i : Nat) (s : State) : (s.clearAlarm k i).sli = s.sli := rfl
@[simp] theorem clearAlarm_amu (k : AlarmKind) (i : Nat) (s : State) : (s.clearAlarm k i).amu = s.amu := rfl
@[simp] theorem clearAlarm_isc (k : AlarmKind) (i : Nat) (s : State) : (s.clearAlarm k i).isc = s.isc := rfl
@[simp] theorem clearAlarm_pmn (k : AlarmKind) (i : Nat) (s : State) : (s.clearAlarm k i).pmn = s.pmn := rfl
@[simp] theorem clearAlarm_cev (k : AlarmKind) (i : Nat) (s : State) : (s.clearAlarm k i).cev = s.cev := rfl
@[simp] theorem clearAlarm_hpa (k : AlarmKind) (i : Nat) (s : State) : (s.clearAlarm k i).hpa = s.hpa := rfl
@[simp] theorem clearAlarm_ldu (k : AlarmKind) (i : Nat) (s : State) : (s.clearAlarm k i).ldu = s.ldu := rfl
@[simp] theorem clearAlarm_adu (k : AlarmKind) (i : Nat) (s : State) : (s.clearAlarm k i).adu = s.adu := rfl
@[simp] theorem clearAlarm_osq (k : AlarmKind) (i : Nat) (s : State) : (s.clearAlarm k i).osq = s.osq := rfl
@[simp] theorem clearAlarm_aeu (k : AlarmKind) (i : Nat) (s : State) : (s.clearAlarm k i).aeu = (s.aeu.clear k i).remake := rfl
@[simp] theorem clearAlarm_lst (k : AlarmKind) (i : Nat) (s : State) : (s.clearAlarm k i).lst = s.lst := rfl
@[simp] theorem clearAlarm_held (k : AlarmKind) (i : Nat) (s : State) : (s.clearAlarm k i).held = s.held := rfl
@[simp] theorem clearAlarm_todo (k : AlarmKind) (i : Nat) (s : State) : (s.clearAlarm k i).todo = s.todo := rfl
@[simp] theorem clearAlarm_free (k : AlarmKind) (i : Nat) (s : State) : (s.clearAlarm k i).free = s.free := rfl
@[simp] theorem clearAlarm_pending (k : AlarmKind) (i : Nat) (s : State) : (s.clearAlarm k i).pending = s.pending := rfl

/-! ### Supervision -/

@[simp] theorem supervise_sli  (s : State) : (s.supervise).sli = s.sli := rfl
@[simp] theorem supervise_amu  (s : State) : (s.supervise).amu = s.amu := rfl
@[simp] theorem supervise_isc  (s : State) : (s.supervise).isc = s.isc := rfl
@[simp] theorem supervise_pmn  (s : State) : (s.supervise).pmn = s.pmn := rfl
@[simp] theorem supervise_cev  (s : State) : (s.supervise).cev = s.cev := rfl
@[simp] theorem supervise_hpa  (s : State) : (s.supervise).hpa = s.hpa := rfl
@[simp] theorem supervise_ldu  (s : State) : (s.supervise).ldu = s.ldu := rfl
@[simp] theorem supervise_adu  (s : State) : (s.supervise).adu = s.adu := rfl
@[simp] theorem supervise_osq  (s : State) : (s.supervise).osq = s.osq := rfl
@[simp] theorem supervise_aeu  (s : State) : (s.supervise).aeu = (s.aeu.supervise s.amu.mode s.cev.closure).remake := rfl
@[simp] theorem supervise_lst  (s : State) : (s.supervise).lst = s.lst := rfl
@[simp] theorem supervise_held  (s : State) : (s.supervise).held = s.held := rfl
@[simp] theorem supervise_todo  (s : State) : (s.supervise).todo = s.todo := rfl
@[simp] theorem supervise_free  (s : State) : (s.supervise).free = s.free := rfl
@[simp] theorem supervise_pending  (s : State) : (s.supervise).pending = s.pending := rfl

/-! ### OST -/

@[simp] theorem modOst_sli (f : Ost → Ost) (s : State) : (s.modOst f).sli = s.sli := rfl
@[simp] theorem modOst_amu (f : Ost → Ost) (s : State) : (s.modOst f).amu = s.amu := rfl
@[simp] theorem modOst_isc (f : Ost → Ost) (s : State) : (s.modOst f).isc = s.isc := rfl
@[simp] theorem modOst_pmn (f : Ost → Ost) (s : State) : (s.modOst f).pmn = s.pmn := rfl
@[simp] theorem modOst_cev (f : Ost → Ost) (s : State) : (s.modOst f).cev = s.cev := rfl
@[simp] theorem modOst_hpa (f : Ost → Ost) (s : State) : (s.modOst f).hpa = s.hpa := rfl
@[simp] theorem modOst_ldu (f : Ost → Ost) (s : State) : (s.modOst f).ldu = s.ldu := rfl
@[simp] theorem modOst_adu (f : Ost → Ost) (s : State) : (s.modOst f).adu = s.adu := rfl
@[simp] theorem modOst_osq (f : Ost → Ost) (s : State) : (s.modOst f).osq = s.osq := rfl
@[simp] theorem modOst_ost (f : Ost → Ost) (s : State) : (s.modOst f).ost = f s.ost := rfl
@[simp] theorem modOst_aeu (f : Ost → Ost) (s : State) : (s.modOst f).aeu = s.aeu := rfl
@[simp] theorem modOst_lst (f : Ost → Ost) (s : State) : (s.modOst f).lst = s.lst := rfl
@[simp] theorem modOst_held (f : Ost → Ost) (s : State) : (s.modOst f).held = s.held := rfl
@[simp] theorem modOst_todo (f : Ost → Ost) (s : State) : (s.modOst f).todo = s.todo := rfl
@[simp] theorem modOst_free (f : Ost → Ost) (s : State) : (s.modOst f).free = s.free := rfl
@[simp] theorem modOst_pending (f : Ost → Ost) (s : State) : (s.modOst f).pending = s.pending := rfl

/-! ### HPA -/

@[simp] theorem modHpa_sli (f : Hpa → Hpa) (s : State) : (s.modHpa f).sli = s.sli := rfl
@[simp] theorem modHpa_amu (f : Hpa → Hpa) (s : State) : (s.modHpa f).amu = s.amu := rfl
@[simp] theorem modHpa_isc (f : Hpa → Hpa) (s : State) : (s.modHpa f).isc = s.isc := rfl
@[simp] theorem modHpa_pmn (f : Hpa → Hpa) (s : State) : (s.modHpa f).pmn = s.pmn := rfl
@[simp] theorem modHpa_cev (f : Hpa → Hpa) (s : State) : (s.modHpa f).cev = s.cev := rfl
@[simp] theorem modHpa_hpa (f : Hpa → Hpa) (s : State) : (s.modHpa f).hpa = (f s.hpa).tidy s.tune.idleTime := rfl
@[simp] theorem modHpa_ldu (f : Hpa → Hpa) (s : State) : (s.modHpa f).ldu = s.ldu := rfl
@[simp] theorem modHpa_adu (f : Hpa → Hpa) (s : State) : (s.modHpa f).adu = s.adu := rfl
@[simp] theorem modHpa_osq (f : Hpa → Hpa) (s : State) : (s.modHpa f).osq = s.osq := rfl
@[simp] theorem modHpa_ost (f : Hpa → Hpa) (s : State) : (s.modHpa f).ost = s.ost := rfl
@[simp] theorem modHpa_aeu (f : Hpa → Hpa) (s : State) : (s.modHpa f).aeu = s.aeu := rfl
@[simp] theorem modHpa_lst (f : Hpa → Hpa) (s : State) : (s.modHpa f).lst = s.lst := rfl
@[simp] theorem modHpa_held (f : Hpa → Hpa) (s : State) : (s.modHpa f).held = s.held := rfl
@[simp] theorem modHpa_todo (f : Hpa → Hpa) (s : State) : (s.modHpa f).todo = s.todo := rfl
@[simp] theorem modHpa_free (f : Hpa → Hpa) (s : State) : (s.modHpa f).free = s.free := rfl
@[simp] theorem modHpa_pending (f : Hpa → Hpa) (s : State) : (s.modHpa f).pending = s.pending := rfl

/-! ### LDU -/

@[simp] theorem modLdu_sli (m : Nat) (f : GroupMotion → GroupMotion) (s : State) : (s.modLdu m f).sli = s.sli := rfl
@[simp] theorem modLdu_amu (m : Nat) (f : GroupMotion → GroupMotion) (s : State) : (s.modLdu m f).amu = s.amu := rfl
@[simp] theorem modLdu_isc (m : Nat) (f : GroupMotion → GroupMotion) (s : State) : (s.modLdu m f).isc = s.isc := rfl
@[simp] theorem modLdu_pmn (m : Nat) (f : GroupMotion → GroupMotion) (s : State) : (s.modLdu m f).pmn = s.pmn := rfl
@[simp] theorem modLdu_cev (m : Nat) (f : GroupMotion → GroupMotion) (s : State) : (s.modLdu m f).cev = s.cev := rfl
@[simp] theorem modLdu_hpa (m : Nat) (f : GroupMotion → GroupMotion) (s : State) : (s.modLdu m f).hpa = s.hpa := rfl
@[simp] theorem modLdu_ldu (m : Nat) (f : GroupMotion → GroupMotion) (s : State) : (s.modLdu m f).ldu = { motions := tmod s.ldu.motions m f } := rfl
@[simp] theorem modLdu_adu (m : Nat) (f : GroupMotion → GroupMotion) (s : State) : (s.modLdu m f).adu = s.adu := rfl
@[simp] theorem modLdu_osq (m : Nat) (f : GroupMotion → GroupMotion) (s : State) : (s.modLdu m f).osq = s.osq := rfl
@[simp] theorem modLdu_ost (m : Nat) (f : GroupMotion → GroupMotion) (s : State) : (s.modLdu m f).ost = s.ost := rfl
@[simp] theorem modLdu_aeu (m : Nat) (f : GroupMotion → GroupMotion) (s : State) : (s.modLdu m f).aeu = s.aeu := rfl
@[simp] theorem modLdu_lst (m : Nat) (f : GroupMotion → GroupMotion) (s : State) : (s.modLdu m f).lst = s.lst := rfl
@[simp] theorem modLdu_held (m : Nat) (f : GroupMotion → GroupMotion) (s : State) : (s.modLdu m f).held = s.held := rfl
@[simp] theorem modLdu_todo (m : Nat) (f : GroupMotion → GroupMotion) (s : State) : (s.modLdu m f).todo = s.todo := rfl
@[simp] theorem modLdu_free (m : Nat) (f : GroupMotion → GroupMotion) (s : State) : (s.modLdu m f).free = s.free := rfl
@[simp] theorem modLdu_pending (m : Nat) (f : GroupMotion → GroupMotion) (s : State) : (s.modLdu m f).pending = s.pending := rfl

/-! ### ADU -/

@[simp] theorem modAdu_sli (m : Nat) (f : AxisMotion → AxisMotion) (s : State) : (s.modAdu m f).sli = s.sli := rfl
@[simp] theorem modAdu_amu (m : Nat) (f : AxisMotion → AxisMotion) (s : State) : (s.modAdu m f).amu = s.amu := rfl
@[simp] theorem modAdu_isc (m : Nat) (f : AxisMotion → AxisMotion) (s : State) : (s.modAdu m f).isc = s.isc := rfl
@[simp] theorem modAdu_pmn (m : Nat) (f : AxisMotion → AxisMotion) (s : State) : (s.modAdu m f).pmn = s.pmn := rfl
@[simp] theorem modAdu_cev (m : Nat) (f : AxisMotion → AxisMotion) (s : State) : (s.modAdu m f).cev = s.cev := rfl
@[simp] theorem modAdu_hpa (m : Nat) (f : AxisMotion → AxisMotion) (s : State) : (s.modAdu m f).hpa = s.hpa := rfl
@[simp] theorem modAdu_ldu (m : Nat) (f : AxisMotion → AxisMotion) (s : State) : (s.modAdu m f).ldu = s.ldu := rfl
@[simp] theorem modAdu_adu (m : Nat) (f : AxisMotion → AxisMotion) (s : State) : (s.modAdu m f).adu = { s.adu with motions := tmod s.adu.motions m f } := rfl
@[simp] theorem modAdu_osq (m : Nat) (f : AxisMotion → AxisMotion) (s : State) : (s.modAdu m f).osq = s.osq := rfl
@[simp] theorem modAdu_ost (m : Nat) (f : AxisMotion → AxisMotion) (s : State) : (s.modAdu m f).ost = s.ost := rfl
@[simp] theorem modAdu_aeu (m : Nat) (f : AxisMotion → AxisMotion) (s : State) : (s.modAdu m f).aeu = s.aeu := rfl
@[simp] theorem modAdu_lst (m : Nat) (f : AxisMotion → AxisMotion) (s : State) : (s.modAdu m f).lst = s.lst := rfl
@[simp] theorem modAdu_held (m : Nat) (f : AxisMotion → AxisMotion) (s : State) : (s.modAdu m f).held = s.held := rfl
@[simp] theorem modAdu_todo (m : Nat) (f : AxisMotion → AxisMotion) (s : State) : (s.modAdu m f).todo = s.todo := rfl
@[simp] theorem modAdu_free (m : Nat) (f : AxisMotion → AxisMotion) (s : State) : (s.modAdu m f).free = s.free := rfl
@[simp] theorem modAdu_pending (m : Nat) (f : AxisMotion → AxisMotion) (s : State) : (s.modAdu m f).pending = s.pending := rfl

/-! ### The context -/

@[simp] theorem modCtx_sli (f : Context → Context) (s : State) : (s.modCtx f).sli = s.sli := rfl
@[simp] theorem modCtx_amu (f : Context → Context) (s : State) : (s.modCtx f).amu = s.amu := rfl
@[simp] theorem modCtx_isc (f : Context → Context) (s : State) : (s.modCtx f).isc = s.isc := rfl
@[simp] theorem modCtx_pmn (f : Context → Context) (s : State) : (s.modCtx f).pmn = s.pmn := rfl
@[simp] theorem modCtx_cev (f : Context → Context) (s : State) : (s.modCtx f).cev = s.cev := rfl
@[simp] theorem modCtx_hpa (f : Context → Context) (s : State) : (s.modCtx f).hpa = s.hpa := rfl
@[simp] theorem modCtx_ldu (f : Context → Context) (s : State) : (s.modCtx f).ldu = s.ldu := rfl
@[simp] theorem modCtx_adu (f : Context → Context) (s : State) : (s.modCtx f).adu = s.adu := rfl
@[simp] theorem modCtx_osq (f : Context → Context) (s : State) : (s.modCtx f).osq = { s.osq with context := s.osq.context.map f } := rfl
@[simp] theorem modCtx_ost (f : Context → Context) (s : State) : (s.modCtx f).ost = s.ost := rfl
@[simp] theorem modCtx_aeu (f : Context → Context) (s : State) : (s.modCtx f).aeu = s.aeu := rfl
@[simp] theorem modCtx_lst (f : Context → Context) (s : State) : (s.modCtx f).lst = s.lst := rfl
@[simp] theorem modCtx_held (f : Context → Context) (s : State) : (s.modCtx f).held = s.held := rfl
@[simp] theorem modCtx_todo (f : Context → Context) (s : State) : (s.modCtx f).todo = s.todo := rfl
@[simp] theorem modCtx_free (f : Context → Context) (s : State) : (s.modCtx f).free = s.free := rfl
@[simp] theorem modCtx_pending (f : Context → Context) (s : State) : (s.modCtx f).pending = s.pending := rfl

/-! ### The jog -/

@[simp] theorem modJog_sli (f : Jog → Jog) (s : State) : (s.modJog f).sli = s.sli := rfl
@[simp] theorem modJog_amu (f : Jog → Jog) (s : State) : (s.modJog f).amu = s.amu := rfl
@[simp] theorem modJog_isc (f : Jog → Jog) (s : State) : (s.modJog f).isc = s.isc := rfl
@[simp] theorem modJog_pmn (f : Jog → Jog) (s : State) : (s.modJog f).pmn = s.pmn := rfl
@[simp] theorem modJog_cev (f : Jog → Jog) (s : State) : (s.modJog f).cev = s.cev := rfl
@[simp] theorem modJog_hpa (f : Jog → Jog) (s : State) : (s.modJog f).hpa = s.hpa := rfl
@[simp] theorem modJog_ldu (f : Jog → Jog) (s : State) : (s.modJog f).ldu = s.ldu := rfl
@[simp] theorem modJog_adu (f : Jog → Jog) (s : State) : (s.modJog f).adu = s.adu := rfl
@[simp] theorem modJog_osq (f : Jog → Jog) (s : State) : (s.modJog f).osq = { s.osq with jog := s.osq.jog.map f } := rfl
@[simp] theorem modJog_ost (f : Jog → Jog) (s : State) : (s.modJog f).ost = s.ost := rfl
@[simp] theorem modJog_aeu (f : Jog → Jog) (s : State) : (s.modJog f).aeu = s.aeu := rfl
@[simp] theorem modJog_lst (f : Jog → Jog) (s : State) : (s.modJog f).lst = s.lst := rfl
@[simp] theorem modJog_held (f : Jog → Jog) (s : State) : (s.modJog f).held = s.held := rfl
@[simp] theorem modJog_todo (f : Jog → Jog) (s : State) : (s.modJog f).todo = s.todo := rfl
@[simp] theorem modJog_free (f : Jog → Jog) (s : State) : (s.modJog f).free = s.free := rfl
@[simp] theorem modJog_pending (f : Jog → Jog) (s : State) : (s.modJog f).pending = s.pending := rfl

/-! ### Links -/

@[simp] theorem modLink_amu (st : Station) (f : Link → Link) (s : State) : (s.modLink st f).amu = s.amu := by cases st <;> rfl
@[simp] theorem modLink_isc (st : Station) (f : Link → Link) (s : State) : (s.modLink st f).isc = s.isc := by cases st <;> rfl
@[simp] theorem modLink_pmn (st : Station) (f : Link → Link) (s : State) : (s.modLink st f).pmn = s.pmn := by cases st <;> rfl
@[simp] theorem modLink_cev (st : Station) (f : Link → Link) (s : State) : (s.modLink st f).cev = s.cev := by cases st <;> rfl
@[simp] theorem modLink_hpa (st : Station) (f : Link → Link) (s : State) : (s.modLink st f).hpa = s.hpa := by cases st <;> rfl
@[simp] theorem modLink_ldu (st : Station) (f : Link → Link) (s : State) : (s.modLink st f).ldu = s.ldu := by cases st <;> rfl
@[simp] theorem modLink_adu (st : Station) (f : Link → Link) (s : State) : (s.modLink st f).adu = s.adu := by cases st <;> rfl
@[simp] theorem modLink_osq (st : Station) (f : Link → Link) (s : State) : (s.modLink st f).osq = s.osq := by cases st <;> rfl
@[simp] theorem modLink_ost (st : Station) (f : Link → Link) (s : State) : (s.modLink st f).ost = s.ost := by cases st <;> rfl
@[simp] theorem modLink_aeu (st : Station) (f : Link → Link) (s : State) : (s.modLink st f).aeu = s.aeu := by cases st <;> rfl
@[simp] theorem modLink_lst (st : Station) (f : Link → Link) (s : State) : (s.modLink st f).lst = s.lst := by cases st <;> rfl
@[simp] theorem modLink_held (st : Station) (f : Link → Link) (s : State) : (s.modLink st f).held = s.held := by cases st <;> rfl
@[simp] theorem modLink_todo (st : Station) (f : Link → Link) (s : State) : (s.modLink st f).todo = s.todo := by cases st <;> rfl
@[simp] theorem modLink_free (st : Station) (f : Link → Link) (s : State) : (s.modLink st f).free = s.free := by cases st <;> rfl
@[simp] theorem modLink_pending (st : Station) (f : Link → Link) (s : State) : (s.modLink st f).pending = s.pending := by cases st <;> rfl

/-! ### Replies -/

@[simp] theorem setReply_amu (st : Station) (k : Byte) (r : Result) (x : List Byte) (s : State) : (s.setReply st k r x).amu = s.amu := by cases st <;> rfl
@[simp] theorem setReply_isc (st : Station) (k : Byte) (r : Result) (x : List Byte) (s : State) : (s.setReply st k r x).isc = s.isc := by cases st <;> rfl
@[simp] theorem setReply_pmn (st : Station) (k : Byte) (r : Result) (x : List Byte) (s : State) : (s.setReply st k r x).pmn = s.pmn := by cases st <;> rfl
@[simp] theorem setReply_cev (st : Station) (k : Byte) (r : Result) (x : List Byte) (s : State) : (s.setReply st k r x).cev = s.cev := by cases st <;> rfl
@[simp] theorem setReply_hpa (st : Station) (k : Byte) (r : Result) (x : List Byte) (s : State) : (s.setReply st k r x).hpa = s.hpa := by cases st <;> rfl
@[simp] theorem setReply_ldu (st : Station) (k : Byte) (r : Result) (x : List Byte) (s : State) : (s.setReply st k r x).ldu = s.ldu := by cases st <;> rfl
@[simp] theorem setReply_adu (st : Station) (k : Byte) (r : Result) (x : List Byte) (s : State) : (s.setReply st k r x).adu = s.adu := by cases st <;> rfl
@[simp] theorem setReply_osq (st : Station) (k : Byte) (r : Result) (x : List Byte) (s : State) : (s.setReply st k r x).osq = s.osq := by cases st <;> rfl
@[simp] theorem setReply_ost (st : Station) (k : Byte) (r : Result) (x : List Byte) (s : State) : (s.setReply st k r x).ost = s.ost := by cases st <;> rfl
@[simp] theorem setReply_aeu (st : Station) (k : Byte) (r : Result) (x : List Byte) (s : State) : (s.setReply st k r x).aeu = s.aeu := by cases st <;> rfl
@[simp] theorem setReply_lst (st : Station) (k : Byte) (r : Result) (x : List Byte) (s : State) : (s.setReply st k r x).lst = s.lst := by cases st <;> rfl
@[simp] theorem setReply_held (st : Station) (k : Byte) (r : Result) (x : List Byte) (s : State) : (s.setReply st k r x).held = s.held := by cases st <;> rfl
@[simp] theorem setReply_todo (st : Station) (k : Byte) (r : Result) (x : List Byte) (s : State) : (s.setReply st k r x).todo = s.todo := by cases st <;> rfl
@[simp] theorem setReply_free (st : Station) (k : Byte) (r : Result) (x : List Byte) (s : State) : (s.setReply st k r x).free = s.free := by cases st <;> rfl
@[simp] theorem setReply_pending (st : Station) (k : Byte) (r : Result) (x : List Byte) (s : State) : (s.setReply st k r x).pending = s.pending := by cases st <;> rfl

/-! ### Links read after a change -/

@[simp] theorem link_modLink_self (st : Station) (f : Link → Link) (s : State) : (s.modLink st f).link st = f (s.link st) := by
  cases st <;> rfl

theorem link_modLink_of_ne {st su : Station} (h : st ≠ su) (f : Link → Link) (s : State) : (s.modLink st f).link su = s.link su := by
  cases st <;> cases su <;> first | rfl | exact absurd rfl h

@[simp] theorem link_setReply_self (st : Station) (k : Byte) (r : Result) (x : List Byte) (s : State) :
    (s.setReply st k r x).link st = { s.link st with reply := some { kind := k, result := r, fields := x } } := by
  cases st <;> rfl

theorem link_setReply_of_ne {st su : Station} (h : st ≠ su) (k : Byte) (r : Result) (x : List Byte) (s : State) :
    (s.setReply st k r x).link su = s.link su := link_modLink_of_ne h _ s

/-- The later of two changes of one link stands over the earlier. -/
theorem modLink_modLink (st : Station) (f g : Link → Link) (s : State) : (s.modLink st f).modLink st g = s.modLink st (fun l => g (f l)) := by
  cases st <;> rfl

/-! ### Hold-to-run -/

/-- A record without RUN, or from a station that does not hold authority, leaves hold-to-run as it was (R180). -/
theorem takeRun_of_not {st : Station} {run : Bool} {s : State} (h : (run && s.holds st) = false) : s.takeRun st run = s := by
  simp [State.takeRun, h]

/-- A record with RUN from the holder restarts hold-to-run at 0.4 s (R180). -/
theorem takeRun_of_holder {st : Station} {s : State} (h : s.holds st = true) :
    s.takeRun st true = { s with amu := { s.amu with runTimer := some Config.holdToRunTime } } := by
  simp [State.takeRun, h]

@[simp] theorem takeRun_sli (st : Station) (run : Bool) (s : State) : (s.takeRun st run).sli = s.sli := by unfold State.takeRun; split <;> rfl
@[simp] theorem takeRun_isc (st : Station) (run : Bool) (s : State) : (s.takeRun st run).isc = s.isc := by unfold State.takeRun; split <;> rfl
@[simp] theorem takeRun_pmn (st : Station) (run : Bool) (s : State) : (s.takeRun st run).pmn = s.pmn := by unfold State.takeRun; split <;> rfl
@[simp] theorem takeRun_cev (st : Station) (run : Bool) (s : State) : (s.takeRun st run).cev = s.cev := by unfold State.takeRun; split <;> rfl
@[simp] theorem takeRun_hpa (st : Station) (run : Bool) (s : State) : (s.takeRun st run).hpa = s.hpa := by unfold State.takeRun; split <;> rfl
@[simp] theorem takeRun_ldu (st : Station) (run : Bool) (s : State) : (s.takeRun st run).ldu = s.ldu := by unfold State.takeRun; split <;> rfl
@[simp] theorem takeRun_adu (st : Station) (run : Bool) (s : State) : (s.takeRun st run).adu = s.adu := by unfold State.takeRun; split <;> rfl
@[simp] theorem takeRun_osq (st : Station) (run : Bool) (s : State) : (s.takeRun st run).osq = s.osq := by unfold State.takeRun; split <;> rfl
@[simp] theorem takeRun_ost (st : Station) (run : Bool) (s : State) : (s.takeRun st run).ost = s.ost := by unfold State.takeRun; split <;> rfl
@[simp] theorem takeRun_aeu (st : Station) (run : Bool) (s : State) : (s.takeRun st run).aeu = s.aeu := by unfold State.takeRun; split <;> rfl
@[simp] theorem takeRun_lst (st : Station) (run : Bool) (s : State) : (s.takeRun st run).lst = s.lst := by unfold State.takeRun; split <;> rfl
@[simp] theorem takeRun_held (st : Station) (run : Bool) (s : State) : (s.takeRun st run).held = s.held := by unfold State.takeRun; split <;> rfl
@[simp] theorem takeRun_todo (st : Station) (run : Bool) (s : State) : (s.takeRun st run).todo = s.todo := by unfold State.takeRun; split <;> rfl
@[simp] theorem takeRun_free (st : Station) (run : Bool) (s : State) : (s.takeRun st run).free = s.free := by unfold State.takeRun; split <;> rfl
@[simp] theorem takeRun_pending (st : Station) (run : Bool) (s : State) : (s.takeRun st run).pending = s.pending := by unfold State.takeRun; split <;> rfl
@[simp] theorem takeRun_holder (st : Station) (run : Bool) (s : State) : (s.takeRun st run).amu.holder = s.amu.holder := by
  unfold State.takeRun; split <;> rfl
@[simp] theorem takeRun_mode (st : Station) (run : Bool) (s : State) : (s.takeRun st run).amu.mode = s.amu.mode := by
  unfold State.takeRun; split <;> rfl
@[simp] theorem takeRun_consent (st : Station) (run : Bool) (s : State) : (s.takeRun st run).amu.consent = s.amu.consent := by
  unfold State.takeRun; split <;> rfl
@[simp] theorem takeRun_holds (st su : Station) (run : Bool) (s : State) : (s.takeRun st run).holds su = s.holds su := by
  simp [State.holds]
@[simp] theorem takeRun_busyPeriod (st : Station) (run : Bool) (s : State) : (s.takeRun st run).busyPeriod = s.busyPeriod := by
  simp [State.busyPeriod]
@[simp] theorem takeRun_layout (st : Station) (run : Bool) (s : State) : (s.takeRun st run).layout = s.layout := by
  simp [State.layout]
@[simp] theorem takeRun_link (st su : Station) (run : Bool) (s : State) : (s.takeRun st run).link su = s.link su := by
  cases su <;> simp [State.link]
@[simp] theorem takeRun_contextLive (st : Station) (run : Bool) (s : State) : (s.takeRun st run).contextLive = s.contextLive := by
  simp [State.contextLive]
@[simp] theorem takeRun_jogActive (st : Station) (run : Bool) (s : State) : (s.takeRun st run).jogActive = s.jogActive := by
  simp [State.jogActive]

end Sys2Proof.Machine
end

