-- ==== Sys2Proof/Laws/Exec.lean ====
section
/-! SUPPORT. Laws/Exec.lean: what a command can do, said once: a record command is served by some rule of its kind (R175), an event of the part is acted on unless
the part is held in reset, and what `serve` and `act` answer in each case. -/
namespace Sys2Proof.Machine

/-! ### Serving a record -/

theorem serve_of_held {s : State} (h : s.held = true) (st : Station) (run : Bool) (k : Nat) (v : Service) (rule : State → Answer) :
    s.serve st run k v rule = s := by simp [State.serve, h]

/-- In a BUSY period a kind that is not served there is answered BUSY (R175). -/
theorem serve_busy {s : State} (h : s.Ready) (hb : s.busyPeriod = true) {v : Service} (hv : v.busy = true) (st : Station) (run : Bool)
    (k : Nat) (rule : State → Answer) : s.serve st run k v rule = s.answered st run k .busy := by
  simp only [State.serve, h.1, hv, takeRun_busyPeriod, hb, State.refuse, State.answered]
  simp [finish_of_todo_nil, h.2]

/-- While UNCONFIGURED a kind outside the served set is answered REFUSED_STATE (R175, R188). -/
theorem serve_unconfigured {s : State} (h : s.Ready) (hp : s.lst.phase = .unconfigured) {v : Service} (hv : v.bare = false)
    (hb : (v.busy && s.busyPeriod) = false) (st : Station) (run : Bool)
    (k : Nat) (rule : State → Answer) : s.serve st run k v rule = s.answered st run k .refusedState := by
  simp only [State.serve, h.1, takeRun_busyPeriod, hb, hv, takeRun_lst, hp, State.refuse, State.answered]
  simp [finish_of_todo_nil, h.2]

/-- Otherwise the rule of the kind answers (R175). -/
theorem serve_rule {s : State} (hh : s.held = false) {v : Service} (hb : (v.busy && s.busyPeriod) = false)
    (hp : v.bare = true ∨ s.lst.phase ≠ .unconfigured) (st : Station) (run : Bool) (k : Nat) (rule : State → Answer) :
    s.serve st run k v rule =
      (finish (rule (s.takeRun st run)).1).setReply st (BitVec.ofNat 8 (k + 128)) (rule (s.takeRun st run)).2.1 (rule (s.takeRun st run)).2.2 := by
  have : (!v.bare && (s.takeRun st run).lst.phase == .unconfigured) = false := by
    rcases hp with h | h <;> simp [h]
  simp only [State.serve, hh, takeRun_busyPeriod, hb, this, Bool.false_eq_true, if_false]

/-- A kind that is served always. -/
theorem serve_always {s : State} (hh : s.held = false) (st : Station) (run : Bool) (k : Nat) (rule : State → Answer) :
    s.serve st run k .always rule =
      (finish (rule (s.takeRun st run)).1).setReply st (BitVec.ofNat 8 (k + 128)) (rule (s.takeRun st run)).2.1 (rule (s.takeRun st run)).2.2 :=
  serve_rule hh rfl (.inl rfl) st run k rule

/-- A kind that is served in a BUSY period, not while UNCONFIGURED. -/
theorem serve_work {s : State} (hh : s.held = false) (hp : s.lst.phase ≠ .unconfigured) (st : Station) (run : Bool) (k : Nat) (rule : State → Answer) :
    s.serve st run k .work rule =
      (finish (rule (s.takeRun st run)).1).setReply st (BitVec.ofNat 8 (k + 128)) (rule (s.takeRun st run)).2.1 (rule (s.takeRun st run)).2.2 :=
  serve_rule hh rfl (.inr hp) st run k rule

/-- A kind that is served while UNCONFIGURED, not in a BUSY period. -/
theorem serve_setup {s : State} (hh : s.held = false) (hb : s.busyPeriod = false) (st : Station) (run : Bool) (k : Nat) (rule : State → Answer) :
    s.serve st run k .setup rule =
      (finish (rule (s.takeRun st run)).1).setReply st (BitVec.ofNat 8 (k + 128)) (rule (s.takeRun st run)).2.1 (rule (s.takeRun st run)).2.2 :=
  serve_rule hh (by simp [hb]) (.inl rfl) st run k rule

theorem State.Serving.busyPeriod {s : State} (h : s.Serving) : s.busyPeriod = false := by
  simp [State.busyPeriod, h.2.1, h.2.2]

theorem State.Serving.phase {s : State} (h : s.Serving) : s.lst.phase ≠ .unconfigured := by simp [h.2.1]

/-- Any kind, in a state in which every record reaches its rule. -/
theorem serve_full {s : State} (h : s.Serving) (st : Station) (run : Bool) (k : Nat) (v : Service) (rule : State → Answer) :
    s.serve st run k v rule =
      (finish (rule (s.takeRun st run)).1).setReply st (BitVec.ofNat 8 (k + 128)) (rule (s.takeRun st run)).2.1 (rule (s.takeRun st run)).2.2 :=
  serve_rule h.1.1 (by simp [h.busyPeriod]) (.inr h.phase) st run k rule

/-! ### Acting on an event -/

theorem act_of_held {s : State} (h : s.held = true) (f : State → State) : s.act f = s := by simp [State.act, h]

theorem act_of_not_held {s : State} (h : s.held = false) (f : State → State) : s.act f = finish (f s) := by simp [State.act, h]

/-- An event that changes nothing, with nothing left to settle. -/
theorem act_same {s : State} (h : s.Ready) {f : State → State} (hf : f s = s) : s.act f = s := by
  rw [act_of_not_held h.1, hf, finish_of_todo_nil h.2]

/-! ### Every command -/

/-- A record command is served by a rule of its kind. -/
theorem exec_record {c : Instr} {st : Station} {run : Bool} {k : Nat} {v : Service} (h : c.record? = some (st, run, k, v)) (s : State) :
    ∃ rule : State → Answer, exec c s = .next (s.serve st run k v rule) := by
  cases c <;> simp only [Instr.record?, reduceCtorEq, Option.some.injEq, Prod.mk.injEq] at h
  all_goals
    obtain ⟨rfl, rfl, rfl, rfl⟩ := h
    exact ⟨_, rfl⟩

end Sys2Proof.Machine
end

