-- ==== Sys2Proof/Laws/Frames.lean ====
section
/-! SUPPORT. Laws/Frames.lean: what the walk over a frame's record bytes can do, said once (R174). -/
namespace Sys2Proof.Machine

/-- One header with its body, and what stands behind it, decide how the walk goes on (R174). -/
theorem splitRecords_record (n : Nat) (r : RawRecord) (tail : List Byte) (h : r.body.length ≤ 255) :
    splitRecords (n + 1) ([r.kind, r.flags, BitVec.ofNat 8 r.body.length] ++ r.body ++ tail) =
      match tail.isEmpty, r.more with
      | true, true => .error .chain
      | true, false => .ok [r]
      | false, false => .error .length
      | false, true =>
        match splitRecords n tail with
        | .ok rs => .ok (r :: rs)
        | .error e => .error e := by
  have hl : (BitVec.ofNat 8 r.body.length).toNat = r.body.length := by simp; omega
  simp only [List.cons_append, List.nil_append, splitRecords, hl]
  rw [if_neg (by simp)]
  simp [RawRecord.more] <;> rfl

end Sys2Proof.Machine
end

