-- ==== Sys2Proof/Laws/Keeps.lean ====
section
/-! SUPPORT. Laws/Keeps.lean: how a property of states is shown to survive the settling of reports: a property that survives the changes of `Keeps`
(a change of one block that the property does not read, a recompute of CEV, AEU's acts, OST's demands, HPA's passes) survives every operation of PMN,
OST, LDU and ADU that a report calls; with `KeepsAround`, also those of OSQ that keep the context; with `KeepsOsq`, every report and `finish`. -/
namespace Sys2Proof.Machine

/-- The changes that every operation called by a report is made of. -/
structure Keeps (P : State → Prop) : Prop where
  todo       : ∀ (s : State) (x : List Task), P s → P { s with todo := x }
  pmn        : ∀ (s : State) (x : Pmn), P s → P { s with pmn := x }
  ldu        : ∀ (s : State) (x : Ldu), P s → P { s with ldu := x }
  adu        : ∀ (s : State) (x : Adu), P s → P { s with adu := x }
  recompute  : ∀ (ids : List Nat) (s : State), P s → P (State.recompute ids s)
  event      : ∀ (e : Event) (s : State), P s → P (State.event e s)
  raise      : ∀ (k : AlarmKind) (i : Nat) (s : State), P s → P (State.raise k i s)
  clearAlarm : ∀ (k : AlarmKind) (i : Nat) (s : State), P s → P (State.clearAlarm k i s)
  coil       : ∀ (out : Nat) (on : Bool) (s : State), P s →
    P (s.modOst (fun o => { o with coils := lmod o.coils out (fun c => ({ c with demand := on }).follow (s.bankOn (bankOf out))) }))
  zeroProps  : ∀ (a : Nat) (s : State), P s → P (State.zeroProps a s)
  demandProp : ∀ (m o v : Nat) (s : State), P s → P (State.demandProp m o v s)
  setPump    : ∀ (i : Nat) (st : PumpState) (c : Option PumpCause) (r : Option Nat) (s : State), P s → P (State.setPump i st c r s)
  feedback   : ∀ (i : Nat) (on : Bool) (s : State), P s → P (State.pumpFeedback i on s)
  request    : ∀ (m : Nat) (c : FlowClass) (r q : Nat) (s : State), P s → P (State.request m c r q s)
  giveUpFlow : ∀ (m : Nat) (s : State), P s → P (State.giveUpFlow m s)
  grantPass  : ∀ s : State, P s → P (State.grantPass s)

/-- The property survives every change of OSQ that keeps the operation context. -/
def KeepsAround (P : State → Prop) : Prop := ∀ (s : State) (x : Osq), x.context = s.osq.context → P s → P { s with osq := x }

/-- The property survives every change of OSQ. -/
def KeepsOsq (P : State → Prop) : Prop := ∀ (s : State) (x : Osq), P s → P { s with osq := x }

theorem KeepsOsq.around {P : State → Prop} (ho : KeepsOsq P) : KeepsAround P := fun _ _ _ => ho _ _

/-- The property `P` holds of a state; `h` says that it survives the changes above. The laws below are stated of it. -/
def Kept (P : State → Prop) (_ : Keeps P) (s : State) : Prop := P s

variable {P : State → Prop} {h : Keeps P}

/-! ### Plain changes -/

@[simp] theorem kept_todo (s : State) (x : List Task) (hs : Kept P h s) : Kept P h { s with todo := x } := h.todo _ _ hs
@[simp] theorem kept_pmn (s : State) (x : Pmn) (hs : Kept P h s) : Kept P h { s with pmn := x } := h.pmn _ _ hs
@[simp] theorem kept_ldu (s : State) (x : Ldu) (hs : Kept P h s) : Kept P h { s with ldu := x } := h.ldu _ _ hs
@[simp] theorem kept_adu (s : State) (x : Adu) (hs : Kept P h s) : Kept P h { s with adu := x } := h.adu _ _ hs
@[simp] theorem kept_emit (t : Task) (s : State) (hs : Kept P h s) : Kept P h (emit t s) := h.todo _ _ hs
@[simp] theorem kept_event (e : Event) (s : State) (hs : Kept P h s) : Kept P h (s.event e) := h.event _ _ hs
@[simp] theorem kept_raise (k : AlarmKind) (i : Nat) (s : State) (hs : Kept P h s) : Kept P h (s.raise k i) := h.raise _ _ _ hs
@[simp] theorem kept_clearAlarm (k : AlarmKind) (i : Nat) (s : State) (hs : Kept P h s) : Kept P h (s.clearAlarm k i) := h.clearAlarm _ _ _ hs
@[simp] theorem kept_recompute (ids : List Nat) (s : State) (hs : Kept P h s) : Kept P h (s.recompute ids) := h.recompute _ _ hs
@[simp] theorem kept_zeroProps (a : Nat) (s : State) (hs : Kept P h s) : Kept P h (s.zeroProps a) := h.zeroProps _ _ hs
@[simp] theorem kept_demandProp (m o v : Nat) (s : State) (hs : Kept P h s) : Kept P h (s.demandProp m o v) := h.demandProp _ _ _ _ hs
@[simp] theorem kept_setPump (i : Nat) (st : PumpState) (c : Option PumpCause) (r : Option Nat) (s : State) (hs : Kept P h s) :
    Kept P h (s.setPump i st c r) := h.setPump _ _ _ _ _ hs
@[simp] theorem kept_pumpFeedback (i : Nat) (on : Bool) (s : State) (hs : Kept P h s) : Kept P h (s.pumpFeedback i on) := h.feedback _ _ _ hs
@[simp] theorem kept_request (m : Nat) (c : FlowClass) (r q : Nat) (s : State) (hs : Kept P h s) : Kept P h (s.request m c r q) :=
  h.request _ _ _ _ _ hs
@[simp] theorem kept_giveUpFlow (m : Nat) (s : State) (hs : Kept P h s) : Kept P h (s.giveUpFlow m) := h.giveUpFlow _ _ hs
@[simp] theorem kept_grantPass (s : State) (hs : Kept P h s) : Kept P h s.grantPass := h.grantPass _ hs

/-- A walk over a list keeps what each of its acts keeps. -/
theorem kept_foldl {α : Type} (f : State → α → State) (hf : ∀ x a, Kept P h x → Kept P h (f x a)) (l : List α) (s : State) (hs : Kept P h s) :
    Kept P h (l.foldl f s) := by
  induction l generalizing s with
  | nil => exact hs
  | cons a l ih => exact ih _ (hf _ _ hs)

/-! ### CEV, PMN -/

@[simp] theorem kept_pointToCev (i : Nat) (s : State) (hs : Kept P h s) : Kept P h (s.pointToCev i) := h.recompute _ _ hs

@[simp] theorem kept_modLock (i : Nat) (g : LockDyn → LockDyn) (s : State) (hs : Kept P h s) : Kept P h (s.modLock i g) := by
  unfold State.modLock
  try dsimp only
  repeat' split
  all_goals simp (maxDischargeDepth := 40) [hs]

@[simp] theorem kept_modAxis (i : Nat) (g : AxisDyn → AxisDyn) (s : State) (hs : Kept P h s) : Kept P h (s.modAxis i g) := by
  unfold State.modAxis
  try dsimp only
  repeat' split
  all_goals simp (maxDischargeDepth := 40) [hs]

theorem kept_claim (m : Nat) (pts : List Nat) {s t : State} (hs : Kept P h s) (e : State.claim m pts s = some t) : Kept P h t := by
  unfold State.claim at e
  split at e
  · simp only [Option.some.injEq] at e
    subst e
    simp [hs]
  · simp at e

@[simp] theorem kept_release (m : Nat) (s : State) (hs : Kept P h s) : Kept P h (State.release m s) := by
  unfold State.release
  try dsimp only
  repeat' split
  all_goals simp (maxDischargeDepth := 40) [hs]

@[simp] theorem kept_handFloat (i : Nat) (s : State) (hs : Kept P h s) : Kept P h (State.handFloat i s) := by
  unfold State.handFloat
  split
  all_goals simp [hs]

@[simp] theorem kept_takeFault (i : Nat) (c : FaultCode) (s : State) (hs : Kept P h s) : Kept P h (State.takeFault i c s) := by
  unfold State.takeFault
  try dsimp only
  repeat' split
  all_goals simp (maxDischargeDepth := 40) [hs]

@[simp] theorem kept_recordFault (i : Nat) (c : FaultCode) (s : State) (hs : Kept P h s) : Kept P h (State.recordFault i c s) := by
  unfold State.recordFault
  try dsimp only
  repeat' split
  all_goals simp (maxDischargeDepth := 40) [hs]

/-! ### OST -/

@[simp] theorem kept_putDemand (out owner : Nat) (on : Bool) (s : State) (hs : Kept P h s) : Kept P h (State.putDemand out owner on s) := by
  have hc : Kept P h (s.modOst (fun o =>
      { o with coils := lmod o.coils out (fun c => ({ c with demand := on }).follow (s.bankOn (bankOf out))) })) := h.coil _ _ _ hs
  unfold State.putDemand
  dsimp only
  split
  · exact kept_recordFault _ _ _ hc
  · exact hc

@[simp] theorem kept_demandCoil (m out : Nat) (on : Bool) (s : State) (hs : Kept P h s) : Kept P h (State.demandCoil m out on s) := by
  unfold State.demandCoil
  try dsimp only
  repeat' split
  all_goals simp (maxDischargeDepth := 40) [hs]

@[simp] theorem kept_demandFloat (a out : Nat) (on : Bool) (s : State) (hs : Kept P h s) : Kept P h (State.demandFloat a out on s) := by
  unfold State.demandFloat
  try dsimp only
  repeat' split
  all_goals simp (maxDischargeDepth := 40) [hs]

/-! ### HPA -/

@[simp] theorem kept_stopPump (i : Nat) (s : State) (hs : Kept P h s) : Kept P h (State.stopPump i s) := by
  unfold State.stopPump
  try dsimp only
  repeat' split
  all_goals simp (maxDischargeDepth := 40) [hs]

@[simp] theorem kept_stopPumps (s : State) (hs : Kept P h s) : Kept P h (State.stopPumps s) :=
  kept_foldl _ (fun _ _ hx => kept_stopPump _ _ hx) _ _ hs

/-! ### LDU -/

@[simp] theorem kept_modLdu (m : Nat) (g : GroupMotion → GroupMotion) (s : State) (hs : Kept P h s) : Kept P h (State.modLdu m g s) := h.ldu _ _ hs

@[simp] theorem kept_driveLock (m p : Nat) (d : LockDir) (on : Bool) (s : State) (hs : Kept P h s) : Kept P h (State.driveLock m p d on s) := by
  unfold State.driveLock
  try dsimp only
  repeat' split
  all_goals simp (maxDischargeDepth := 40) [hs]

@[simp] theorem kept_lockOff (m p : Nat) (s : State) (hs : Kept P h s) : Kept P h (State.lockOff m p s) := by
  unfold State.lockOff
  try dsimp only
  all_goals simp (maxDischargeDepth := 40) [hs]

@[simp] theorem kept_groupOff (m : Nat) (g : GroupMotion) (s : State) (hs : Kept P h s) : Kept P h (State.groupOff m g s) :=
  kept_foldl _ (fun _ _ hx => kept_lockOff _ _ _ hx) _ _ hs

@[simp] theorem kept_lduEnd (m : Nat) (st : MotionState) (c : Option FailCause) (xs : List Nat) (s : State) (hs : Kept P h s) : Kept P h (State.lduEnd m st c xs s) := by
  unfold State.lduEnd
  try dsimp only
  repeat' split
  all_goals simp (maxDischargeDepth := 40) [hs]

@[simp] theorem kept_lduCheck (m : Nat) (s : State) (hs : Kept P h s) : Kept P h (State.lduCheck m s) := by
  unfold State.lduCheck
  try dsimp only
  repeat' split
  all_goals simp (maxDischargeDepth := 40) [hs]

@[simp] theorem kept_lduFail (m p : Nat) (c : FaultCode) (b : Bool) (s : State) (hs : Kept P h s) : Kept P h (State.lduFail m p c b s) := by
  unfold State.lduFail
  try dsimp only
  repeat' split
  all_goals simp (maxDischargeDepth := 40) [hs]

theorem kept_lduIssue (m : Nat) (o : StepRef) (g : Nat) (d : LockDir) (pts : List Nat) {s t : State} (hs : Kept P h s)
    (e : State.lduIssue m o g d pts s = some t) : Kept P h t := by
  unfold State.lduIssue at e
  split at e
  · rename_i hc
    have hf := kept_claim _ _ hs hc
    dsimp only at e
    split at e
    · simp only [Option.some.injEq] at e
      subst e
      simp [hf]
    · simp only [Option.some.injEq] at e
      subst e
      refine kept_lduEnd _ _ _ _ _ (kept_foldl _ (fun x a hx => ?_) _ _ (kept_ldu _ _ hf))
      split <;> simp [hx]
  · simp at e

@[simp] theorem kept_lduDrive (m q : Nat) (s : State) (hs : Kept P h s) : Kept P h (State.lduDrive m q s) := by
  unfold State.lduDrive
  split
  · exact hs
  · refine kept_foldl _ (fun x a hx => ?_) _ _ (kept_modLdu _ _ _ hs)
    split <;> simp [hx]

@[simp] theorem kept_lduGrant (m : Nat) (s : State) (hs : Kept P h s) : Kept P h (State.lduGrant m s) := by
  unfold State.lduGrant
  try dsimp only
  repeat' split
  all_goals simp (maxDischargeDepth := 40) [hs]

@[simp] theorem kept_lduMoved (m p : Nat) (s : State) (hs : Kept P h s) : Kept P h (State.lduMoved m p s) := by
  unfold State.lduMoved
  try dsimp only
  repeat' split
  all_goals simp (maxDischargeDepth := 40) [hs]

@[simp] theorem kept_lduFault (m p : Nat) (c : FaultCode) (b : Bool) (s : State) (hs : Kept P h s) : Kept P h (State.lduFault m p c b s) := by
  unfold State.lduFault
  try dsimp only
  repeat' split
  all_goals simp (maxDischargeDepth := 40) [hs]

@[simp] theorem kept_lduHalt (m : Nat) (w : HaltCause) (s : State) (hs : Kept P h s) : Kept P h (State.lduHalt m w s) := by
  unfold State.lduHalt
  try dsimp only
  repeat' split
  all_goals simp (maxDischargeDepth := 40) [hs]

@[simp] theorem kept_lduNoFlow (m : Nat) (s : State) (hs : Kept P h s) : Kept P h (State.lduNoFlow m s) := by
  unfold State.lduNoFlow
  try dsimp only
  repeat' split
  all_goals simp (maxDischargeDepth := 40) [hs]

@[simp] theorem kept_lduReissue (m : Nat) (s : State) (hs : Kept P h s) : Kept P h (State.lduReissue m s) := by
  unfold State.lduReissue
  split
  · exact hs
  · rename_i g hg
    split
    · dsimp only
      have hf : ∀ (f : GroupMotion → GroupMotion) (l : List Nat), Kept P h (State.lduCheck m (l.foldl (fun x p =>
          match s.faultOf p with
          | some c => x.lduFail m p c false
          | none => x.lduFail m p .sensorConflict true) (s.modLdu m f))) := by
        intro f l
        refine kept_lduCheck _ _ (kept_foldl _ (fun x a hx => ?_) _ _ (kept_modLdu _ _ _ hs))
        split <;> simp [hx]
      split
      · split
        · exact kept_request _ _ _ _ _ (hf _ _)
        · exact hf _ _
      · exact hf _ _
    · exact hs

@[simp] theorem kept_lduDrop (m : Nat) (s : State) (hs : Kept P h s) : Kept P h (State.lduDrop m s) := h.ldu _ _ hs

@[simp] theorem kept_lduWithdraw (m : Nat) (s : State) (hs : Kept P h s) : Kept P h (State.lduWithdraw m s) := by
  unfold State.lduWithdraw
  try dsimp only
  repeat' split
  all_goals simp (maxDischargeDepth := 40) [hs]

@[simp] theorem kept_lduTravelOut (m p : Nat) (s : State) (hs : Kept P h s) : Kept P h (State.lduTravelOut m p s) := by
  unfold State.lduTravelOut
  try dsimp only
  repeat' split
  all_goals simp (maxDischargeDepth := 40) [hs]

@[simp] theorem kept_lduBackOut (m p : Nat) (s : State) (hs : Kept P h s) : Kept P h (State.lduBackOut m p s) := by
  unfold State.lduBackOut
  try dsimp only
  repeat' split
  all_goals simp (maxDischargeDepth := 40) [hs]

/-! ### ADU -/

@[simp] theorem kept_modAdu (m : Nat) (g : AxisMotion → AxisMotion) (s : State) (hs : Kept P h s) : Kept P h (State.modAdu m g s) := h.adu _ _ hs

@[simp] theorem kept_setDrive (i : Nat) (d : Drive) (s : State) (hs : Kept P h s) : Kept P h (State.setDrive i d s) := by
  unfold State.setDrive
  try dsimp only
  all_goals simp (maxDischargeDepth := 40) [hs]

@[simp] theorem kept_restDrive (i : Nat) (s : State) (hs : Kept P h s) : Kept P h (State.restDrive i s) := by
  unfold State.restDrive
  try dsimp only
  repeat' split
  all_goals simp (maxDischargeDepth := 40) [hs]

@[simp] theorem kept_floatLimit (i : Nat) (s : State) (hs : Kept P h s) : Kept P h (State.floatLimit i s) := by
  unfold State.floatLimit
  try dsimp only
  repeat' split
  all_goals simp (maxDischargeDepth := 40) [hs]

@[simp] theorem kept_floatLift (i : Nat) (s : State) (hs : Kept P h s) : Kept P h (State.floatLift i s) := by
  unfold State.floatLift
  try dsimp only
  repeat' split
  all_goals simp (maxDischargeDepth := 40) [hs]

@[simp] theorem kept_floatEval (i : Nat) (s : State) (hs : Kept P h s) : Kept P h (State.floatEval i s) := by
  unfold State.floatEval
  try dsimp only
  all_goals simp (maxDischargeDepth := 40) [hs]

@[simp] theorem kept_floatEnd (i : Nat) (s : State) (hs : Kept P h s) : Kept P h (State.floatEnd i s) := by
  unfold State.floatEnd
  try dsimp only
  repeat' split
  all_goals simp (maxDischargeDepth := 40) [hs]

theorem kept_floatEntry (i : Nat) {s t : State} (hs : Kept P h s) (e : State.floatEntry i s = some t) : Kept P h t := by
  unfold State.floatEntry at e
  dsimp only at e
  repeat' split at e
  all_goals simp only [Option.some.injEq, reduceCtorEq] at e
  all_goals (subst e; simp (maxDischargeDepth := 40) [hs])

@[simp] theorem kept_liftOffOut (i : Nat) (s : State) (hs : Kept P h s) : Kept P h (State.liftOffOut i s) := by
  unfold State.liftOffOut
  try dsimp only
  repeat' split
  all_goals simp (maxDischargeDepth := 40) [hs]

@[simp] theorem kept_aduEnd (m : Nat) (st : MotionState) (c : Option FailCause) (s : State) (hs : Kept P h s) : Kept P h (State.aduEnd m st c s) := by
  unfold State.aduEnd
  try dsimp only
  repeat' split
  all_goals simp (maxDischargeDepth := 40) [hs]

@[simp] theorem kept_moveRequest (m : Nat) (s : State) (hs : Kept P h s) : Kept P h (State.moveRequest m s) := by
  unfold State.moveRequest
  try dsimp only
  repeat' split
  all_goals simp (maxDischargeDepth := 40) [hs]

theorem kept_aduIssue (m : Nat) (o : StepRef) (i T : Nat) (l : Bool) {s t : State} (hs : Kept P h s)
    (e : State.aduIssue m o i T l s = some t) : Kept P h t := by
  unfold State.aduIssue at e
  split at e
  · simp at e
  · rename_i hc
    have hf := kept_claim _ _ hs hc
    dsimp only at e
    split at e <;> (simp only [Option.some.injEq] at e; subst e; simp (maxDischargeDepth := 40) [hf])

@[simp] theorem kept_driveAxis (m : Nat) (d : AxisDef) (dir : AxisDir) (v : Nat) (s : State) (hs : Kept P h s) : Kept P h (State.driveAxis m d dir v s) := by
  unfold State.driveAxis
  try dsimp only
  all_goals simp (maxDischargeDepth := 40) [hs]

@[simp] theorem kept_aduInterval (m : Nat) (s : State) (hs : Kept P h s) : Kept P h (State.aduInterval m s) := by
  unfold State.aduInterval
  try dsimp only
  repeat' split
  all_goals simp (maxDischargeDepth := 40) [hs]

@[simp] theorem kept_aduGo (m : Nat) (s : State) (hs : Kept P h s) : Kept P h (State.aduGo m s) := by
  unfold State.aduGo
  try dsimp only
  repeat' split
  all_goals simp (maxDischargeDepth := 40) [hs]

@[simp] theorem kept_aduStart (m q : Nat) (s : State) (hs : Kept P h s) : Kept P h (State.aduStart m q s) := by
  unfold State.aduStart
  try dsimp only
  repeat' split
  all_goals simp (maxDischargeDepth := 40) [hs]

@[simp] theorem kept_aduGrant (m : Nat) (s : State) (hs : Kept P h s) : Kept P h (State.aduGrant m s) := by
  unfold State.aduGrant
  try dsimp only
  repeat' split
  all_goals simp (maxDischargeDepth := 40) [hs]

@[simp] theorem kept_aduReduced (m : Nat) (s : State) (hs : Kept P h s) : Kept P h (State.aduReduced m s) := by
  unfold State.aduReduced
  try dsimp only
  repeat' split
  all_goals simp (maxDischargeDepth := 40) [hs]

@[simp] theorem kept_aduStall (m : Nat) (s : State) (hs : Kept P h s) : Kept P h (State.aduStall m s) := by
  unfold State.aduStall
  try dsimp only
  repeat' split
  all_goals simp (maxDischargeDepth := 40) [hs]

@[simp] theorem kept_aduTravelOut (m : Nat) (s : State) (hs : Kept P h s) : Kept P h (State.aduTravelOut m s) := by
  unfold State.aduTravelOut
  try dsimp only
  repeat' split
  all_goals simp (maxDischargeDepth := 40) [hs]

@[simp] theorem kept_aduSettleEnd (m : Nat) (s : State) (hs : Kept P h s) : Kept P h (State.aduSettleEnd m s) := by
  unfold State.aduSettleEnd
  try dsimp only
  repeat' split
  all_goals simp (maxDischargeDepth := 40) [hs]

@[simp] theorem kept_aduFault (m p : Nat) (c : FaultCode) (b : Bool) (s : State) (hs : Kept P h s) : Kept P h (State.aduFault m p c b s) := by
  unfold State.aduFault
  try dsimp only
  repeat' split
  all_goals simp (maxDischargeDepth := 40) [hs]

@[simp] theorem kept_aduHalt (m : Nat) (w : HaltCause) (s : State) (hs : Kept P h s) : Kept P h (State.aduHalt m w s) := by
  unfold State.aduHalt
  try dsimp only
  repeat' split
  all_goals simp (maxDischargeDepth := 40) [hs]

@[simp] theorem kept_aduNoFlow (m : Nat) (s : State) (hs : Kept P h s) : Kept P h (State.aduNoFlow m s) := by
  unfold State.aduNoFlow
  try dsimp only
  repeat' split
  all_goals simp (maxDischargeDepth := 40) [hs]

@[simp] theorem kept_aduReissue (m : Nat) (s : State) (hs : Kept P h s) : Kept P h (State.aduReissue m s) := by
  unfold State.aduReissue
  try dsimp only
  repeat' split
  all_goals simp (maxDischargeDepth := 40) [hs]

@[simp] theorem kept_aduDrop (m : Nat) (s : State) (hs : Kept P h s) : Kept P h (State.aduDrop m s) := h.adu _ _ hs

@[simp] theorem kept_aduWithdraw (m : Nat) (s : State) (hs : Kept P h s) : Kept P h (State.aduWithdraw m s) := by
  unfold State.aduWithdraw
  try dsimp only
  repeat' split
  all_goals simp (maxDischargeDepth := 40) [hs]

/-! ### OSQ -/

@[simp] theorem kept_osq (ho : KeepsOsq P) (s : State) (x : Osq) (hs : Kept P h s) : Kept P h { s with osq := x } := ho _ _ hs

@[simp] theorem kept_modCtx (ho : KeepsOsq P) (g : Context → Context) (s : State) (hs : Kept P h s) : Kept P h (State.modCtx g s) := ho _ _ hs

@[simp] theorem kept_modEntry (k : Nat) (g : Entry → Entry) (ho : KeepsOsq P) (s : State) (hs : Kept P h s) : Kept P h (State.modEntry k g s) := by
  unfold State.modEntry
  try dsimp only
  all_goals simp (maxDischargeDepth := 40) [hs, ho]

@[simp] theorem kept_addEntry (e : Entry) (ho : KeepsOsq P) (s : State) (hs : Kept P h s) : Kept P h (State.addEntry e s) := by
  unfold State.addEntry
  try dsimp only
  all_goals simp (maxDischargeDepth := 40) [hs, ho]

@[simp] theorem kept_dropMotion (m : Nat) (s : State) (hs : Kept P h s) : Kept P h (State.dropMotion m s) := by
  unfold State.dropMotion
  try dsimp only
  all_goals simp (maxDischargeDepth := 40) [hs]

@[simp] theorem kept_haltMotion (m : Nat) (w : HaltCause) (s : State) (hs : Kept P h s) : Kept P h (State.haltMotion m w s) := by
  unfold State.haltMotion
  try dsimp only
  all_goals simp (maxDischargeDepth := 40) [hs]

@[simp] theorem kept_withdrawMotion (m : Nat) (s : State) (hs : Kept P h s) : Kept P h (State.withdrawMotion m s) := by
  unfold State.withdrawMotion
  try dsimp only
  all_goals simp (maxDischargeDepth := 40) [hs]

theorem kept_onMotion (e : Entry) (g : Nat → State → State) (hg : ∀ m x, Kept P h x → Kept P h (g m x)) (s : State) (hs : Kept P h s) :
    Kept P h (e.onMotion g s) := by
  unfold Entry.onMotion
  split
  · exact hg _ _ hs
  · exact hs

@[simp] theorem kept_onMotion_drop (e : Entry) (s : State) (hs : Kept P h s) : Kept P h (e.onMotion State.dropMotion s) :=
  kept_onMotion _ _ (fun _ _ hx => kept_dropMotion _ _ hx) _ hs

@[simp] theorem kept_onMotion_halt (e : Entry) (w : HaltCause) (s : State) (hs : Kept P h s) :
    Kept P h (e.onMotion (fun m => State.haltMotion m w) s) := kept_onMotion _ _ (fun _ _ hx => kept_haltMotion _ _ _ hx) _ hs

@[simp] theorem kept_onMotion_withdraw (e : Entry) (s : State) (hs : Kept P h s) : Kept P h (e.onMotion State.withdrawMotion s) :=
  kept_onMotion _ _ (fun _ _ hx => kept_withdrawMotion _ _ hx) _ hs

@[simp] theorem kept_removeEntry (k : Nat) (ho : KeepsOsq P) (s : State) (hs : Kept P h s) : Kept P h (State.removeEntry k s) := by
  unfold State.removeEntry
  try dsimp only
  repeat' split
  all_goals simp (maxDischargeDepth := 40) [hs, ho]

@[simp] theorem kept_completeEntry (k : Nat) (ho : KeepsOsq P) (s : State) (hs : Kept P h s) : Kept P h (State.completeEntry k s) := by
  unfold State.completeEntry
  try dsimp only
  all_goals simp (maxDischargeDepth := 40) [hs, ho]

@[simp] theorem kept_hold (ho : KeepsOsq P) (s : State) (hs : Kept P h s) : Kept P h (State.hold s) := by
  unfold State.hold
  refine kept_foldl _ (fun x e hx => ?_) _ _ (kept_modCtx ho _ _ hs)
  split <;> simp [hx]

@[simp] theorem kept_giveCause (c : HoldCause) (ho : KeepsOsq P) (s : State) (hs : Kept P h s) : Kept P h (State.giveCause c s) := by
  unfold State.giveCause
  try dsimp only
  repeat' split
  all_goals simp (maxDischargeDepth := 40) [hs, ho]

@[simp] theorem kept_withdrawAll (ho : KeepsOsq P) (s : State) (hs : Kept P h s) : Kept P h (State.withdrawAll s) :=
  kept_modCtx ho _ _ (kept_foldl _ (fun _ _ hx => kept_onMotion_withdraw _ _ hx) _ _ hs)

@[simp] theorem kept_abortContext (ho : KeepsOsq P) (s : State) (hs : Kept P h s) : Kept P h (State.abortContext s) := by
  unfold State.abortContext
  try dsimp only
  repeat' split
  all_goals simp (maxDischargeDepth := 40) [hs, ho]

@[simp] theorem kept_reversal (o : Station) (ho : KeepsOsq P) (s : State) (hs : Kept P h s) : Kept P h (State.reversal o s) := by
  unfold State.reversal
  split
  · exact hs
  split
  · exact hs
  exact kept_emit _ _ (kept_event _ _ (kept_osq ho _ _ (kept_event _ _ (kept_withdrawAll ho _ hs))))

@[simp] theorem kept_failEntry (k : Nat) (c : FailCause) (ho : KeepsOsq P) (s : State) (hs : Kept P h s) : Kept P h (State.failEntry k c s) := by
  unfold State.failEntry
  try dsimp only
  repeat' split
  all_goals simp (maxDischargeDepth := 40) [hs, ho]

@[simp] theorem kept_takeOutcome (m : Nat) (ho : KeepsOsq P) (s : State) (hs : Kept P h s) : Kept P h (State.takeOutcome m s) := by
  unfold State.takeOutcome
  try dsimp only
  repeat' split
  all_goals simp (maxDischargeDepth := 40) [hs, ho]

theorem kept_tryIssue (ha : KeepsAround P) (r : StepRef) (k : StepKind) {s t : State} {m : Nat} (hs : Kept P h s) (e : State.tryIssue r k s = some (m, t)) :
    Kept P h t := by
  unfold State.tryIssue at e
  simp only [Option.map_eq_some_iff, Prod.mk.injEq] at e
  obtain ⟨x, hx, -, rfl⟩ := e
  refine ha _ _ rfl ?_
  change Kept P h x
  revert hx
  split
  · exact fun hx => kept_lduIssue _ _ _ _ _ hs hx
  · exact fun hx => kept_aduIssue _ _ _ _ _ hs hx
  all_goals simp

@[simp] theorem kept_advance (ho : KeepsOsq P) (s : State) (hs : Kept P h s) : Kept P h (State.advance s) :=
  kept_emit _ _ (kept_modCtx ho _ _ hs)

@[simp] theorem kept_issued (m : Nat) (ho : KeepsOsq P) (s : State) (hs : Kept P h s) : Kept P h (State.issued m s) := by
  unfold State.issued
  split
  · exact kept_takeOutcome _ ho _ (kept_modCtx ho _ _ hs)
  · exact kept_advance ho _ hs

@[simp] theorem kept_takeStep (ho : KeepsOsq P) (x : Context) (st : Step) (s : State) (hs : Kept P h s) : Kept P h (State.takeStep x st s) := by
  unfold State.takeStep
  try dsimp only
  repeat' split
  all_goals first
    | simp (maxDischargeDepth := 40) [hs, ho]
    | (rename_i hi; have := kept_floatEntry _ hs hi; simp (maxDischargeDepth := 40) [this, ho])
    | (rename_i hi; have := kept_tryIssue ho.around _ _ hs hi; simp (maxDischargeDepth := 40) [this, ho])

@[simp] theorem kept_issueTurn (ho : KeepsOsq P) (s : State) (hs : Kept P h s) : Kept P h (State.issueTurn s) := by
  unfold State.issueTurn
  try dsimp only
  repeat' split
  all_goals simp (maxDischargeDepth := 40) [hs, ho]

@[simp] theorem kept_resumeAccepted (ho : KeepsOsq P) (s : State) (hs : Kept P h s) : Kept P h (State.resumeAccepted s) := by
  unfold State.resumeAccepted
  try dsimp only
  repeat' split
  all_goals simp (maxDischargeDepth := 40) [hs, ho]

@[simp] theorem kept_freshStep (ho : KeepsOsq P) (k : Nat) (e : Entry) (s : State) (hs : Kept P h s) : Kept P h (State.freshStep k e s) := by
  unfold State.freshStep
  try dsimp only
  repeat' split
  all_goals first
    | simp (maxDischargeDepth := 40) [hs, ho]
    | (rename_i hi; have := kept_tryIssue ho.around _ _ (kept_removeEntry k ho _ hs) hi; simp (maxDischargeDepth := 40) [this, ho])

@[simp] theorem kept_reissueEntry (k : Nat) (e : Entry) (ho : KeepsOsq P) (s : State) (hs : Kept P h s) : Kept P h (State.reissueEntry k e s) := by
  unfold State.reissueEntry
  try dsimp only
  repeat' split
  all_goals simp (maxDischargeDepth := 40) [hs, ho]

@[simp] theorem kept_reissueTurn (ho : KeepsOsq P) (s : State) (hs : Kept P h s) : Kept P h (State.reissueTurn s) := by
  unfold State.reissueTurn
  try dsimp only
  repeat' split
  all_goals simp (maxDischargeDepth := 40) [hs, ho]

@[simp] theorem kept_offerTurn (ho : KeepsOsq P) (k : Nat) (s : State) (hs : Kept P h s) : Kept P h (State.offerTurn k s) := by
  unfold State.offerTurn
  try dsimp only
  repeat' split
  all_goals first
    | simp (maxDischargeDepth := 40) [hs, ho]
    | (rename_i hi; have := kept_tryIssue ho.around _ _ hs hi; simp (maxDischargeDepth := 40) [this, ho])

@[simp] theorem kept_takeWaits (cs : List (Nat × Tri)) (ho : KeepsOsq P) (s : State) (hs : Kept P h s) : Kept P h (State.takeWaits cs s) := by
  unfold State.takeWaits
  try dsimp only
  repeat' split
  all_goals simp (maxDischargeDepth := 40) [hs, ho]

@[simp] theorem kept_waitOut (k : Nat) (ho : KeepsOsq P) (s : State) (hs : Kept P h s) : Kept P h (State.waitOut k s) := by
  unfold State.waitOut
  try dsimp only
  repeat' split
  all_goals simp (maxDischargeDepth := 40) [hs, ho]

@[simp] theorem kept_pauseOut (k : Nat) (ho : KeepsOsq P) (s : State) (hs : Kept P h s) : Kept P h (State.pauseOut k s) := by
  unfold State.pauseOut
  try dsimp only
  repeat' split
  all_goals simp (maxDischargeDepth := 40) [hs, ho]

@[simp] theorem kept_watchOne (cs : List (Nat × Tri)) (w : Option Subject) (ho : KeepsOsq P) (s : State) (hs : Kept P h s) : Kept P h (State.watchOne cs w s) := by
  unfold State.watchOne
  try dsimp only
  repeat' split
  all_goals simp (maxDischargeDepth := 40) [hs, ho]

@[simp] theorem kept_takeChanged (ho : KeepsOsq P) (cs : List (Nat × Tri)) (s : State) (hs : Kept P h s) : Kept P h (State.takeChanged cs s) :=
  kept_emit _ _ (kept_foldl _ (fun _ _ hx => kept_watchOne _ _ ho _ hx) _ _ hs)

@[simp] theorem kept_modJog (ha : KeepsAround P) (g : Jog → Jog) (s : State) (hs : Kept P h s) : Kept P h (State.modJog g s) :=
  ha _ _ rfl hs

@[simp] theorem kept_jogOff (j : Jog) (s : State) (hs : Kept P h s) : Kept P h (State.jogOff j s) := by
  unfold State.jogOff
  try dsimp only
  repeat' split
  all_goals simp (maxDischargeDepth := 40) [hs]

@[simp] theorem kept_jogRest (j : Jog) (s : State) (hs : Kept P h s) : Kept P h (State.jogRest j s) := by
  unfold State.jogRest
  try dsimp only
  repeat' split
  all_goals simp (maxDischargeDepth := 40) [hs]

@[simp] theorem kept_endJog (c : JogEnd) (ha : KeepsAround P) (s : State) (hs : Kept P h s) : Kept P h (State.endJog c s) := by
  unfold State.endJog
  try dsimp only
  repeat' split
  all_goals simp (maxDischargeDepth := 40) [hs, ha]

@[simp] theorem kept_jogCheck (ha : KeepsAround P) (s : State) (hs : Kept P h s) : Kept P h (State.jogCheck s) := by
  unfold State.jogCheck
  try dsimp only
  repeat' split
  all_goals simp (maxDischargeDepth := 40) [hs, ha]

@[simp] theorem kept_jogGrant (ha : KeepsAround P) (s : State) (hs : Kept P h s) : Kept P h (State.jogGrant s) := by
  unfold State.jogGrant
  try dsimp only
  repeat' split
  all_goals simp (maxDischargeDepth := 40) [hs, ha]

@[simp] theorem kept_jogRevoked (ha : KeepsAround P) (s : State) (hs : Kept P h s) : Kept P h (State.jogRevoked s) := by
  unfold State.jogRevoked
  try dsimp only
  repeat' split
  all_goals simp (maxDischargeDepth := 40) [hs, ha]

@[simp] theorem kept_jogMoved (p : Nat) (ha : KeepsAround P) (s : State) (hs : Kept P h s) : Kept P h (State.jogMoved p s) := by
  unfold State.jogMoved
  try dsimp only
  repeat' split
  all_goals simp (maxDischargeDepth := 40) [hs, ha]

@[simp] theorem kept_jogOut (ha : KeepsAround P) (s : State) (hs : Kept P h s) : Kept P h (State.jogOut s) := by
  unfold State.jogOut
  try dsimp only
  repeat' split
  all_goals simp (maxDischargeDepth := 40) [hs, ha]

@[simp] theorem kept_authorityLost (st : Station) (ho : KeepsOsq P) (s : State) (hs : Kept P h s) : Kept P h (State.authorityLost st s) := by
  unfold State.authorityLost
  try dsimp only
  repeat' split
  all_goals simp (maxDischargeDepth := 40) [hs, ho, ho.around]

@[simp] theorem kept_runLapsed (ho : KeepsOsq P) (s : State) (hs : Kept P h s) : Kept P h (State.runLapsed s) := by
  unfold State.runLapsed
  try dsimp only
  repeat' split
  all_goals simp (maxDischargeDepth := 40) [hs, ho, ho.around]

@[simp] theorem kept_osqStop (ho : KeepsOsq P) (s : State) (hs : Kept P h s) : Kept P h (State.osqStop s) := by
  unfold State.osqStop
  try dsimp only
  all_goals simp (maxDischargeDepth := 40) [hs, ho, ho.around]

/-! ### The reports -/

@[simp] theorem kept_noFlow (m : Nat) (ha : KeepsAround P) (s : State) (hs : Kept P h s) : Kept P h (State.noFlow m s) := by
  unfold State.noFlow
  try dsimp only
  repeat' split
  all_goals simp (maxDischargeDepth := 40) [hs, ha]

@[simp] theorem kept_handGrant (m : Nat) (ha : KeepsAround P) (s : State) (hs : Kept P h s) : Kept P h (State.handGrant m s) := by
  unfold State.handGrant
  try dsimp only
  repeat' split
  all_goals simp (maxDischargeDepth := 40) [hs, ha]

@[simp] theorem kept_tellRevoked (m : Nat) (ha : KeepsAround P) (s : State) (hs : Kept P h s) : Kept P h (State.tellRevoked m s) := by
  unfold State.tellRevoked
  try dsimp only
  repeat' split
  all_goals simp (maxDischargeDepth := 40) [hs, ha]

@[simp] theorem kept_tellWithdrawn (m : Nat) (ha : KeepsAround P) (s : State) (hs : Kept P h s) : Kept P h (State.tellWithdrawn m s) := by
  unfold State.tellWithdrawn
  try dsimp only
  repeat' split
  all_goals simp (maxDischargeDepth := 40) [hs, ha]

@[simp] theorem kept_tellMoved (p : Nat) (ha : KeepsAround P) (s : State) (hs : Kept P h s) : Kept P h (State.tellMoved p s) := by
  unfold State.tellMoved
  try dsimp only
  repeat' split
  all_goals simp (maxDischargeDepth := 40) [hs, ha]

@[simp] theorem kept_tellFault (p : Nat) (c : FaultCode) (b : Bool) (s : State) (hs : Kept P h s) : Kept P h (State.tellFault p c b s) := by
  unfold State.tellFault
  try dsimp only
  repeat' split
  all_goals simp (maxDischargeDepth := 40) [hs]

/-- No report breaks the property. -/
theorem kept_runTask (ho : KeepsOsq P) (t : Task) (s : State) (hs : Kept P h s) : Kept P h (runTask t s) := by
  cases t <;> simp [runTask, hs, ho, ho.around]

/-- Settling does not break the property. -/
theorem kept_settle (ho : KeepsOsq P) (n : Nat) (ts : List Task) (s : State) (hs : Kept P h s) : Kept P h (settle n ts s) := by
  induction n generalizing ts s with
  | zero =>
    cases ts with
    | nil => exact hs
    | cons t ts => exact h.todo _ _ hs
  | succ n ih =>
    cases ts with
    | nil => exact hs
    | cons t ts => exact ih _ _ (h.todo _ _ (kept_runTask ho _ _ hs))

/-- A property that survives the changes of `Keeps` survives what a command sets going. -/
theorem Keeps.finish {P : State → Prop} (h : Keeps P) (ho : KeepsOsq P) {s : State} (hs : P s) : P (Machine.finish s) :=
  kept_settle (h := h) ho _ _ _ (h.todo _ _ hs)

end Sys2Proof.Machine
end

