-- ==== Sys2Proof/Laws/Tables.lean ====
section
/-! SUPPORT. Laws/Tables.lean: the small lemmas of the sparse tables and fixed lists of Ops.lean: reading after writing, removing, mapping, and that
every table operation keeps the indices in strictly rising order. -/
namespace Sys2Proof.Machine

section Tables
variable {α β : Type}

@[simp] theorem tget_nil (i : Nat) : tget ([] : Table α) i = none := rfl

theorem tget_cons (k : Nat) (a : α) (r : Table α) (i : Nat) : tget ((k, a) :: r) i = if k = i then some a else tget r i := rfl

/-- Reading an index gives what was written there, and every other index reads as before. -/
theorem tget_tput (t : Table α) (i j : Nat) (a : α) : tget (tput t i a) j = if i = j then some a else tget t j := by
  induction t with
  | nil => simp [tput, tget]
  | cons e r ih =>
    obtain ⟨k, b⟩ := e
    simp only [tput]
    split
    · simp [tget]
    · split
      · rename_i h; subst h
        simp only [tget]
        split <;> simp_all
      · simp only [tget, ih]
        split
        · rename_i h1 h2 h3; subst h3; simp; omega
        · rfl

@[simp] theorem tget_tput_self (t : Table α) (i : Nat) (a : α) : tget (tput t i a) i = some a := by simp [tget_tput]

theorem tget_tput_of_ne (t : Table α) {i j : Nat} (a : α) (h : i ≠ j) : tget (tput t i a) j = tget t j := by simp [tget_tput, h]

/-- Removing an index makes it absent and leaves the others. -/
theorem tget_tdel (t : Table α) (i j : Nat) : tget (tdel t i) j = if i = j then none else tget t j := by
  induction t with
  | nil => simp [tdel]
  | cons e r ih =>
    obtain ⟨k, b⟩ := e
    simp only [tdel] at ih
    simp only [tdel, List.filter_cons]
    split
    · rename_i hk
      simp only [tget, ih]
      by_cases h : k = j
      · subst h; simp at hk; simp [Ne.symm hk]
      · simp [h]
    · rename_i hk
      simp at hk; subst hk
      rw [ih]; simp only [tget]
      split <;> simp_all

@[simp] theorem tget_tdel_self (t : Table α) (i : Nat) : tget (tdel t i) i = none := by simp [tget_tdel]

/-- Changing the record at an index. -/
theorem tget_tmod (t : Table α) (i j : Nat) (f : α → α) :
    tget (tmod t i f) j = if i = j then (tget t j).map f else tget t j := by
  unfold tmod
  split
  · rename_i a h
    rw [tget_tput]
    split
    · rename_i e; subst e; simp [h]
    · rfl
  · rename_i h
    split
    · rename_i e; subst e; simp [h]
    · rfl

@[simp] theorem tget_tmod_self (t : Table α) (i : Nat) (f : α → α) : tget (tmod t i f) i = (tget t i).map f := by simp [tget_tmod]

/-- Changing every record. -/
@[simp] theorem tget_tmap (f : Nat → α → β) (t : Table α) (i : Nat) : tget (tmap f t) i = (tget t i).map (f i) := by
  induction t with
  | nil => rfl
  | cons e r ih =>
    obtain ⟨k, b⟩ := e
    simp only [tmap] at ih
    simp only [tmap, List.map_cons, tget, ih]
    split
    · rename_i h; subst h; rfl
    · rfl

/-- Writing or removing. -/
theorem tget_tset (t : Table α) (i j : Nat) (x : Option α) : tget (tset t i x) j = if i = j then x else tget t j := by
  cases x <;> simp [tset, tget_tput, tget_tdel]

/-- A record that reads is listed. -/
theorem mem_of_tget {t : Table α} {i : Nat} {a : α} (h : tget t i = some a) : (i, a) ∈ t := by
  induction t with
  | nil => simp at h
  | cons e r ih =>
    obtain ⟨k, b⟩ := e
    simp only [tget] at h
    split at h
    · rename_i e; subst e; simp at h; subst h; simp
    · exact List.mem_cons_of_mem _ (ih h)

/-! ### The one form of a table -/

/-- Rising order, as a relation of every record to every later one. -/
theorem tsorted_iff (t : Table α) : tsorted t = true ↔ t.Pairwise (fun a b => a.1 < b.1) := by
  induction t with
  | nil => simp [tsorted]
  | cons e r ih =>
    cases r with
    | nil => simp [tsorted]
    | cons x y =>
      simp only [tsorted, Bool.and_eq_true, decide_eq_true_eq, ih]
      constructor
      · rintro ⟨h, hr⟩
        refine List.pairwise_cons.2 ⟨fun b hb => ?_, hr⟩
        rcases List.mem_cons.1 hb with rfl | hb
        · exact h
        · exact Nat.lt_trans h ((List.pairwise_cons.1 hr).1 b hb)
      · intro h
        exact ⟨(List.pairwise_cons.1 h).1 x (by simp), (List.pairwise_cons.1 h).2⟩

theorem mem_tput {t : Table α} {i : Nat} {a : α} {e : Nat × α} (h : e ∈ tput t i a) : e = (i, a) ∨ e ∈ t := by
  induction t with
  | nil => simpa [tput] using h
  | cons x r ih =>
    simp only [tput] at h
    repeat' split at h
    all_goals simp only [List.mem_cons] at h ⊢
    · tauto
    · tauto
    · rcases h with h | h
      · exact .inr (.inl h)
      · exact (ih h).imp_right .inr

/-- Writing keeps the rising order. -/
theorem tsorted_tput (t : Table α) (i : Nat) (a : α) (h : tsorted t = true) : tsorted (tput t i a) = true := by
  rw [tsorted_iff] at h ⊢
  induction t with
  | nil => simp [tput]
  | cons x r ih =>
    obtain ⟨h1, h2⟩ := List.pairwise_cons.1 h
    simp only [tput]
    split
    · rename_i hi
      refine List.pairwise_cons.2 ⟨fun b hb => ?_, h⟩
      rcases List.mem_cons.1 hb with rfl | hb
      · exact hi
      · exact Nat.lt_trans hi (h1 b hb)
    · split
      · rename_i hi; subst hi
        exact List.pairwise_cons.2 ⟨h1, h2⟩
      · refine List.pairwise_cons.2 ⟨fun b hb => ?_, ih h2⟩
        rcases mem_tput hb with rfl | hb
        · simp only []; omega
        · exact h1 b hb

/-- Removing keeps the rising order. -/
theorem tsorted_tdel (t : Table α) (i : Nat) (h : tsorted t = true) : tsorted (tdel t i) = true := by
  rw [tsorted_iff] at h ⊢
  exact h.filter _

/-- Mapping keeps the rising order. -/
theorem tsorted_tmap {β : Type} (f : Nat → α → β) (t : Table α) (h : tsorted t = true) : tsorted (tmap f t) = true := by
  rw [tsorted_iff] at h ⊢
  exact List.pairwise_map.2 h

end Tables

/-! ### Fixed lists -/

section Lists
variable {α : Type}

@[simp] theorem length_lmod (l : List α) (i : Nat) (f : α → α) : (lmod l i f).length = l.length := by
  induction l generalizing i with
  | nil => rfl
  | cons a r ih => cases i <;> simp [lmod, ih]

/-- Changing one place of a list. -/
theorem getElem?_lmod (l : List α) (i j : Nat) (f : α → α) : (lmod l i f)[j]? = if i = j then l[j]?.map f else l[j]? := by
  induction l generalizing i j with
  | nil => cases j <;> simp [lmod]
  | cons a r ih =>
    cases i with
    | zero => cases j <;> simp [lmod]
    | succ i =>
      cases j with
      | zero => simp [lmod]
      | succ j => simp [lmod, ih]

@[simp] theorem getElem?_lmod_self (l : List α) (i : Nat) (f : α → α) : (lmod l i f)[i]? = l[i]?.map f := by simp [getElem?_lmod]

theorem getElem?_lmod_of_ne (l : List α) {i j : Nat} (f : α → α) (h : i ≠ j) : (lmod l i f)[j]? = l[j]? := by simp [getElem?_lmod, h]

theorem mem_lmod {l : List α} {i : Nat} {f : α → α} {x : α} (h : x ∈ lmod l i f) : x ∈ l ∨ ∃ a, l[i]? = some a ∧ x = f a := by
  obtain ⟨j, hj⟩ := List.getElem?_of_mem h
  rw [getElem?_lmod] at hj
  split at hj
  · rename_i e; subst e
    cases hl : l[i]? with
    | none => simp [hl] at hj
    | some a => simp [hl] at hj; exact .inr ⟨a, rfl, hj.symm⟩
  · exact .inl (List.mem_of_getElem? hj)

end Lists

end Sys2Proof.Machine
end

