-- ==== Sys2Proof/Tests/Slice0.lean ====
section
/-! SUPPORT. Tests/Slice0.lean: the smoke tests of WellFormed, the worked cases of the manual on small states, and for every statement of
Obligations.lean that has hypotheses a theorem `meets_<Name>`, with others `meets_<Name>_<part>` for some: concrete states and operands that meet
the hypotheses of each of its clauses. -/
namespace Sys2Proof.Tests
open Machine

-- One proof after another: each waits for the kernel, and a waiting proof keeps its thread.
set_option Elab.async false

/-! ### A small layout and states over it -/

/-- The visor of 1.10.1. -/
def visor : AxisDef :=
  { transA := { input := 0, closedCount := 3620, openCount := 1012 }
    transB := some { input := 1, closedCount := 980, openCount := 3596 }
    travel := 720, endBand := 10, skewLimit := 30, openOut := 0, closeOut := 1, qFull := 180, vMin := 120, vOpen := 800, vClose := 600
    approach := 60, inPos := 5, settle := 5, stallDelta := 5, stallWindow := 20, limitOpen := 600, limitClose := 600
    float := none, tip := none }

/-- The visor's travel window (1.10.1). -/
def visorWindow : Window := { enabled := true, start := 600, range := 120, level := 2, protect := false }

/-- The ramp of 1.10.1. -/
def ramp : AxisDef :=
  { transA := { input := 2, closedCount := 860, openCount := 3900 }, transB := none
    travel := 950, endBand := 15, skewLimit := 30, openOut := 2, closeOut := 3, qFull := 220, vMin := 100, vOpen := 500, vClose := 700
    approach := 80, inPos := 8, settle := 5, stallDelta := 4, stallWindow := 30, limitOpen := 900, limitClose := 900
    float := some { coil := 40, low := 780, high := 950 }
    tip := some { input := 3, fullScale := 2000, landing := 150, liftOff := 60 } }

/-- A lock with sensors and coils 2k and 2k + 1. -/
def lockAt (k : Nat) : LockDef :=
  { role := .visorLock, engagedIn := 2 * k, retractedIn := 2 * k + 1, engageCoil := 2 * k, retractCoil := 2 * k + 1, flow := 18
    travelLimit := 60 }

/-- The ferry's tuning (K is 0). -/
def tuning : Tuning :=
  { travelPromotion := 0, flowWait := 600, idleTime := 600, heelLimit := 50, pitchLimit := 30, attitudeHyst := 10, windLimit := 250
    windHyst := 20, debSensor := 30, debGeneral := 30, debFeedback := 30 }

/-- A step that joins after all. -/
def plain (k : StepKind) (f : OnFail := .hold) : Step := { kind := k, join := .afterAll, onFail := f }

/-- A layout of the visor, the ramp, two locks, one pump and two operations that reverse one another. -/
def small : Layout :=
  { header := some { visorCond := 9, innerCond := 10, deckClear := some 28, linkspan := none }
    tuning := some tuning
    pumps := [(0, { capacity := 120, startTime := 50 })]
    points := [(0, .axis visor [visorWindow]), (1, .axis ramp []), (2, .lock (lockAt 2)), (3, .lock (lockAt 3))]
    groups := [(0, { members := [2, 3], policy := .stopGroup, retryLimit := 2, backOff := 10 })]
    conditions := [(8, [⟨2, .retracted⟩, ⟨3, .retracted⟩]), (9, [⟨0, .atClosed⟩, ⟨2, .engaged⟩]), (10, [⟨1, .atClosed⟩])]
    permissives := [(0, { subject := .axis 0 .opening, require := [1, 8], forbid := [10] })]
    operations := [(0, { name := [0x4F], modes := [.harbour], list := 0, reverse := some 1 }),
      (1, { name := [0x43], modes := [.harbour], list := 1, reverse := some 0 })]
    lists := [(0, [plain (.driveGroup 0 .retract), plain (.moveAxis 0 .openEnd false) .reverse, plain (.wait 8 true 600) .reverse, plain (.pause 5)]),
      (1, [plain (.driveGroup 0 .engage)])] }

/-- The part CONFIGURED with the small layout, in HARBOUR under the bridge's authority, the emergency stop CLEAR, nothing moving. -/
def base : State :=
  ({ State.reset with
      amu := { mode := .harbour, holder := .bridge }
      isc := Isc.take small true {}
      hpa := { pumps := [(0, { capacity := 120, startTime := 50 })] }
      cev := { started := true }
      ost := { Ost.takeOwners small {} with
        banks := List.replicate 6 { startup := false, estop := false, stuck := false }
        estop := .clear
        general := true }
      aeu := { State.reset.aeu with demanding := true, general := true }
      lst := { phase := .configured, active := some small, tag := 7 } } : State).takePoints small

/-- An entry of the in-flight list for a step of list 0. -/
def entry (i : Nat) (m : Option Nat) (st : EntryState := .active) : Entry :=
  { ref := { list := 0, index := i }, step := ((small.lists[0]?.map (fun l => l.2)).getD []).getD i (plain (.pause 5)), motion := m, state := st
    remaining := some 5 }

/-- A context of operation 0. -/
def context (st : OpState) (entries : List Entry) (causes : List HoldCause := []) : Context :=
  { op := 0, name := [0x4F], origin := .bridge, state := st, pointer := { list := 0, index := 1 }, inFlight := entries, causes := causes
    start := 0 }

/-- The base state with an operation context. -/
def withOp (x : Context) (s : State := base) : State := { s with osq := { s.osq with context := some x } }

/-- A jog of the lock 2, engaging. -/
def lockJog (phase : JogPhase) : Jog :=
  { point := 2, dir := .lock .engage, station := .bridge, phase := phase, duration := 10, timer := some 10 }

/-- A jog of the visor, opening. -/
def axisJog : Jog := { point := 0, dir := .axis .opening, station := .bridge, phase := .driving, duration := 10, timer := some 10 }

/-- The base state with a jog. -/
def withJog (j : Jog) (s : State := base) : State := { s with osq := { s.osq with jog := some j } }

/-- The base state with another authority holder. -/
def heldBy (h : Holder) (s : State := base) : State := { s with amu := { s.amu with holder := h } }

/-- The base state in another mode. -/
def inMode (m : Mode) (s : State := base) : State := { s with amu := { s.amu with mode := m } }

/-- A state in another phase of the part, with a layout or without. -/
def inPhase (p : Phase) (l : Option Layout) (s : State := base) : State := { s with lst := { s.lst with phase := p, active := l } }

/-- A state whose layout is being written. -/
def writing (r : Region) (s : State := base) : State :=
  { s with lst := { s.lst with commit := .writing, pendingLayout := some (r, small) } }

/-- A state with an edit buffer of the small layout. -/
def editing (r : Region) (owner : Station) (cursor : Option (Nat × Nat) := none) (s : State := base) : State :=
  { s with lst := { s.lst with buffer := some { region := r, owner := owner, content := small, cursor := cursor } } }

/-- A state whose visor stands at p with both transducers healthy, reserved by a motion. -/
def visorAt (p : Nat) (m : Option Nat := none) (s : State := base) : State :=
  { s with
    isc := { s.isc with
      analog := tput (tput s.isc.analog 0
        { samples := [2300, 2300, 2300, 2300], filtered := some 2300, health := some .healthy })
        1 { samples := [2310, 2310, 2310, 2310], filtered := some 2310, health := some .healthy } }
    pmn := { points := tput s.pmn.points 0 (.axis
        { posA := some p, posB := some p, healthyA := true, healthyB := true, p := some p, zone := Zone.ofPosition 10 720 p
          skew := some (0 : Int), reserved := m }) } }

/-- An axis move of the visor to its open end. -/
def move (st : MotionState) : AxisMotion :=
  { owner := { list := 0, index := 1 }, axis := 0, target := 720, landing := false, dir := .opening, state := st, requested := 144, minimum := 22
    granted := some 120, travel := some 600, stall := some { left := 20, start := 360 }, settle := some 5 }

/-- The visor at p under a move of motion 0. -/
def moving (st : MotionState) (p : Nat) : State :=
  let s := withOp (context .running [entry 1 (some 0)]) (visorAt p (some 0))
  { s with
    amu := { s.amu with runTimer := some 4 }
    adu := { motions := [(0, move st)], floats := [] }
    hpa := { s.hpa with
      pumps := [(0, { capacity := 120, startTime := 50, state := .running, feedback := true })]
      grants := [{ motion := 0, cls := .travel, flow := 120, requested := 144, minimum := 22, stamp := 0 }] } }

/-- A drive of group 0 by motion 0, with members in given states. -/
def drive (st : MotionState) (m2 m3 : Member) : GroupMotion :=
  { owner := { list := 0, index := 0 }, group := 0, dir := .retract, state := st, requested := 36, granted := some 36, policy := .stopGroup
    retryLimit := 2, backOff := 10, members := [m2, m3] }

/-- A member of a drive. -/
def member (p : Nat) (st : MemberState := .driving) (retries : Nat := 0) : Member :=
  { point := p, limit := 60, state := st, travel := if st = .driving then some 60 else none
    back := if st = .backingOff then some 10 else none, retries := retries }

/-- A state in which motion 0 drives the two locks. -/
def driving (m2 : Member) (st : MotionState := .driving) : State :=
  let s := withOp (context .running [entry 0 (some 0)])
  { s with
    ldu := { motions := [(0, drive st m2 (member 3))] }
    pmn := { points := tput (tput s.pmn.points 2 (.lock { confirmed := .engaged, reserved := some 0 })) 3
                       (.lock { confirmed := .engaged, reserved := some 0 }) }
    hpa := { s.hpa with
      pumps := [(0, { capacity := 120, startTime := 50, state := .running, feedback := true })]
      grants := [{ motion := 0, cls := .locking, flow := 36, requested := 36, minimum := 36, stamp := 0 }] } }

/-- A state whose only pump is in a given state. -/
def pumpIn (st : PumpState) (feedback : Bool) (start runDown : Option Nat) (contactor : Bool := false) : State :=
  { base with
    hpa := { base.hpa with
      pumps := [(0, { capacity := 120, startTime := 50, state := st, start := start, runDown := runDown, feedback := feedback })], idle := some 600 }
    ost := { base.ost with contactors := [contactor, false, false] } }

/-- A state with coil 4, of lock 2, on. -/
def coilOn : State := { base with ost := { base.ost with coils := lmod base.ost.coils 4 (fun c => { c with demand := true, state := .on }) } }

/-- A state with proportional output 0, of the visor, at a command. -/
def propAt (v : Nat) : State := { base with ost := { base.ost with props := lmod base.ost.props 0 (fun p => { p with command := v }) } }

/-- The part after the emergency stop: banks 0 to 4 off. -/
def stopped : State :=
  { base with
    ost := { base.ost with
      estop := .active, latch := true, discrepancy := some 2
      banks := List.replicate 5 { startup := false, estop := true, stuck := false } ++ [{ startup := false, estop := false, stuck := false }] } }

/-- A state whose alarm list holds the given entries. -/
def withAlarms (xs : List Machine.Alarm) : State := { base with aeu := { base.aeu with alarms := xs } }

/-- An alarm entry of POINT_FAULT. -/
def alarm (i : Nat) (st : AlarmState) : Alarm := { kind := .pointFault, subject := i, state := st, stamp := 0 }

/-! ### Reading hypotheses about an optional value -/

theorem all_none {α : Type} {o : Option α} {P : α → Prop} (h : o = none) : ∀ x, o = some x → P x := by
  intro x hx
  rw [h] at hx
  cases hx

theorem all_some {α : Type} {o : Option α} {P : α → Prop} (a : α) (h : o = some a) (hp : P a) : ∀ x, o = some x → P x := by
  intro x hx
  rw [h] at hx
  cases hx
  exact hp

/-! ### Hypotheses that concrete states meet -/

theorem meets_XrstSwitchesOutputsOff : base.held = false := by decide +kernel

/-- The part held in reset. -/
def down : State := { base with held := true }

theorem meets_HeldPartIgnoresCommands :
    down.held = true ∧ (∀ x, Instr.timeStampTick ≠ .powerOnReset x) ∧ (∀ x, Instr.timeStampTick ≠ .xrstRelease x) ∧
      (∀ x, Instr.xrst ≠ .powerOnReset x) ∧ (∀ x, Instr.xrst ≠ .xrstRelease x) :=
  ⟨by decide +kernel, fun _ h => (nomatch h), fun _ h => (nomatch h), fun _ h => (nomatch h), fun _ h => (nomatch h)⟩

theorem meets_ResetsRestartThePart : down.held = true ∧ base.held = false := by decide +kernel

theorem meets_StartupCheckEndSetsPhase :
    (State.reset.held = false ∧ State.reset.lst.phase = .checking ∧ State.reset.aeu.AlarmsOk ∧ State.reset.ost.banks.length = 6 ∧
      State.reset.lst.active = none) ∧
    (let s := inPhase .checking (some small)
     s.held = false ∧ s.lst.phase = .checking ∧ s.aeu.AlarmsOk ∧ s.ost.banks.length = 6 ∧ s.lst.active.isSome = true) := by
  unfold Aeu.AlarmsOk
  decide +kernel

/-- The base state with a time stamp. -/
def atStamp (n : Word32) : State := { base with aeu := { base.aeu with stamp := n } }

theorem meets_TimeStampCountsTenths :
    (atStamp 4294967295).aeu.stamp = 4294967295 ∧ (atStamp 4294967294).aeu.stamp ≠ 4294967295 ∧
    (∃ t, exec (.powerOnReset strapsReset) base = .next t) ∧ (∃ t, exec .xrst base = .next t) ∧
    (∃ t, exec (.xrstRelease strapsReset) down = .next t) ∧
    ({ kind := .pumpFault, subject := 0, state := .unackActive, stamp := 5 } : Alarm) ∈ ((atStamp 5).aeu.raise .pumpFault 0).alarms :=
  ⟨by decide +kernel, by decide +kernel, ⟨_, rfl⟩, ⟨_, rfl⟩, ⟨_, rfl⟩, by decide +kernel⟩

theorem meets_StepKeepsListsInOrder :
    base.aeu.AlarmsOk ∧ base.aeu.EventsOk ∧ ∃ t, step { base with pending := [.ackAlarm .bridge false .all] } = .next t := by
  refine ⟨?_, ?_, ⟨_, rfl⟩⟩
  · unfold Aeu.AlarmsOk
    decide +kernel
  · unfold Aeu.EventsOk
    decide +kernel

theorem meets_StepKeepsAllocationWithinCapacity :
    (moving .driving 365).hpa.Within ∧ ∃ t, step { moving .driving 365 with pending := [.estopChannelChange true true] } = .next t := by
  refine ⟨?_, ⟨_, rfl⟩⟩
  unfold Hpa.Within
  decide +kernel

theorem small_outputs_ok : base.ost.OutputsOk where
  coilCount := by decide +kernel
  bankCount := by decide +kernel
  propCount := by decide +kernel
  contactorCount := by decide +kernel
  commandMax := by decide +kernel
  commandFault := by decide +kernel
  stopBanks h := by cases h
  stopContactors h := by cases h
  stopCoils h := by cases h
  stopProps h := by cases h

theorem stopped_outputs_ok : stopped.ost.OutputsOk where
  coilCount := by decide +kernel
  bankCount := by decide +kernel
  propCount := by decide +kernel
  contactorCount := by decide +kernel
  commandMax := by decide +kernel
  commandFault := by decide +kernel
  stopBanks _ := by
    intro b hb
    match b, hb with
    | 0, _ => exact ⟨_, rfl, rfl⟩
    | 1, _ => exact ⟨_, rfl, rfl⟩
    | 2, _ => exact ⟨_, rfl, rfl⟩
    | 3, _ => exact ⟨_, rfl, rfl⟩
    | 4, _ => exact ⟨_, rfl, rfl⟩
  stopContactors _ := by decide +kernel
  stopCoils _ := by
    intro k c h _
    have all : ∀ x ∈ stopped.ost.coils, x.state ≠ .on := by decide +kernel
    exact all c (List.mem_of_getElem? h)
  stopProps _ := by decide +kernel

theorem meets_StepKeepsOutputsSafe :
    base.ost.OutputsOk ∧ stopped.ost.OutputsOk ∧
      (∃ t, step { base with pending := [.estopChannelChange false true] } = .next t) ∧
      ∃ t, step { stopped with pending := [.resetEstop .bridge false] } = .next t :=
  ⟨small_outputs_ok, stopped_outputs_ok, ⟨_, rfl⟩, ⟨_, rfl⟩⟩

theorem meets_StepKeepsRelaysAsDemanded :
    base.RelaysOk ∧ ∃ t, step { base with pending := [.ackAlarm .bridge false .all] } = .next t :=
  ⟨{ general := by decide +kernel, sea := by decide +kernel, generalDemand := by decide +kernel, seaDemand := by decide +kernel }, ⟨_, rfl⟩⟩

theorem meets_StepKeepsContextConsistent :
    (withOp (context .running [entry 0 (some 0)])).osq.ContextOk ∧
      ∃ t, step { withOp (context .running [entry 0 (some 0)]) with pending := [.stop .stand false] } = .next t := by
  refine ⟨?_, ⟨_, rfl⟩⟩
  intro x hx
  cases hx
  exact ⟨by decide, fun _ => rfl, by decide, by decide, by decide, by decide⟩


/-- The bridge edits the tuning in HARBOUR with consent on and hold-to-run running. -/
def entrusted : State := { editing .tuning .bridge with amu := { mode := .harbour, holder := .bridge, runTimer := some 4, consent := true } }

theorem meets_StepKeepsAuthorityConsistent :
    entrusted.AuthorityOk ∧ (∃ t, step { entrusted with pending := [.silenceTimerExpiry .bridge] } = .next t) ∧
      ∃ t, step { entrusted with pending := [.setMode .bridge false 2] } = .next t := by
  refine ⟨⟨fun _ => rfl, fun _ h => (nomatch h), ?_, ?_⟩, ⟨_, rfl⟩, ⟨_, rfl⟩⟩
  · exact all_some _ rfl rfl
  · exact all_some _ rfl (fun h => (nomatch h))

theorem meets_LayoutRecordsReadBack :
    Header.wf { visorCond := 255, innerCond := 0, deckClear := some 255, linkspan := none } ∧ Tuning.wf { tuning with windLimit := 65535 } ∧
      (fitsWord 65535 && fitsWord 0) = true ∧ (PointBody.axis { ramp with travel := 65535 }).wf ∧
      (PointBody.lock { lockAt 2 with engageCoil := 255 }).wf ∧ Window.wf { visorWindow with level := 65535 } ∧
      GroupDef.wf { members := [255], policy := .carryOn, retryLimit := 65535, backOff := 0 } ∧
      (fitsByte 1 && [({ point := 255, req := .atLeast 65535 } : Term)].all Term.wf) = true ∧
      PermEntry.wf { subject := .axis 255 .closing, require := [], forbid := [255] } ∧
      OpDef.wf { name := [0x4F], modes := [.sea], list := 255, reverse := some 255 } ∧
      Step.wf (plain (.wait 255 false 65535)) := by
  decide +kernel

theorem meets_RecordInFrameIsItsCommand :
    let c := Instr.vesselState .bridge true (-32768) 32767 65535
    c.wf ∧ c.record? = some (.bridge, true, 0x07, .work) ∧
      (∃ r, c.raw = some r ∧ r.body.length ≤ 240) ∧ base.held = false :=
  ⟨by decide, rfl, ⟨_, rfl, by decide⟩, by decide +kernel⟩

theorem meets_BytesOfFrameAreTheFrame :
    base.held = false ∧ (base.link .stand).rx = .hunt ∧ base.completeFrame (frameBytes 0x20 [0x11, 0x00, 0x00]) := by
  decide +kernel

/-- The bridge's link in a receive state after some bytes of a frame. -/
def receiving (rx : RxState) (bytes : List Byte) (ignored : Bool := false) : State :=
  base.modLink .bridge (fun l => { l with rx := rx, bytes := bytes, ignored := ignored })

theorem meets_HuntAndDroppedFrames :
    base.held = false ∧ (base.link .bridge).rx = .hunt ∧ (0xA4 : Byte) ≠ 0xA5 ∧
      (((receiving .address []).link .bridge).rx = .address ∧ (receiving .address []).held = false) ∧
      (((receiving .length [0x20]).link .bridge).rx = .length ∧ ([0x20, 0x03] : List Byte).length < 3) ∧
      (let n (hi lo : Byte) : Nat := (([0x20, hi, lo] : List Byte).getD 1 0).toNat * 256 + (([0x20, hi, lo] : List Byte).getD 2 0).toNat
       n 0 1 = 1 ∧ n 0x03 0xFC = 1020 ∧ n 0 0 = 0 ∧ n 0x03 0xFD = 1021) ∧
      (((receiving .records [0x20, 0, 2]).link .bridge).rx = .records ∧ ([0x20, 0, 2, 0x11] : List Byte).length < 3 + 2 ∧
        3 + 2 ≤ ([0x20, 0, 2, 0x11, 0] : List Byte).length) ∧
      (let bytes : List Byte := [0x20, 0, 1, 0x11, 0, 0]
       ((receiving .check [0x20, 0, 1, 0x11, 0] true).link .bridge).ignored = true ∧ ([0x20, 0, 1, 0x11, 0] : List Byte).length < 5 + 1 ∧
         5 + 1 ≤ bytes.length ∧
         crc16 (bytes.take (bytes.length - 2)) ≠
           BitVec.ofNat 16 (((bytes.drop (bytes.length - 2)).getD 0 0).toNat * 256 + ((bytes.drop (bytes.length - 2)).getD 1 0).toNat)) ∧
      base.completeFrame (frameBytes 0x21 [0x11, 0x00, 0x00]) = false ∧
      (let bytes : List Byte := [0xA5, 0x20, 0x00, 0x03, 0x11, 0x00, 0x00, 0x00, 0x00]
       crc16 (bytes.tail.take (bytes.tail.length - 2)) ≠
         BitVec.ofNat 16 (((bytes.drop (bytes.length - 2)).getD 0 0).toNat * 256 + ((bytes.drop (bytes.length - 2)).getD 1 0).toNat)) := by
  decide +kernel

/-- Whether the record bytes of a frame are well formed. -/
def splits (bs : List Byte) : Bool :=
  match splitRecords 8 bs with
  | .ok _ => true
  | .error _ => false

theorem meets_RequestFrameHandlesItsRecords :
    base.held = false ∧ splits [0x11, 0x80, 0x00, 0x01, 0x00, 0x00] = true ∧ splits [0x11, 0x00, 0x02, 0x00] = false ∧
      splits ((List.replicate 8 [(0x01 : Byte), 0x80, 0x00]).flatten ++ [0x01, 0x00, 0x00]) = false ∧
      splits [0x11, 0x80, 0x00] = false := by
  decide +kernel

theorem meets_RecordsRefusedBeforeTheirRule :
    Instr.record? (.startOperation .stand false 0) = some (.stand, false, 0x10, .full) ∧ Service.full.busy = true ∧ Service.full.bare = false ∧
      (writing .struct).Ready ∧ (writing .struct).lst.commit = .writing ∧
      (inPhase .checking (some small)).Ready ∧ (inPhase .checking (some small)).lst.phase = .checking ∧
      (inPhase .unconfigured none).Ready ∧ (inPhase .unconfigured none).lst.phase = .unconfigured ∧
      (inPhase .unconfigured none).lst.commit ≠ .writing ∧ base.held = false := by
  unfold State.Ready
  decide +kernel

theorem meets_ClaimControlAnswers :
    base.Ready ∧ base.busyPeriod = false ∧ (8 : Word32) ≠ base.lst.tag ∧ (7 : Word32) = base.lst.tag ∧
      base.amu.holder = holderOf .bridge ∧ (heldBy .none).Ready ∧ (heldBy .none).busyPeriod = false ∧ (heldBy .none).amu.holder = .none ∧
      (heldBy .none).lst.tag = 7 ∧
      (withOp (context .running [])).Ready ∧ (withOp (context .running [])).contextLive = true ∧
      (withJog (lockJog .driving)).Ready ∧ (withJog (lockJog .driving)).jogActive = true ∧
      base.contextLive = false ∧ base.jogActive = false ∧ (heldBy .stand).Ready ∧ (heldBy .stand).amu.holder = .stand := by
  unfold State.Ready
  decide +kernel

theorem meets_ReleaseControlGivesUpAuthority :
    base.Ready ∧ base.amu.holder ≠ holderOf .stand ∧ base.amu.holder = holderOf .bridge ∧ base.contextLive = false ∧ base.jogActive = false ∧
      (withOp (context .running [entry 0 (some 0)])).osq.context = some (context .running [entry 0 (some 0)]) ∧
      (context .running [entry 0 (some 0)]).state = .running ∧ (context .running [entry 0 (some 0)]).causes = [] ∧
      (withJog (lockJog .driving)).osq.jog = some (lockJog .driving) ∧ (lockJog .driving).phase ≠ .ended ∧
      (lockJog .driving).station = .bridge := by
  unfold State.Ready
  decide +kernel

theorem meets_HoldToRunRestartsAndLapses :
    base.Ready ∧ base.lst.phase ≠ .unconfigured ∧ base.amu.holder = holderOf .bridge ∧ base.amu.holder ≠ holderOf .stand ∧
      base.amu.runTimer = none ∧
      (moving .driving 365).Ready ∧ (moving .driving 365).amu.runTimer ≠ none ∧ (moving .driving 365).travelDriving = true ∧
      (moving .driving 365).osq.context = some (context .running [entry 1 (some 0)]) ∧
      (moving .waitingFlow 365).amu.runTimer ≠ none ∧ (moving .waitingFlow 365).travelDriving = false ∧
      (withJog (lockJog .driving)).osq.jog = some (lockJog .driving) ∧ (lockJog .driving).phase ≠ .ended := by
  unfold State.Ready
  decide +kernel

/-- The base state with its closure SECURED. -/
def secured : State := { base with cev := { base.cev with closure := { visor := .secured, inner := .secured, overall := .secured } } }

theorem meets_ModeAndConsentAnswers :
    (base.Serving ∧ modeOf 0 = some .harbour ∧ modeOf 1 = some .sea ∧ modeOf 2 = some .maintenance ∧ 3 ≤ 3 ∧ base.amu.mode = .harbour ∧
      secured.Serving ∧ secured.contextLive = false ∧ secured.cev.closure.overall = .secured ∧ base.cev.closure.overall ≠ .secured ∧
      (inMode .maintenance).Serving ∧ (inMode .maintenance).contextLive = false ∧ (inMode .maintenance).jogActive = false ∧
      (withJog (lockJog .driving) (inMode .maintenance)).jogActive = true) ∧
    (base.Ready ∧ base.lst.phase ≠ .unconfigured ∧ (base.amu.consent = true → base.amu.mode = .harbour) ∧ base.lst.phase ≠ .checking ∧
      base.lst.active ≠ none ∧ base.amu.mode = .harbour ∧ base.amu.consent = false ∧ base.amu.consent ≠ true ∧ base.cev.started = true ∧
      base.cev.conds.length = 32) ∧
    ((inPhase .checking none).Ready ∧ (inPhase .checking none).lst.phase = .checking ∧ (inPhase .checking none).lst.active = none ∧
      (inPhase .checking none).amu.consent = false) ∧
    ((inMode .sea).Ready ∧ (inMode .sea).amu.consent = false ∧ (inMode .sea).amu.mode ≠ .harbour) ∧
    (entrusted.Ready ∧ entrusted.amu.consent = true ∧ entrusted.amu.mode = .harbour ∧ entrusted.amu.consent ≠ false) := by
  unfold State.Serving State.Ready
  refine ⟨?_, ?_, ?_, ?_, ?_⟩ <;> decide +kernel

theorem meets_VesselStateStoresTheData :
    base.Ready ∧ base.lst.phase ≠ .unconfigured ∧ base.lst.phase ≠ .checking ∧ (inPhase .checking none).Ready ∧
      (inPhase .checking none).lst.phase = .checking ∧ (inPhase .checking none).lst.active = none ∧ base.cev.started = true ∧
      base.cev.conds.length = 32 := by
  unfold State.Ready
  decide +kernel

theorem meets_StartOperationCreatesTheContext :
    base.Serving ∧ tget base.layout.operations 2 = none ∧ (tget base.layout.operations 0).isSome = true ∧ base.amu.holder ≠ holderOf .stand ∧
      base.amu.holder = holderOf .bridge ∧ (inMode .sea).Serving ∧ Mode.sea ∉ ([.harbour] : List Mode) ∧ Mode.harbour ∈ ([.harbour] : List Mode) ∧
      (withOp (context .running [])).Serving ∧ (withOp (context .running [])).contextLive = true ∧ base.contextLive = false ∧
      base.jogActive = false := by
  unfold State.Serving State.Ready
  decide +kernel

/-- The cause STOP_REQUEST of the bridge. -/
def stopCause : HoldCause := { kind := .stopRequest, subject := .station .bridge }

/-- A context HOLDING for a cause. -/
def holding (c : HoldCause) : Context := context .holding [entry 1 (some 0) .halted] [c]

theorem meets_StopHoldsAndCancels :
    base.Ready ∧ base.lst.phase ≠ .unconfigured ∧ base.contextLive = false ∧ base.jogActive = false ∧
      (withJog (lockJog .driving)).osq.jog = some (lockJog .driving) ∧ (lockJog .driving).phase ≠ .ended ∧
      (context .complete []).state = .complete ∧ (context .running [entry 0 (some 0)]).causes = [] ∧
      (∀ c ∈ (holding { kind := .estop, subject := .nothing }).causes, c.kind ≠ .stopRequest) ∧
      (∃ c ∈ (holding stopCause).causes, c.kind = .stopRequest) ∧
      (withOp (holding stopCause)).osq.context = some (holding stopCause) ∧ (withOp (holding stopCause)).Ready := by
  unfold State.Ready
  decide +kernel

/-- The base state with the two locks reserved by motion 0, lock 2 with a fault or without. -/
def locksHeld (fault : Option FaultCode) (s : State := base) : State :=
  { s with pmn := { points := tput (tput s.pmn.points 2 (.lock { fault := fault, reserved := some 0 })) 3 (.lock { reserved := some 0 }) } }

/-- A HOLDING context whose halted entry is the drive of group 0. -/
def driveHalted (c : HoldCause) : Context := context .holding [entry 0 (some 0) .halted] [c]

/-- The cause STEP_FAILED of the drive of group 0. -/
def failedCause : HoldCause := { kind := .stepFailed, subject := .step { list := 0, index := 0 } }

theorem meets_ResumeLeadsBackToRunning :
    base.Serving ∧ base.amu.holder ≠ holderOf .stand ∧ base.amu.holder = holderOf .bridge ∧
      (∀ x, base.osq.context = some x → x.state ≠ .holding) ∧
      (let s := withOp (holding { kind := .estop, subject := .nothing }) stopped
       s.Serving ∧ s.osq.context = some (holding { kind := .estop, subject := .nothing }) ∧
         (∃ c ∈ (holding { kind := .estop, subject := .nothing }).causes, c.kind = .estop) ∧ s.ost.estop = .active) ∧
      (let s := withOp (driveHalted stopCause) (locksHeld (some .coilFault))
       s.Serving ∧ s.osq.context = some (driveHalted stopCause) ∧
         ∃ n ∈ (driveHalted stopCause).inFlight, n.state = .halted ∧ n.motion = some 0 ∧
           ∃ p ∈ s.pmn.points, p.2.reserved = some 0 ∧ p.2.fault ≠ none) ∧
      (let s := withOp (driveHalted failedCause) (locksHeld (some .travelTimeout))
       s.Serving ∧ s.stepAt { list := 0, index := 0 } = some (plain (.driveGroup 0 .retract)) ∧
         2 ∈ s.stepPoints (.driveGroup 0 .retract) ∧ s.faultOf 2 ≠ none ∧ ∃ c ∈ (driveHalted failedCause).causes, c.kind = .stepFailed) ∧
      ((∃ n ∈ (holding stopCause).inFlight, isMove n.step.kind = true) ∧
        ∃ z, (withOp (holding stopCause)).stepAt (holding stopCause).pointer = some z ∧ isMove z.kind = true) ∧
      (let s := withOp (holding stopCause) (visorAt 365)
       s.Serving ∧ (holding stopCause).state = .holding ∧ (∀ c ∈ (holding stopCause).causes, c.kind ≠ .estop ∧ c.kind ≠ .stepFailed) ∧
         (∀ p ∈ s.pmn.points, p.2.fault = none) ∧ (holding stopCause).inFlight.findSome? s.resumePermissive = some 0) ∧
      (let s := withOp (driveHalted stopCause) (locksHeld none)
       s.Serving ∧ s.osq.context = some (driveHalted stopCause) ∧ (driveHalted stopCause).inFlight ≠ [] ∧
         (∀ c ∈ (driveHalted stopCause).causes, c.kind ≠ .estop ∧ c.kind ≠ .stepFailed) ∧ (∀ p ∈ s.pmn.points, p.2.fault = none) ∧
         (driveHalted stopCause).inFlight.findSome? s.resumePermissive = none) ∧
      (let s := withOp (context .holding [] [stopCause])
       s.Serving ∧ (context .holding [] [stopCause]).inFlight.findSome? s.resumePermissive = none) := by
  unfold State.Serving State.Ready
  refine ⟨?_, ?_, ?_, all_none rfl, ?_, ⟨?_, rfl, _, List.mem_singleton.mpr rfl, rfl, rfl, ?_⟩, ?_, ⟨⟨_, List.mem_singleton.mpr rfl, rfl⟩, _, rfl, rfl⟩, ?_, ?_, ?_⟩
  all_goals decide +kernel

/-- A HOLDING context of an operation that has no reverse. -/
def oneWay : Context := { holding stopCause with op := 9 }

theorem meets_ReverseAndAbortEndTheContext :
    (base.Serving ∧ base.amu.holder ≠ holderOf .stand ∧ base.amu.holder = holderOf .bridge ∧ base.contextLive = false) ∧
      ((withOp (holding stopCause)).Serving ∧ (withOp (holding stopCause)).osq.context = some (holding stopCause) ∧
        (holding stopCause).state = .holding ∧ ((withOp (holding stopCause)).reverseOf (holding stopCause)).isSome = true ∧
        (withOp oneWay).reverseOf oneWay = none ∧ Mode.harbour ∈ ([.harbour] : List Mode) ∧
        (∀ c ∈ (holding stopCause).causes, c.kind ≠ .estop)) ∧
      ((∃ c ∈ (holding { kind := .estop, subject := .nothing }).causes, c.kind = .estop) ∧ stopped.ost.estop = .active ∧ stopped.Serving) ∧
      (let s := driving (member 2)
       let x := context .running [entry 0 (some 0)]
       s.Serving ∧ s.amu.holder = holderOf .bridge ∧ s.osq.context = some x ∧ x.state = .running ∧ x.causes = [] ∧ (s.reverseOf x).isSome = true ∧
         s.amu.mode = .harbour ∧ (∃ n ∈ x.inFlight, n.motion = some 0) ∧ (s.ldu? 0).map (fun g => g.state) = some .driving ∧
         s.reservedBy 2 = some 0) ∧
      (let s := moving .driving 365
       s.Serving ∧ s.osq.context = some (context .running [entry 1 (some 0)]) ∧ (s.adu? 0).map (fun a => a.state) = some .driving ∧
         s.reservedBy 0 = some 0 ∧ ∃ p ∈ s.ost.props, p.owner = some 0) := by
  unfold State.Serving State.Ready
  refine ⟨?_, ?_, ?_, ?_, ?_⟩ <;> decide +kernel

theorem meets_JogClaimsThePoint :
    (let s := inMode .maintenance
     s.Serving ∧ tget s.layout.points 4 = none ∧ tget s.layout.points 3 ≠ none ∧ jogDirOf s.layout 2 0 = some (.lock .engage) ∧
       jogDirOf s.layout 0 1 = some (.axis .closing) ∧ s.amu.holder ≠ holderOf .stand ∧ s.amu.holder = holderOf .bridge ∧
       s.amu.mode = .maintenance ∧ s.ost.estop ≠ .active ∧ s.contextLive = false ∧ s.jogActive = false ∧ s.reservedBy 2 = none ∧
       s.jogThere 2 (.lock .engage) = false ∧ (tget s.pmn.points 2).isSome) ∧
    base.amu.mode ≠ .maintenance ∧ (inMode .maintenance stopped).ost.estop = .active ∧ (inMode .maintenance stopped).Serving ∧
    (withJog (lockJog .driving) (inMode .maintenance)).jogActive = true ∧ (withJog (lockJog .driving) (inMode .maintenance)).Serving ∧
    (let s := { inMode .maintenance with pmn := { points := [(2, .lock { confirmed := .engaged })] } }
     s.Serving ∧ s.reservedBy 2 = none ∧ s.jogThere 2 (.lock .engage) = true) := by
  unfold State.Serving State.Ready
  decide +kernel

/-- The base state with a fault on lock 2. -/
def faulted (c : FaultCode) (conf : Confirmed := .between) : State :=
  { base with pmn := { points := tput base.pmn.points 2 (.lock { confirmed := conf, fault := some c }) } }

theorem meets_ClearFaultAnswers :
    (base.Serving ∧ base.aeu.AlarmsOk ∧ tget base.pmn.points 4 = none ∧ base.amu.holder ≠ holderOf .stand ∧ base.amu.holder = holderOf .bridge ∧
      (tget base.pmn.points 2).map (fun d => d.fault) = some none ∧ base.degraded 2 = false ∧ (inMode .sea).Serving) ∧
    (let s := faulted .sensorConflict .conflict
     s.Serving ∧ s.aeu.AlarmsOk ∧ s.faultOf 2 = some .sensorConflict ∧ s.underlying 2 .sensorConflict = true ∧ s.amu.mode ≠ .sea) ∧
    (let s := faulted .travelTimeout
     s.Serving ∧ s.aeu.AlarmsOk ∧ s.faultOf 2 = some .travelTimeout ∧ s.underlying 2 .travelTimeout = false ∧ s.degraded 2 = false) ∧
    tget base.hpa.pumps 1 = none ∧ (tget base.hpa.pumps 0).map (fun q => q.state) = some .stopped ∧
    (let s := pumpIn .faulted true none none
     s.Serving ∧ (tget s.hpa.pumps 0).map (fun q => (q.state, q.feedback)) = some (.faulted, true)) ∧
    (let s := pumpIn .faulted false none none
     s.Serving ∧ (tget s.hpa.pumps 0).map (fun q => (q.state, q.feedback)) = some (.faulted, false) ∧ tsorted s.hpa.pumps = true ∧ s.hpa.Within ∧
       s.cev.started = true ∧ s.cev.conds.length = 32) := by
  unfold State.Serving State.Ready Aeu.AlarmsOk Hpa.Within
  refine ⟨?_, ?_, ?_, ?_, ?_, ?_, ?_⟩ <;> decide +kernel

theorem meets_ResetEstopAnswers :
    base.Serving ∧ base.aeu.AlarmsOk ∧ base.ost.estop = .clear ∧ base.amu.holder ≠ .none ∧ base.amu.holder ≠ holderOf .stand ∧
      stopped.Serving ∧ stopped.aeu.AlarmsOk ∧ stopped.ost.estop = .active ∧ stopped.amu.holder = holderOf .bridge ∧
      stopped.ost.openA = false ∧ stopped.ost.openB = false ∧ stopped.ost.latch = true ∧ stopped.cev.started = true ∧
      stopped.cev.conds.length = 32 ∧ ({ stopped with ost := { stopped.ost with openB := true } } : State).ost.openB = true ∧
      (heldBy .none stopped).amu.holder = .none := by
  unfold State.Serving State.Ready Aeu.AlarmsOk
  decide +kernel

theorem meets_EmergencyStopAndDiscrepancy :
    base.Ready ∧ base.ost.OutputsOk ∧ base.ost.estop = .clear ∧ base.ost.estop ≠ .undecided ∧
      (stopped.Ready ∧ stopped.ost.OutputsOk ∧ stopped.ost.estop ≠ .clear ∧ stopped.ost.discrepancy ≠ none) ∧ base.ost.discrepancy = none ∧
      (State.reset.Ready ∧ State.reset.ost.OutputsOk ∧ State.reset.ost.estop = .undecided) ∧ base.cev.started = true ∧
      base.cev.conds.length = 32 := by
  have o : State.reset.ost.OutputsOk :=
    { coilCount := by decide, bankCount := by decide, propCount := by decide, contactorCount := by decide, commandMax := by decide
      commandFault := by decide, stopBanks := (by intro h; cases h), stopContactors := (by intro h; cases h)
      stopCoils := (by intro h; cases h), stopProps := (by intro h; cases h) }
  refine ⟨⟨rfl, rfl⟩, small_outputs_ok, rfl, by decide +kernel, ⟨⟨rfl, rfl⟩, stopped_outputs_ok, by decide +kernel, by decide +kernel⟩, rfl,
    ⟨⟨rfl, rfl⟩, o, rfl⟩, rfl, by decide +kernel⟩

theorem meets_OutputFaultsLatch :
    coilOn.Ready ∧ coilOn.supervised 4 .on = some 2 ∧ base.supervised 4 .on = none ∧ (tget coilOn.pmn.points 2).isSome ∧
      (propAt 50).Ready ∧ (propAt 50).ost.props[0]? = some { owner := some 0, command := 50, state := .active } ∧
      (tget (propAt 50).pmn.points 0).isSome ∧ (propAt 49).ost.props[0]? = some { owner := some 0, command := 49, state := .active } ∧
      base.ost.props[7]? = some { owner := none, command := 0, state := .active } := by
  unfold State.Ready
  decide +kernel

theorem meets_StuckOutputTakesItsBankOff :
    coilOn.Ready ∧ coilOn.supervised 4 .on = some 2 ∧ 40 < 41 ∧ 40 ≤ 40 ∧ base.supervised 4 .off = some 2 ∧
      base.supervised 4 .on = none := by
  unfold State.Ready
  decide +kernel

/-- The base state with lock 2's engaged sensor about to change at the sixth sample. -/
def countedFive : State :=
  { base with isc := { base.isc with field := tput base.isc.field 4 { cls := .sensor, count := 5, rescan := false } } }

theorem meets_DiscreteInputsDebounce :
    base.Ready ∧ tget base.layout.points 2 = some (.lock (lockAt 2)) ∧ base.lock? 2 = some {} ∧
      (tget base.isc.feedback 0).map (fun d => d.cls) = some .feedback ∧
      countedFive.Ready ∧
      (let d : Discrete := { cls := .sensor, count := 5, rescan := false }
       tget countedFive.isc.field 4 = some d ∧
         [(DiscreteInput.field 4, true)].find? (fun c => c.1 == .field 4) = some (.field 4, true) ∧ true ≠ d.debounced ∧
         sampleCount countedFive.tune d.cls ≤ d.count + 1) ∧
      (tget base.isc.feedback 0).map (fun d => d.rescan) = some true ∧ (tget base.hpa.pumps 0).isSome ∧ tget base.isc.field 0 = none := by
  unfold State.Ready
  decide +kernel

/-- The base state with a record of analog input 0. -/
def analogIn (a : Analog) : State := { base with isc := { base.isc with analog := tput base.isc.analog 0 a } }

theorem meets_AnalogChannelFollowsItsSamples :
    base.Ready ∧ tget base.isc.analog 5 = none ∧ tget base.isc.analog 0 = some {} ∧
      (let a : Analog := { samples := [700, 700, 700], health := some .unhealthy }
       tget (analogIn a).isc.analog 0 = some a ∧ ((700 :: a.samples).take 4).length = 4 ∧ (((700 :: a.samples).take 4).sum + 2) / 4 = 700) ∧
      (let a : Analog := { samples := [699, 699, 699, 699], health := some .recovering, recovery := some 10 }
       (analogIn a).Ready ∧ tget (analogIn a).isc.analog 0 = some a ∧ (((699 :: a.samples).take 4).sum + 2) / 4 = 699 ∧
         a.health = some .recovering) ∧
      (let a : Analog := { samples := [4050, 4050, 4050, 4050], health := some .healthy }
       (((4051 :: a.samples).take 4).sum + 2) / 4 = 4050 ∧ a.health ≠ some .recovering) := by
  unfold State.Ready
  decide +kernel

/-- A channel of an analog input with a filtered value. -/
def channel (r : Nat) (h : Health := .healthy) : Analog := { filtered := some r, health := some h }

/-- The visor at 365 with its two channels as given, its record as given. -/
def visorSensed (a b : Analog) (f : AxisDyn → AxisDyn := id) : State :=
  let s := visorAt 365
  { s with isc := { s.isc with analog := tput (tput s.isc.analog 0 a) 1 b } }.modAxis 0 f

/-- The ramp with its position and tip-load channels as given. -/
def rampSensed (a tip : Analog) : State := { base with isc := { base.isc with analog := tput (tput base.isc.analog 2 a) 3 tip } }

theorem meets_AxisPositionFromTransducers :
    ((visorAt 365).layout.axis? 0 = some visor ∧ ((visorAt 365).axis? 0).isSome = true ∧
      (visorAt 365).unclamped visor.travel visor.transA = some 364 ∧
      visor.transB.bind ((visorAt 365).unclamped visor.travel) = some 366) ∧
    (base.layout.axis? 0 = some visor ∧ (base.axis? 0).isSome = true ∧ base.unclamped visor.travel visor.transA = none ∧
      visor.transB.bind (base.unclamped visor.travel) = none ∧ visor.transA.openCount ≠ visor.transA.closedCount) ∧
    (let s := visorSensed (channel 2300) (channel 4060 .unhealthy)
     s.unclamped visor.travel visor.transA = some 364 ∧ visor.transB.bind (s.unclamped visor.travel) = none ∧
       (s.axis? 0).map (fun y => (y.degraded, y.fault)) = some (false, none) ∧ s.amu.mode ≠ .sea ∧
       (tget s.isc.analog 1).map (fun a => a.health) = some (some .unhealthy)) ∧
    (let s := visorSensed (channel 600 .unhealthy) (channel 2310)
     s.unclamped visor.travel visor.transA = none ∧ visor.transB.bind (s.unclamped visor.travel) = some 366) ∧
    (let s := visorSensed (channel 600 .unhealthy) (channel 4060 .recovering) (fun y => { y with reserved := some 0 })
     s.allChannelsLost visor = true ∧ s.reservedBy 0 = some 0) ∧
    (let s := visorSensed (channel 3810) (channel 1002)
     s.unclampedAll visor = [-52, 6] ∧ (s.axis? 0).map (fun y => y.fault) = some none) ∧
    (let s := visorSensed (channel 2300) (channel 2450)
     s.unclamped visor.travel visor.transA = some 364 ∧ visor.transB.bind (s.unclamped visor.travel) = some 405 ∧
       30 < (364 - 405 : Int).natAbs) ∧
    ((visorSensed (channel 2300) (channel 2310) (fun y => { y with fault := some .stall })).faultOf 0 = some .stall ∧ visor.tip = none) ∧
    (let s := rampSensed (channel 3870) (channel 1000)
     ramp.tip.map (fun t => t.input) = some 3 ∧ (tget s.isc.analog 3).map (fun a => (a.health, a.filtered)) = some (some .healthy, some 1000) ∧
       s.unclamped ramp.travel ramp.transA = some 941) ∧
    ({ base with adu := { motions := [], floats := [(1, {})] } } : State).floats 1 = true := by
  refine ⟨?_, ?_, ?_, ?_, ?_, ?_, ?_, ?_, ?_, ?_⟩ <;> decide +kernel

/-- Lock 2 in CONFLICT with its timer running, and STALE-to-be vessel data. -/
def expiring : State :=
  { base with
    pmn := { points := tput base.pmn.points 2 (.lock { confirmed := .conflict, conflict := some 10 }) }
    cev := { base.cev with vessel := some { heel := 5, pitch := 5, wind := 10 }, freshness := .fresh, staleness := some 50 } }

theorem meets_ConflictAndStalenessExpire :
    base.Ready ∧ base.lock? 2 = some {} ∧ base.cev.staleness = none ∧ expiring.Ready ∧
      expiring.lock? 2 = some { confirmed := .conflict, conflict := some 10 } ∧ expiring.cev.staleness ≠ none ∧
      expiring.cev.started = true ∧ expiring.cev.conds.length = 32 := by
  unfold State.Ready
  decide +kernel

/-- The base state with the two locks in given confirmed states. -/
def locksAt (a b : Confirmed) (fault : Option FaultCode := none) : State :=
  { base with pmn := { points := tput (tput base.pmn.points 2 (.lock { confirmed := a, fault := fault })) 3 (.lock { confirmed := b }) } }

/-- A state at sea with the closure as given, one condition put at a value. -/
def atSea (visor inner : Closed) : State :=
  let s := inMode .sea
  { s with cev := { s.cev with closure := { visor := visor, inner := inner, overall := .unknown } } }

/-- The base state with lock 2 reading ENGAGED or off, its confirmed state as given. -/
def lockReads (home : Bool) (c : Confirmed) (s : State := base) : State :=
  { s with
    isc := { s.isc with field := tput s.isc.field 4 { cls := .sensor, debounced := home, rescan := false } }
    pmn := { points := tput s.pmn.points 2 (.lock { confirmed := c }) } }

theorem meets_ConditionCombinesItsTerms :
    (8 ≤ 8 ∧ tget base.layout.conditions 31 = none ∧ tget base.layout.conditions 8 = some [⟨2, .retracted⟩, ⟨3, .retracted⟩] ∧
      (locksAt .retracted .engaged).termValue ⟨3, .retracted⟩ = .no ∧
      (locksAt .retracted .retracted (some .sensorConflict)).termValue ⟨2, .retracted⟩ = .unknown ∧
      (locksAt .retracted .retracted).termValue ⟨2, .retracted⟩ = .yes ∧ (locksAt .retracted .retracted).termValue ⟨3, .retracted⟩ = .yes) ∧
    List.Perm [Tri.yes, .unknown] [.unknown, .yes] ∧
    (base.lock? 2 = some {} ∧ (locksAt .conflict .engaged).lock? 2 = some { confirmed := .conflict } ∧
      (base.axis? 0).map (fun y => y.p) = some none ∧ ((visorAt 365).axis? 0).map (fun y => (y.p, y.fault)) = some (some 365, none) ∧
      base.layout.header.bind (fun h => h.deckClear) = some 28 ∧ (tget base.isc.field 28).isSome = true ∧
      base.layout.header.bind (fun h => h.linkspan) = none ∧ (∃ q ∈ base.hpa.pumps, q.2.state ≠ .faulted) ∧
      (∀ q ∈ (pumpIn .faulted false none none).hpa.pumps, q.2.state = .faulted)) ∧
    ((∀ i ∈ [0, 31], i < 32) ∧ base.cev.conds.length = 32 ∧ base.cev.started = true ∧ State.reset.cev.started = false ∧
      State.reset.layout.header = none ∧ (base.recompute [0]).cev ≠ base.cev ∧ (base.recompute [3]).recompute [3] = base.recompute [3]) ∧
    ((atSea .notSecured .unknown).aeu.AlarmsOk ∧ (atSea .notSecured .unknown).amu.mode = .sea ∧
      (atSea .notSecured .unknown).aeu.lostVisor = false ∧ (atSea .notSecured .unknown).aeu.lostInner = false ∧
      (∀ x ∈ (atSea .notSecured .unknown).aeu.alarms, x.kind ≠ .closureLost) ∧
      (let s := atSea .secured .secured
       let t := { s with aeu := { s.aeu with lostVisor := true, lostInner := true } }
       t.aeu.AlarmsOk ∧ t.cev.closure.visor = .secured ∧ t.cev.closure.inner = .secured ∧ t.aeu.lostVisor = true ∧ t.aeu.lostInner = true)) ∧
    (let gone := lockReads false .engaged (inMode .sea)
     let back := lockReads true .between (inMode .sea)
     gone.layout.lock? 2 = some (lockAt 2) ∧ gone.lock? 2 = some { confirmed := .engaged } ∧ gone.aeu.AlarmsOk ∧ gone.amu.mode = .sea ∧
       (lockAt 2).role = .visorLock ∧ gone.debounced 4 = false ∧ back.lock? 2 = some { confirmed := .between } ∧ back.debounced 4 = true ∧
       back.debounced 5 = false) := by
  unfold Aeu.AlarmsOk
  refine ⟨?_, .swap _ _ _, ?_, ?_, ?_, ?_⟩ <;> decide +kernel

theorem meets_PermissiveNamesTheFirstUnsatisfied :
    (∀ i ∈ [1, 31], i < 32) ∧ (∀ i ∈ [10], i < 32) ∧ base.cond 0 ≠ .yes ∧
      (let s := { base with cev := { base.cev with conds := lmod base.cev.conds 0 (fun _ => .yes) } }
       s.cond 0 = .yes ∧ s.cond 1 ≠ .yes ∧ s.cond 10 ≠ .no) := by
  decide +kernel
/-- A RUNNING context at a step of a list, with the emergency stop CLEAR in c0 and a list put in place of list 0. -/
def walking (steps : List Step) (entries : List Entry := []) (s : State := base) : State :=
  let l := { small with lists := tput small.lists 0 steps }
  { withOp { context .running entries with pointer := { list := 0, index := 0 } } s with
    lst := { s.lst with active := some l }
    cev := { s.cev with conds := lmod (lmod s.cev.conds 0 (fun _ => .yes)) 8 (fun _ => .yes) } }

/-- A step that runs beside the one before it. -/
def beside (k : StepKind) (f : OnFail := .hold) : Step := { kind := k, join := .withPrevious, onFail := f }

theorem meets_RunningOperationWalksItsSteps :
    (let s := walking []
     s.todo = [] ∧ (s.osq.context.map (fun x => (x.state, x.causes, x.stack, x.inFlight))) = some (.running, [], [], []) ∧
       (tget s.layout.lists 0).getD [] = []) ∧
    (let s := walking [plain (.driveGroup 0 .retract)]
     (∃ p ∈ [2, 3], s.confirmed p ≠ LockDir.target .retract) ∧ s.permissive (.group 0 .retract) = none ∧
       (∀ p ∈ [2, 3], (tget s.pmn.points p).isSome = true ∧ s.reservedBy p = none ∧ s.faultOf p = none ∧ s.confirmed p ≠ .conflict) ∧
       freeMotion s.osq.nextMotion s.inFlight = 0) ∧
    ((walking [plain (.driveGroup 0 .retract)] [] (locksHeld none)).reservedBy 2 ≠ none ∧
      ({ locksHeld none with pmn := { points := tput base.pmn.points 2 (.lock { fault := some .coilFault }) } } : State).faultOf 2 ≠ none) ∧
    (let s := walking [plain (.moveAxis 0 .openEnd false)] [] (visorAt 365)
     s.position 0 = some 365 ∧ s.targetProtected 0 720 = false ∧ s.permissive (.axis 0 .opening) = some 1) ∧
    (let s := walking [plain (.moveAxis 1 .openEnd false) .reverse] [] (base.modAxis 1 (fun y => { y with p := some 400 }))
     s.position 1 = some 400 ∧ s.permissive (.axis 1 .opening) = none ∧ s.faultOf 1 = none ∧ s.targetProtected 1 950 = false ∧
       s.reservedBy 1 = none ∧ (tget s.pmn.points 1).isSome = true ∧ s.ldu? 0 = none ∧ s.layout.axis? 1 = some ramp) ∧
    ((walking [plain (.moveAxis 1 .openEnd false)]).position 1 = none ∧
      (walking [plain (.moveAxis 1 .openEnd false)] [] (base.modAxis 1 (fun y => { y with p := some 400, fault := some .stall }))).faultOf 1 ≠
        none) ∧
    (let s := walking [beside (.pause 5)] (List.replicate 6 (entry 3 none))
     s.osq.context.map (fun x => x.inFlight.length) = some 6 ∧ StepKind.needsRoom (.pause 5) = true) ∧
    ((beside (.wait 8 true 600)).join = .withPrevious ∧ (walking []).cond 8 = .yes ∧ (walking []).cond 9 ≠ .yes) ∧
    (let s := { driving (member 2) with ldu := { motions := [(0, { drive .driving (member 2) (member 3) with watched := some (.axis 0 .opening) })] } }
     s.permEntry (.axis 0 .opening) = some { subject := .axis 0 .opening, require := [1, 8], forbid := [10] } ∧
       s.firstUnsatisfied { subject := .axis 0 .opening, require := [1, 8], forbid := [10] } = some 0) ∧
    (let x := context .running [entry 0 (some 0)]
     x.inFlight[0]? = some (entry 0 (some 0)) ∧ (entry 0 (some 0)).motion = some 0 ∧
       (drive .done (member 2) (member 3)).state = .done ∧ ({ drive .failed (member 2) (member 3) with cause := some .noFlow }).cause = some .noFlow ∧
       (entry 0 (some 0)).state ≠ .failed ∧ (∀ n ∈ x.inFlight, n.due = false)) := by
  refine ⟨?_, ?_, ?_, ?_, ?_, ?_, ?_, ?_, ?_, ?_⟩ <;> decide +kernel

theorem meets_SilentLinkLosesAuthority :
    base.Ready ∧ (base.link .bridge).silence ≠ none ∧ base.amu.holder = holderOf .bridge ∧ base.amu.holder ≠ holderOf .stand ∧
      (base.link .stand).silence ≠ none ∧
      ((base.modLink .stand (fun l => { l with silence := none })).link .stand).silence = none ∧
      (withOp (context .running [entry 0 (some 0)])).osq.context = some (context .running [entry 0 (some 0)]) ∧
      (withJog (lockJog .driving)).osq.jog = some (lockJog .driving) ∧ (lockJog .driving).station = .bridge := by
  unfold State.Ready
  decide +kernel

theorem meets_PumpsFollowTheirTable :
    (∀ st fb a b, (pumpIn st fb a b).Ready) ∧
      tget (pumpIn .starting false (some 50) none).hpa.pumps 0 = some { capacity := 120, startTime := 50, state := .starting, start := some 50 } ∧
      tget (pumpIn .stopped true none (some 10)).hpa.pumps 0 =
        some { capacity := 120, startTime := 50, runDown := some 10, feedback := true } ∧
      tget (pumpIn .stopped false none none).hpa.pumps 0 = some { capacity := 120, startTime := 50 } ∧
      (tget (pumpIn .running true none none true).hpa.pumps 0).map (fun q => q.state) = some .running ∧
      (pumpIn .running true none none true).contactorOn 0 = true ∧ (pumpIn .running true none none).contactorOn 0 = false ∧
      (tget (pumpIn .faulted true none none).hpa.pumps 0).map (fun q => q.state) = some .faulted ∧ tget base.hpa.pumps 2 = none ∧
      base.hpa.idle = none ∧ (pumpIn .running true none none true).hpa.idle ≠ none := by
  refine ⟨fun _ _ _ _ => ⟨rfl, rfl⟩, ?_⟩
  decide +kernel

/-- A state whose motion waits for flow. -/
def waiting (m : Nat) (s : State) : State :=
  { s with
    hpa := { s.hpa with
      grants := []
      requests := [{ motion := m, cls := .locking, requested := 36, minimum := 36, stamp := 0, wait := 600 }] } }

theorem meets_FlowWaitExpiryFailsTheMotion :
    base.Ready ∧ base.hpa.entryOf 0 = none ∧
      (let s := waiting 0 (driving (member 2) .waitingFlow)
       s.Ready ∧ s.hpa.entryOf 0 ≠ none ∧ (s.ldu? 0).map (fun g => g.state) = some .waitingFlow) ∧
      (let s := waiting 0 (moving .waitingFlow 365)
       s.Ready ∧ s.hpa.entryOf 0 ≠ none ∧ s.ldu? 0 = none ∧ (s.adu? 0).map (fun a => a.state) = some .waitingFlow) ∧
      (let s := waiting 7 (withJog (lockJog .waitingFlow))
       s.Ready ∧ s.hpa.entryOf 7 ≠ none ∧ s.osq.jog = some (lockJog .waitingFlow) ∧ (lockJog .waitingFlow).phase ≠ .ended) := by
  unfold State.Ready
  decide +kernel

theorem meets_MemberTimersRetryOrFail :
    (base.Ready ∧ base.ldu? 0 = none) ∧
      (let s := driving (member 2)
       s.Ready ∧ s.ldu? 0 = some (drive .driving (member 2) (member 3)) ∧
         (drive .driving (member 2) (member 3)).member? 2 = some (member 2) ∧ (member 2).state = .driving ∧ (member 2).travel ≠ none ∧
         (member 2).retries < 2 ∧ s.reservedBy 2 = some 0 ∧ s.layout.lock? 2 = some (lockAt 2) ∧
         (lockAt 2).engageCoil ≠ (lockAt 2).retractCoil ∧ s.ost.coils[4]?.map (fun c => c.owner) = some (some 2) ∧
         s.ost.coils[5]?.map (fun c => c.owner) = some (some 2)) ∧
      (let x := member 2 .driving 2
       (driving x).Ready ∧ (drive .driving x (member 3)).member? 2 = some x ∧ 2 ≤ x.retries ∧ (drive .driving x (member 3)).policy = .stopGroup ∧
         (tget (driving x).pmn.points 2).isSome) ∧
      (let x := member 2 .backingOff 1
       (driving x).Ready ∧ (drive .driving x (member 3)).member? 2 = some x ∧ x.state = .backingOff ∧ x.back ≠ none) := by
  unfold State.Ready
  decide +kernel

/-- The ramp at p under a landing move, its tip load as given. -/
def landing (p tip : Nat) : State :=
  let s := moving .driving 365
  { s with
    pmn := { points := tput s.pmn.points 1 (.axis { p := some p, zone := .mid, tip := some tip, reserved := some 0 }) }
    adu := { motions := [(0, { move .driving with axis := 1, target := 950, landing := true })] } }

theorem meets_ControlIntervalDrivesTheCommand :
    (base.Ready ∧ base.adu? 0 = none) ∧
      (let s := moving .driving 365
       s.Ready ∧ s.adu? 0 = some (move .driving) ∧ s.layout.axis? 0 = some visor ∧ ((s.axis? 0).map (fun y => y.p)) = some (some 365) ∧
         protectedAt 720 (s.layout.windows 0) 365 = false ∧ (move .driving).landing = false ∧ visor.inPos < 720 - 365 ∧
         visor.openOut ≠ visor.closeOut ∧ s.reservedBy 0 = some 0 ∧ s.ost.estop ≠ .active ∧
         s.ost.props[0]? = some { owner := some 0, command := 0, state := .active } ∧
         s.ost.props[1]? = some { owner := some 0, command := 0, state := .active }) ∧
      720 - 715 ≤ visor.inPos ∧ protectedAt 720 [{ visorWindow with protect := true }] 600 = true ∧
      (landing 938 179).Ready ∧ (landing 938 179).landed 1 = true ∧ (landing 938 96).landed 1 = false ∧ 950 - 942 ≤ ramp.inPos := by
  unfold State.Ready
  decide +kernel

theorem meets_MoveTimersSuperviseTheMove :
    (base.Ready ∧ base.adu? 0 = none) ∧
      (let s := moving .driving 364
       s.Ready ∧ s.adu? 0 = some (move .driving) ∧ s.layout.axis? 0 = some visor ∧ s.position 0 = some 364 ∧ (tget s.pmn.points 0).isSome ∧
         (move .driving).travel ≠ none ∧ (move .driving).stall = some { left := 20, start := 360 } ∧ 364 - 360 < visor.stallDelta ∧
         visor.stallDelta ≤ 365 - 360) ∧
      (let s := moving .settling 715
       s.Ready ∧ (move .settling).state = .settling ∧ (move .settling).settle ≠ none ∧ s.position 0 = some 715 ∧ 720 - 715 ≤ visor.inPos ∧
         visor.inPos < 720 - 714 ∧ (move .settling).redrives < 2 ∧ s.runAsserted = true) ∧
      ({ moving .settling 714 with amu := base.amu } : State).runAsserted = false ∧ 2 ≤ ({ move .settling with redrives := 2 }).redrives := by
  unfold State.Ready
  decide +kernel

/-- A RUNNING context whose only entry is a wait of list 0. -/
def waitOp : Context := context .running [entry 2 none]

/-- A RUNNING context whose only entry is a pause. -/
def pauseOp : Context := context .running [entry 3 none]

/-- The ramp floats with its lift-off timer running. -/
def floating : State := { base with adu := { motions := [], floats := [(1, { liftTimer := some 20 })] } }

/-- The ramp at p with its tip load, floating as given. -/
def rampAt (p tip : Option Nat) (f : Option FloatRec) : State :=
  let s := base.modAxis 1 (fun y => { y with p := p, tip := tip, drive := if f.isSome then .float else .idle })
  { s with adu := { motions := [], floats := (f.map (fun r => (1, r))).toList } }

theorem meets_TimersCountAndFloatIsSupervised :
    (base.held = false ∧ expiring.lock? 2 = some { confirmed := .conflict, conflict := some 10 } ∧ (visorAt 365).axis? 0 ≠ none) ∧
      (base.Ready ∧ base.inFlight[0]? = none ∧ tget base.adu.floats 1 = none) ∧
      (let s := withOp waitOp
       s.Ready ∧ s.osq.context = some waitOp ∧ waitOp.state = .running ∧ waitOp.causes = [] ∧ s.inFlight[0]? = some (entry 2 none) ∧
         (entry 2 none).step = plain (.wait 8 true 600) .reverse ∧ (entry 2 none).state = .active ∧ (entry 2 none).remaining ≠ none ∧
         waitOp.reversed = none ∧ (s.reverseOf waitOp).isSome = true ∧ s.amu.mode = .harbour) ∧
      ({ waitOp with reversed := some 1 } : Context).reversed ≠ none ∧
      (floating.Ready ∧ tget floating.adu.floats 1 = some { liftTimer := some 20 }) ∧
      ((withOp pauseOp).Ready ∧ (withOp pauseOp).osq.context = some pauseOp ∧ pauseOp.inFlight[0]? = some (entry 3 none) ∧
        (entry 3 none).step.kind = .pause 5 ∧ (entry 3 none).state = .active ∧ (entry 3 none).remaining ≠ none ∧
        (entry 3 none).motion = none) ∧
      (base.reservedBy 1 = none ∧ base.floats 1 = false ∧ base.layout.axis? 1 = some ramp ∧ ramp.float = some { coil := 40, low := 780, high := 950 } ∧
        (base.axis? 1).isSome = true ∧ (∀ b ∈ base.ost.banks, b.stuck = false) ∧ base.ost.coils[40]?.map (fun c => c.owner) = some (some 1) ∧
        (base.modAxis 1 (fun y => { y with reserved := some 0 })).reservedBy 1 ≠ none) ∧
      (let outside := rampAt (some 779) (some 59) (some {})
       let back := rampAt (some 790) (some 60) (some { limitRaised := true, liftRaised := true })
       outside.aeu.AlarmsOk ∧ outside.floats 1 = true ∧ outside.position 1 = some 779 ∧ 779 < 780 ∧ 780 + 20 ≤ 950 ∧
         tget outside.adu.floats 1 = some {} ∧ back.aeu.AlarmsOk ∧ back.position 1 = some 790 ∧ 780 + 10 ≤ 790 ∧ 790 + 10 ≤ 950 ∧ ¬ 780 + 10 ≤ 789 ∧
         (rampAt none none (some {})).position 1 = none ∧ ((outside.axis? 1).bind (fun y => y.tip)) = some 59 ∧ 59 < 60 ∧
         ((back.axis? 1).bind (fun y => y.tip)) = some 60 ∧ ((rampAt none none (some {})).axis? 1).bind (fun y => y.tip) = none) := by
  unfold State.Ready Aeu.AlarmsOk
  refine ⟨?_, ?_, ?_, ?_, ?_, ?_, ?_, ?_⟩ <;> decide +kernel

/-- The visor jogged at p. -/
def jogged (p : Nat) : State := withJog axisJog (visorAt p (some 7))

/-- The visor jogged, its transducer A reading as given. -/
def joggedRaw (r : Nat) : State :=
  { jogged 365 with
    isc := { (jogged 365).isc with analog := tput (jogged 365).isc.analog 0 { filtered := some r, health := some .healthy } } }

/-- The base state with a jog that holds its points and a grant. -/
def jogGranted (j : Jog) : State :=
  let s := (withJog j).modLock 2 (fun y => { y with reserved := some 7 })
  { s with hpa := { s.hpa with grants := [{ motion := 7, cls := .locking, flow := 18, requested := 18, minimum := 18, stamp := 0 }] } }

theorem meets_JogTimersEndOrDrive :
    (base.Ready ∧ base.osq.jog = none) ∧
      ((withJog (lockJog .driving)).Ready ∧ (withJog (lockJog .driving)).osq.jog = some (lockJog .driving) ∧
        (lockJog .driving).phase ≠ .ended ∧ (lockJog .driving).timer ≠ none) ∧
      ((jogged 365).Ready ∧ (jogged 365).osq.jog = some axisJog ∧ axisJog.dir = .axis .opening ∧ axisJog.phase = .driving ∧
        (jogged 365).layout.axis? 0 = some visor ∧ (jogged 365).position 0 ≠ none ∧ (jogged 365).reservedBy 0 = some 7 ∧
        ((jogged 365).axis? 0).map (fun y => y.zone) = some .mid ∧ (∀ u ∈ (jogged 365).unclampedAll visor, ¬ u > 770) ∧
        visor.openOut ≠ visor.closeOut ∧ visor.vMin ≤ 1000 ∧ (jogged 365).ost.estop ≠ .active ∧
        (jogged 365).ost.props[0]?.map (fun q => q.owner) = some (some 0)) ∧
      (withJog axisJog).position 0 = none ∧ ((jogged 710).axis? 0).map (fun y => y.zone) = some .openEnd ∧
      (∃ u ∈ (joggedRaw 827).unclampedAll visor, u > 770) ∧
      (let s := jogGranted (lockJog .waitingFlow)
       s.osq.jog = some (lockJog .waitingFlow) ∧ (s.hpa.grantOf 7).isSome = true ∧ s.layout.lock? 2 = some (lockAt 2) ∧ s.reservedBy 2 = some 7 ∧
         s.ost.coils[4]?.map (fun c => c.owner) = some (some 2)) ∧
      ((jogGranted (lockJog .ended)).osq.jog = some (lockJog .ended) ∧ ((jogGranted (lockJog .ended)).hpa.grantOf 7).isSome = true) ∧
      ((jogGranted { axisJog with phase := .waitingFlow }).hpa.grantOf 7).isSome = true ∧
      ((jogGranted { axisJog with phase := .waitingFlow }).axis? 0).isSome = true ∧
      (jogGranted (lockJog .driving)).osq.jog = some (lockJog .driving) ∧
      ((jogGranted (lockJog .driving)).modLock 2 (fun y => { y with confirmed := .engaged })).confirmed 2 = LockDir.target .engage := by
  unfold State.Ready
  decide +kernel

theorem meets_LayoutBufferAnswers :
    (base.Ready ∧ base.busyPeriod = false ∧ regionOf 0 = some .tuning ∧ regionOf 1 = some .struct ∧ base.amu.holder ≠ holderOf .stand ∧
      base.amu.holder = holderOf .bridge ∧ base.lst.buffer = none ∧ base.lst.phase ≠ .unconfigured ∧ base.amu.mode ≠ .maintenance ∧
      base.contextLive = false ∧ base.jogActive = false) ∧
    ((inPhase .unconfigured none).Ready ∧ (inPhase .unconfigured none).busyPeriod = false ∧
      (inPhase .unconfigured none).lst.phase = .unconfigured) ∧
    ((inMode .maintenance).Ready ∧ (inMode .maintenance).amu.mode = .maintenance ∧ (inMode .sea).amu.mode = .sea) ∧
    ((withOp (context .running [])).Ready ∧ (withOp (context .running [])).contextLive = true) ∧
    ((editing .struct .bridge).Ready ∧ (editing .struct .bridge).busyPeriod = false ∧ (editing .struct .bridge).lst.buffer ≠ none) ∧
    (let l := { small with pumps := [] }
     let s := { base with lst := { base.lst with buffer := some { region := .struct, owner := .bridge, content := l } } }
     s.Ready ∧ s.busyPeriod = false ∧ firstFailure l = some (2, 0)) ∧
    firstFailure small = none := by
  unfold State.Ready
  refine ⟨?_, ?_, ?_, ?_, ?_, ?_, ?_⟩ <;> decide +kernel

theorem meets_CommittedLayoutIsConsistentAndActive :
    (firstFailure small = none ∧ tget small.points 2 = some (.lock (lockAt 2)) ∧ tget small.points 0 = some (.axis visor [visorWindow]) ∧
      tget small.points 1 = some (.axis ramp []) ∧ (tget small.groups 0).isSome ∧ (tget small.conditions 8).isSome ∧
      (tget small.operations 0).isSome ∧ (tget small.permissives 0).isSome ∧ small.tuning = some tuning ∧ (tget small.lists 0).isSome ∧
      firstFailure { small with operations := [(0, { name := [0x4F], modes := [.sea], list := 1, reverse := none })] } = none) ∧
    (base.Ready ∧ base.lst.commit ≠ .writing ∧ (writing .tuning).Ready ∧ (writing .tuning).lst.commit = .writing ∧
      (writing .tuning).lst.pendingLayout = some (.tuning, small) ∧ (writing .struct).Ready ∧
      (writing .struct).lst.pendingLayout = some (.struct, small) ∧ (writing .struct).contextLive = false ∧
      ({ writing .tuning with lst := { (writing .tuning).lst with active := none } } : State).tune.travelPromotion = 0 ∧
      ({ tuning with travelPromotion := 3 } : Tuning).travelPromotion ≠ tuning.travelPromotion) := by
  unfold State.Ready
  refine ⟨?_, ?_⟩ <;> decide +kernel

theorem meets_PutRecordsStore :
    (base.Ready ∧ base.busyPeriod = false ∧ base.lst.buffer = none ∧
      ((editing .struct .bridge).Ready ∧ (editing .struct .bridge).busyPeriod = false ∧
        (editing .struct .bridge).lst.buffer = some { region := .struct, owner := .bridge, content := small }) ∧
      ((editing .tuning .bridge).Ready ∧
        pointAdmitted 2 (.present (.lock { lockAt 2 with travelLimit := 70 })) { region := .tuning, owner := .bridge, content := small } = true ∧
        pointAdmitted 2 (.present (.lock { lockAt 2 with flow := 19 })) { region := .tuning, owner := .bridge, content := small } = false)) ∧
    (let h (c : Nat) (i : Option Nat) : Bool := headerInRange { visorCond := c, innerCond := 0, deckClear := i, linkspan := none }
     h 31 (some 95) = true ∧ h 32 none = false ∧ h 0 (some 96) = false ∧ (none : Option Header).any headerInRange = false) ∧
    (let p (c t : Nat) : Bool := pumpInRange { capacity := c, startTime := t }
     p 20 10 = true ∧ p 400 150 = true ∧ p 19 10 = false ∧ p 401 10 = false ∧ p 20 9 = false ∧ p 20 151 = false) ∧
    (let d (f t : Nat) : Bool := bodyInRange (.lock { lockAt 2 with flow := f, travelLimit := t })
     d 1 10 = true ∧ d 60 300 = true ∧ d 0 10 = false ∧ d 61 10 = false ∧ d 1 9 = false ∧ d 1 301 = false) ∧
    (let d (f : AxisDef → AxisDef) : Bool := bodyInRange (.axis (f ramp))
     d id = true ∧ d (fun a => { a with travel := 100 }) = true ∧ d (fun a => { a with travel := 1201 }) = false ∧
       d (fun a => { a with vMin := 50, settle := 20 }) = true ∧ d (fun a => { a with vMin := 49 }) = false ∧
       d (fun a => { a with float := some { coil := 39, low := 0, high := 0 } }) = false ∧
       d (fun a => { a with tip := some { input := 11, fullScale := 10, landing := 10, liftOff := 0 } }) = true ∧
       d (fun a => { a with tip := some { input := 11, fullScale := 10, landing := 11, liftOff := 0 } }) = false) ∧
    (let g (ms : List Nat) (b : Nat) : Bool := groupInRange { members := ms, policy := .carryOn, retryLimit := 7, backOff := b }
     g [47] 3 = true ∧ g (List.replicate 8 0) 30 = true ∧ g [] 3 = false ∧ g (List.replicate 9 0) 3 = false ∧ g [48] 3 = false ∧ g [0] 31 = false) ∧
    (conditionInRange [⟨47, .atLeast 1200⟩] = true ∧ conditionInRange [⟨48, .engaged⟩] = false ∧ conditionInRange [⟨0, .atMost 1201⟩] = false ∧
      conditionInRange [] = false) ∧
    (let e (w : Subject) (r : List Nat) : Bool := permInRange { subject := w, require := r, forbid := [] }
     e (.group 11 .engage) [31] = true ∧ e (.group 12 .engage) [] = false ∧ e (.axis 47 .opening) [] = true ∧ e (.axis 48 .opening) [] = false ∧
       e (.axis 0 .opening) [32] = false ∧ e (.axis 0 .opening) [1, 1] = false) ∧
    (let d (n : List Byte) (m : List Mode) (l : Nat) (r : Option Nat) : Bool := opInRange { name := n, modes := m, list := l, reverse := r }
     d [0x20] [.sea] 31 (some 15) = true ∧ d (List.replicate 8 0x7E) [.sea] 0 none = true ∧ d [] [.sea] 0 none = false ∧
       d (List.replicate 9 0x41) [.sea] 0 none = false ∧ d [0x1F] [.sea] 0 none = false ∧ d [0x7F] [.sea] 0 none = false ∧
       d [0x41] [] 0 none = false ∧ d [0x41] [.sea, .sea] 0 none = false ∧ d [0x41] [.sea] 32 none = false ∧ d [0x41] [.sea] 0 (some 16) = false) ∧
    (tuningInRange { tuning with travelPromotion := 7 } = true ∧ tuningInRange { tuning with travelPromotion := 8 } = false ∧
      tuningInRange { tuning with debSensor := 500 } = true ∧ tuningInRange { tuning with debSensor := 501 } = false) ∧
    (let x (k : StepKind) : Bool := stepInRange (plain k)
     x (.driveGroup 11 .engage) = true ∧ x (.driveGroup 12 .engage) = false ∧ x (.moveAxis 47 (.position 1200) false) = true ∧
       x (.moveAxis 0 (.position 1201) false) = false ∧ x (.floatAxis 48) = false ∧ x (.wait 31 true 6000) = true ∧ x (.wait 32 true 0) = false ∧
       x (.wait 0 true 6001) = false ∧ x (.pause 1) = true ∧ x (.pause 600) = true ∧ x (.pause 0) = false ∧ x (.pause 601) = false ∧
       x (.call 31) = true ∧ x (.call 32) = false) ∧
    (windowInRange { visorWindow with start := 1200, range := 1200, level := 3 } = true ∧ windowInRange { visorWindow with start := 1201 } = false ∧
      windowInRange { visorWindow with range := 0 } = false ∧ windowInRange { visorWindow with level := 4 } = false) := by
  unfold State.Ready
  refine ⟨?_, ?_, ?_, ?_, ?_, ?_, ?_, ?_, ?_, ?_, ?_, ?_⟩ <;> decide +kernel

theorem meets_WindowsAndStepsAreWrittenInPieces :
    (let s := editing .struct .bridge (some (5, 31))
     s.Ready ∧ s.busyPeriod = false ∧
       s.lst.buffer = some { region := .struct, owner := .bridge, content := small, cursor := some (5, 31) }) ∧
    tget small.points 0 = some (.axis visor [visorWindow]) ∧ windowInRange visorWindow = true ∧ 1 ≤ 3 ∧ [visorWindow].length = 1 ∧
    (Given.present { visorWindow with level := 4 }).fits windowInRange = false ∧ small.axis? 2 = none ∧
    (editing .struct .bridge (some (5, 32))).Ready ∧ (editing .tuning .bridge).Ready ∧ (editing .struct .bridge).Ready ∧
    (some (plain (.pause 601))).all stepInRange = false ∧ stepInRange (plain (.pause 5)) = true ∧ 31 < 32 := by
  unfold State.Ready
  decide +kernel

theorem meets_GetRecordsReport :
    base.Ready ∧ base.busyPeriod = false ∧ (tget small.pumps 0).isSome ∧ tget small.pumps 1 = none ∧
      (editing .struct .bridge).Ready ∧ (editing .struct .bridge).busyPeriod = false ∧ base.lst.buffer = none ∧
      base.lst.active.getD {} = small := by
  unfold State.Ready
  decide +kernel

theorem meets_ReadRecordsReport :
    base.Ready ∧ base.osq.context = none ∧ tget base.layout.points 9 = none ∧ tget base.layout.points 2 = some (.lock (lockAt 2)) ∧
      tget base.pmn.points 2 = some (.lock {}) ∧ tget base.layout.points 0 = some (.axis visor [visorWindow]) ∧
      tget base.pmn.points 0 = some (.axis {}) ∧ base.layout.tuning = some tuning ∧ State.reset.Ready ∧ State.reset.layout.tuning = none ∧
      (driving (member 2)).Ready ∧ (driving (member 2)).osq.context = some (context .running [entry 0 (some 0)]) ∧
      (moving .driving 365).Ready ∧ (moving .driving 365).osq.context = some (context .running [entry 1 (some 0)]) := by
  unfold State.Ready
  decide +kernel

/-- Thirty-two alarm entries, the one at a place in a state of its own. -/
def fullList (k : Nat) (st : AlarmState) : List Alarm :=
  (List.range 32).map (fun i => alarm i (if i = k then st else .unackActive))

theorem meets_AlarmRaiseFollowsItsTable :
    (base.aeu.AlarmsOk ∧ (∀ x ∈ base.aeu.alarms, ¬ (x.kind = .pointFault ∧ x.subject = 5)) ∧ base.aeu.alarms.length < 32) ∧
      (let a := (withAlarms (fullList 5 .ackActive)).aeu
       a.AlarmsOk ∧ a.alarms.length = 32 ∧ (∀ x ∈ a.alarms, ¬ (x.kind = .pointFault ∧ x.subject = 40)) ∧
         a.alarms = a.alarms.take 5 ++ alarm 5 .ackActive :: a.alarms.drop 6 ∧ (∀ y ∈ a.alarms.take 5, y.state = .unackActive)) ∧
      (let a := (withAlarms (fullList 32 .ackActive)).aeu
       a.AlarmsOk ∧ a.alarms.length = 32 ∧ (∀ y ∈ a.alarms, y.state = .unackActive)) ∧
      (let a := (withAlarms [alarm 1 .unackActive, alarm 2 .unackCleared]).aeu
       a.AlarmsOk ∧ a.alarms = [alarm 1 .unackActive] ++ alarm 2 .unackCleared :: []) := by
  unfold Aeu.AlarmsOk
  decide +kernel

theorem meets_AckAlarmAcknowledges :
    (withAlarms [alarm 1 .unackActive, alarm 2 .ackActive]).aeu.AlarmsOk ∧
      (withAlarms [alarm 1 .unackActive, alarm 2 .ackActive]).aeu.alarms = [alarm 1 .unackActive] ++ alarm 2 .ackActive :: [] ∧
      base.Ready ∧ base.lst.phase ≠ .unconfigured ∧ alarmKindOf 12 = some .restart ∧ alarmKindOf 2 = some .pointFault ∧
      (∀ x ∈ base.aeu.alarms, ¬ (x.kind = .pointFault ∧ x.subject = 0)) ∧
      (∃ x ∈ base.aeu.alarms, x.kind = .restart ∧ x.subject = 0) ∧ (∃ x ∈ base.aeu.alarms, x.state ≠ .ackActive) ∧
      (∀ x ∈ (withAlarms [alarm 2 .ackActive]).aeu.alarms, x.state = .ackActive) := by
  unfold State.Ready Aeu.AlarmsOk
  decide +kernel

theorem meets_EventListAndCursors :
    base.aeu.EventsOk ∧ base.Ready ∧ base.lst.phase ≠ .unconfigured ∧ base.aeu.events.length ≤ min 5 127 ∧
      min 1 127 < base.aeu.events.length ∧
      (base.aeu.nextSerial - (base.link .bridge).cursor).toNat ≤ base.aeu.events.length ∧
      (let s := base.modLink .bridge (fun l => { l with cursor := 0xFFFFFFF0 })
       s.Ready ∧ s.aeu.EventsOk ∧ s.aeu.events.length < (s.aeu.nextSerial - (s.link .bridge).cursor).toNat) := by
  unfold State.Ready Aeu.EventsOk
  decide +kernel

/-- A travel request that other motions have passed n times. -/
def travelRequest (m n : Nat) : Request := { motion := m, cls := .travel, requested := 144, minimum := 22, stamp := BitVec.ofNat 32 m, passed := n, wait := 600 }

/-- A locking request. -/
def lockingRequest (m : Nat) : Request := { motion := m, cls := .locking, requested := 36, minimum := 36, stamp := BitVec.ofNat 32 m, wait := 600 }

theorem meets_GrantPassServesInWalkOrder :
    (let h := (pumpIn .running true none none true).hpa
     let rs := walkOrder 3 [travelRequest 1 0, lockingRequest 2, travelRequest 3 3]
     h.Within ∧ (rs.map (fun r => r.motion)).Nodup ∧ (∀ r ∈ rs, ∀ g ∈ h.grants, g.motion ≠ r.motion) ∧ 22 ≤ 144 ∧
       (∀ r ∈ h.requests, r.passed ≤ 255)) ∧
    (let s := waiting 0 base
     s.hpa.Within ∧ tsorted s.hpa.pumps = true ∧ (passGo (walkOrder s.tune.travelPromotion s.hpa.requests) s.hpa).2.2.isSome = true ∧
       s.ost.estop = .clear ∧ (∀ e ∈ s.hpa.pumps, e.2.state ≠ .starting) ∧ tget s.hpa.pumps 0 = some { capacity := 120, startTime := 50 } ∧
       s.hpa.capacity < s.hpa.allocation + 36) ∧
    ((waiting 0 (pumpIn .running true none none true)).hpa.entryOf 0 ≠ none ∧ (driving (member 2)).hpa.grantOf 0 ≠ none) ∧
    (let h : Hpa :=
      { pumps := [(0, { capacity := 120, startTime := 50, state := .running })]
        grants := [{ motion := 0, cls := .locking, flow := 110, requested := 110, minimum := 110, stamp := 0 },
          { motion := 1, cls := .travel, flow := 144, requested := 144, minimum := 22, stamp := 1 }]
        requests := [travelRequest 2 0, travelRequest 3 0] }
     h.capacity < h.allocation ∧ h.requests.Pairwise (fun a b => a.stamp.toNat ≤ b.stamp.toNat) ∧
       (h.drop 600).2 = ([], [1]) ∧ (h.drop 600).1.requests.map (fun r => r.motion) = [1, 2, 3]) := by
  unfold Hpa.Within
  refine ⟨?_, ?_, ?_, ?_⟩ <;> decide +kernel

/-- The visor at 365 under a move that a hold has halted, its axis with a fault or without. -/
def moveHeld (p : Nat) (f : Option FaultCode := none) (l : Layout := small) : State :=
  let s := moving .driving 365
  { s with
    lst := { s.lst with active := some l }
    pmn := { points := tput s.pmn.points 0 (.axis { p := some p, reserved := some 0, fault := f, drive := .halted }) }
    adu := { motions := [(0, { move .halted with halt := some .hold })] } }

theorem meets_UnitsDriveOnTheirGrants :
    (let g := drive .waitingFlow (member 2) (member 3)
     let s := driving (member 2) .waitingFlow
     0 ≠ 7 ∧ s.ldu? 0 = some g ∧ (s.hpa.grantOf 0).isSome = true ∧ g.state = .waitingFlow ∧ s.layout.lock? 2 = some (lockAt 2) ∧
       s.reservedBy 2 = some 0 ∧ s.ost.coils[5]?.map (fun c => c.owner) = some (some 2)) ∧
    (let g := { drive .halted (member 2) (member 3) with halt := some .noFlow, watched := some (.axis 0 .opening) }
     g.state = .halted ∧ g.halt = some .noFlow ∧ g.watched.bind base.permissive = some 0) ∧
    (let s := (driving (member 2)).modLock 2 (fun y => { y with confirmed := .conflict })
     s.reservedBy 2 = some 0 ∧ s.confirmed 2 = .conflict ∧ (drive .driving (member 2) (member 3)).member? 2 = some (member 2) ∧
       (member 2).state ≠ .failed ∧ (drive .driving (member 2) (member 3)).policy = .stopGroup) ∧
    (let s := (driving (member 2)).modLock 2 (fun y => { y with confirmed := .retracted })
     s.confirmed 2 = LockDir.target .retract ∧ (driving (member 2 .done)).confirmed 2 ≠ LockDir.target .retract ∧
       (driving (member 2 .done)).confirmed 2 ≠ .conflict ∧
       (drive .driving (member 2 .done) (member 3)).member? 2 = some (member 2 .done)) ∧
    (let g := { drive .halted (member 2) (member 3) with halt := some .hold }
     g.state = .halted ∧ g.halt = some .hold ∧ (g.members.map (fun x => x.point)).Nodup ∧ (locksHeld (some .coilFault)).faultOf 2 ≠ none ∧
       (locksHeld none).faultOf 2 = none ∧ (locksHeld none).confirmed 2 ≠ .conflict) ∧
    (let s := moving .waitingFlow 365
     s.ldu? 0 = none ∧ s.adu? 0 = some (move .waitingFlow) ∧ s.layout.axis? 0 = some visor ∧
       (s.axis? 0).map (fun y => y.p) = some (some 365) ∧ (s.hpa.grantOf 0).isSome = true ∧ s.runAsserted = true ∧
       ({ s with amu := base.amu } : State).runAsserted = false) ∧
    ((moving .done 365).adu? 0 = some (move .done) ∧ ((moving .done 365).hpa.grantOf 0).isSome = true) ∧
    ((moveHeld 716).adu? 0 = some { move .halted with halt := some .hold } ∧ distanceOf 720 716 ≤ visor.inPos ∧ visor.inPos < distanceOf 720 714 ∧
      (moveHeld 714).faultOf 0 = none ∧ (moveHeld 714 (some .stall)).faultOf 0 ≠ none ∧ (moveHeld 714).targetProtected 0 720 = false ∧
      (moveHeld 365 none
        { small with points := tput small.points 0 (.axis visor [{ visorWindow with protect := true }]) }).targetProtected 0 720 = true) := by
  refine ⟨?_, ?_, ?_, ?_, ?_, ?_, ?_, ?_⟩ <;> decide +kernel

/-! ### WellFormed refuses each ill-formed operand -/

theorem test_wf_inputs :
    (Instr.debouncedValueChange [(.field 96, true)]).wf = false ∧ (Instr.debouncedValueChange [(.feedback 3, true)]).wf = false ∧
      (Instr.debouncedValueChange [(.field 4, true), (.field 4, false)]).wf = false ∧ (Instr.discreteSample [.field 96]).wf = false ∧
      (Instr.analogFilteredValue 12 0).wf = false ∧ (Instr.analogFilteredValue 0 4096).wf = false ∧
      (Instr.recoveryTimerExpiry 12).wf = false ∧ (Instr.conflictTimerExpiry 48).wf = false := by decide

theorem test_wf_timers :
    (Instr.startTimerExpiry 3).wf = false ∧ (Instr.runDownTimerExpiry 3).wf = false ∧ (Instr.flowWaitExpiry 8).wf = false ∧
      (Instr.memberTravelTimeout 8 0).wf = false ∧ (Instr.memberTravelTimeout 0 48).wf = false ∧ (Instr.backOffExpiry 8 0).wf = false ∧
      (Instr.backOffExpiry 0 48).wf = false ∧ (Instr.controlInterval 8).wf = false ∧ (Instr.stallWindowEnd 8).wf = false ∧
      (Instr.axisTravelTimeout 8).wf = false ∧ (Instr.settleEnd 8).wf = false ∧ (Instr.liftOffTimerExpiry 48).wf = false ∧
      (Instr.waitStepExpiry 6).wf = false ∧ (Instr.pauseExpiry 6).wf = false := by decide

theorem test_wf_outputs :
    (Instr.coilFaultOpen 48).wf = false ∧ (Instr.coilFaultShort 48).wf = false ∧ (Instr.coilFaultStuck [48]).wf = false ∧
      (Instr.coilFaultStuck [3, 3]).wf = false ∧ (Instr.darkPulse 48 0).wf = false ∧ (Instr.propFaultOpen 8).wf = false ∧
      (Instr.propFaultShort 8).wf = false ∧ (Instr.requestFrame .bridge (List.replicate 1027 0)).wf = false := by decide +kernel

theorem test_wf_record_fields :
    (Instr.setMode .bridge false 256).wf = false ∧ (Instr.vesselState .bridge false 32768 0 0).wf = false ∧
      (Instr.vesselState .bridge false 0 (-32769) 0).wf = false ∧ (Instr.vesselState .bridge false 0 0 (-1)).wf = false ∧
      (Instr.vesselState .bridge false 0 0 65536).wf = false ∧ (Instr.startOperation .bridge false 256).wf = false ∧
      (Instr.jog .bridge true 256 0 1).wf = false ∧ (Instr.jog .bridge true 0 256 1).wf = false ∧ (Instr.jog .bridge true 0 0 65536).wf = false ∧
      (Instr.clearFaultPoint .bridge false 256).wf = false ∧ (Instr.clearFaultPump .bridge false 256).wf = false ∧
      (Instr.readPoint .bridge false 256).wf = false ∧ (Instr.readAlarms .bridge false 256).wf = false ∧
      (Instr.ackAlarm .bridge false (.pair 256 0)).wf = false ∧ (Instr.ackAlarm .bridge false (.pair 0 256)).wf = false ∧
      (Instr.seekEvents .bridge false 256 0).wf = false ∧ (Instr.seekEvents .bridge false 1 65536).wf = false ∧
      (Instr.layoutOpen .bridge false 256).wf = false := by decide

theorem test_wf_puts :
    (Instr.putHeader .bridge false (some { visorCond := 256, innerCond := 0, deckClear := none, linkspan := none })).wf = false ∧
      (Instr.putHeader .bridge false (some { visorCond := 0, innerCond := 0, deckClear := some 256, linkspan := none })).wf = false ∧
      (Instr.putPump .bridge false 256 .absent).wf = false ∧ (Instr.putPump .bridge false 0 (.present { capacity := 65536, startTime := 0 })).wf = false ∧
      (Instr.putPoint .bridge false 256 .absent).wf = false ∧
      (Instr.putPoint .bridge false 0 (.present (.lock { lockAt 2 with engagedIn := 256 }))).wf = false ∧
      (Instr.putPoint .bridge false 0 (.present (.lock { lockAt 2 with flow := 65536 }))).wf = false ∧
      (Instr.putPoint .bridge false 0 (.present (.axis { visor with travel := 65536 }))).wf = false ∧
      (Instr.putPoint .bridge false 0 (.present (.axis { visor with openOut := 256 }))).wf = false ∧
      (Instr.putPoint .bridge false 0 (.present (.axis { visor with transA := { input := 256, closedCount := 0, openCount := 0 } }))).wf = false ∧
      (Instr.putPoint .bridge false 0 (.present (.axis { visor with transB := some { input := 0, closedCount := 65536, openCount := 0 } }))).wf =
        false ∧
      (Instr.putPoint .bridge false 0 (.present (.axis { ramp with float := some { coil := 256, low := 0, high := 0 } }))).wf = false ∧
      (Instr.putPoint .bridge false 0 (.present (.axis { ramp with tip := some { input := 0, fullScale := 0, landing := 65536, liftOff := 0 } }))).wf =
        false ∧
      (Instr.putWindow .bridge false 256 0 .absent).wf = false ∧ (Instr.putWindow .bridge false 0 256 .absent).wf = false ∧
      (Instr.putWindow .bridge false 0 0 (.present { visorWindow with level := 65536 })).wf = false ∧
      (Instr.putTuning .bridge false { tuning with windLimit := 65536 }).wf = false := by decide

theorem test_wf_tables :
    (Instr.putGroup .bridge false 256 .absent).wf = false ∧
      (Instr.putGroup .bridge false 0 (.present { members := [256], policy := .carryOn, retryLimit := 0, backOff := 0 })).wf = false ∧
      (Instr.putGroup .bridge false 0 (.present { members := [], policy := .carryOn, retryLimit := 65536, backOff := 0 })).wf = false ∧
      (Instr.putCondition .bridge false 256 .absent).wf = false ∧ (Instr.putCondition .bridge false 8 (.present [⟨256, .engaged⟩])).wf = false ∧
      (Instr.putCondition .bridge false 8 (.present [⟨0, .atLeast 65536⟩])).wf = false ∧ (Instr.putPermissive .bridge false 256 .absent).wf = false ∧
      (Instr.putPermissive .bridge false 0 (.present { subject := .group 256 .engage, require := [], forbid := [] })).wf = false ∧
      (Instr.putPermissive .bridge false 0 (.present { subject := .axis 0 .opening, require := [256], forbid := [] })).wf = false ∧
      (Instr.putOperation .bridge false 256 .absent).wf = false ∧
      (Instr.putOperation .bridge false 0 (.present { name := [], modes := [], list := 256, reverse := none })).wf = false ∧
      (Instr.putOperation .bridge false 0 (.present { name := [], modes := [], list := 0, reverse := some 256 })).wf = false ∧
      (Instr.listBegin .bridge false 256 (some true)).wf = false ∧ (Instr.putStep .bridge false (some (plain (.pause 65536)))).wf = false ∧
      (Instr.putStep .bridge false (some (plain (.moveAxis 0 (.position 65536) false)))).wf = false ∧
      (Instr.putStep .bridge false (some (plain (.call 256)))).wf = false ∧ (Instr.getPump .bridge false 256).wf = false ∧
      (Instr.getPoint .bridge false 256).wf = false ∧ (Instr.getWindow .bridge false 256 0).wf = false ∧
      (Instr.getWindow .bridge false 0 256).wf = false ∧ (Instr.getGroup .bridge false 256).wf = false ∧
      (Instr.getCondition .bridge false 256).wf = false ∧ (Instr.getPermissive .bridge false 256).wf = false ∧
      (Instr.getOperation .bridge false 256).wf = false ∧ (Instr.getListBegin .bridge false 256).wf = false ∧
      (Instr.getStep .bridge false 256 0).wf = false ∧ (Instr.getStep .bridge false 0 256).wf = false := by decide

/-! ### Worked cases -/

/-- The state after a command. -/
def after (c : Instr) (s : State) : State :=
  match exec c s with
  | .next t => t
  | .fault _ => s
  | .refused _ => s

/-- Power-on reset of a part with an erased store gives the model's reset state again. -/
theorem test_reset_is_power_on : exec (.powerOnReset strapsReset) State.reset = .next State.reset :=
  congrArg Host.Outcome.next (by decide +kernel : State.reset.restart .por strapsReset = State.reset)

/-- 2.7.1: transducers A and B of the visor. -/
theorem test_position_visor :
    unclampedPosition visor.transA 720 2300 = 364 ∧ unclampedPosition { input := 1, closedCount := 980, openCount := 3596 } 720 2310 = 366 ∧
      axisPosition (some 364) (some 366) = some 365 ∧ axisSkew (some 364) (some 366) = some (-2) ∧ Zone.ofPosition 10 720 (some 365) = .mid := by
  decide

/-- 2.7.2: the closed end and the overtravel band. -/
theorem test_position_beyond_end :
    unclampedPosition visor.transA 720 3650 = -8 ∧ unclampedPosition visor.transA 720 3800 = -50 ∧ unclampedPosition visor.transA 720 3810 = -52 ∧
      inOvertravelBand 720 (-50) = true ∧ inOvertravelBand 720 (-52) = false ∧ reportedPosition 720 (-8) = 0 ∧
      axisPosition (some 0) (some 2) = some 1 ∧ axisSkew (some (-8)) (some 2) = some (-10) := by decide

/-- 2.7.3: transducer B while its wire is broken. -/
theorem test_position_broken_wire :
    let B : Transducer := { input := 1, closedCount := 980, openCount := 3596 }
    unclampedPosition B 720 2756 = 489 ∧ unclampedPosition B 720 3203 = 612 ∧ unclampedPosition B 720 3649 = 735 ∧
      reportedPosition 720 735 = 720 ∧ axisPosition (some 364) (some 489) = some 427 ∧ axisPosition (some 364) (some 612) = some 488 ∧
      axisPosition (some 364) (some 720) = some 542 ∧ axisPosition (some 364) none = some 364 := by decide

/-- 2.7.4: the ramp and its tip load. -/
theorem test_tip_load :
    unclampedPosition ramp.transA 950 3870 = 941 ∧ Zone.ofPosition 15 950 (some 941) = .openEnd ∧ tipLoad 2000 1000 = 179 ∧
      tipLoad 2000 800 = 59 := by decide

/-- 6.9.1: the visor opening under a grant of 120, DEGRADED, and under a grant of 22. -/
theorem test_valve_command_visor :
    [365, 599, 600, 690, 712].map (fun p => (valveCommand visor [visorWindow] false 720 p 120).2) = [666, 666, 400, 200, 120] ∧
      [365, 690, 712].map (fun p => (valveCommand visor [visorWindow] true 720 p 120).2) = [400, 120, 120] ∧
      [365, 690, 712].map (fun p => (valveCommand visor [visorWindow] false 720 p 22).2) = [122, 122, 120] ∧
      commandFlow 800 180 = 144 ∧ commandFlow 120 180 = 22 := by decide

/-- 6.9.3: the ramp on its way down, with its window from 300 to 500 at level 1. -/
theorem test_valve_command_ramp :
    [15, 400, 880, 930].map (fun p =>
      (valveCommand ramp [{ enabled := true, start := 300, range := 200, level := 1, protect := false }] false 950 p 110).2) =
        [500, 375, 437, 125] := by decide

/-- 6.9.1, arrival at 716: outputs 0 and SETTLING with the settle timer. -/
theorem test_control_interval_arrives :
    ((after (.controlInterval 0) (moving .driving 716)).adu? 0).map (fun a => (a.state, a.settle)) = some (.settling, some 5) := by
  decide +kernel

/-- 6.9.1 at 365: output 0 takes 666 and output 1 stays at 0. -/
theorem test_control_interval_drives :
    (after (.controlInterval 0) (moving .driving 365)).ost.props.map (fun p => p.command) = [666, 0, 0, 0, 0, 0, 0, 0] := by decide +kernel

/-- 6.9.2: the first settle ends at 713, and the third fails the move. -/
theorem test_settle_end :
    ((after (.settleEnd 0) (moving .settling 713)).adu? 0).map (fun a => (a.state, a.redrives)) = some (.driving, 1) ∧
      ((after (.settleEnd 0) { moving .settling 713 with adu := { motions := [(0, { move .settling with redrives := 2 })] } }).faultOf 0) =
        some .inposFailed := by decide +kernel

/-- 3.4.1: attitude and wind through a crossing; the last row is clamped. -/
theorem test_vessel_hysteresis :
    attitudeOk tuning { heel := 12, pitch := 8, wind := 140 } .unknown = .yes ∧ attitudeOk tuning { heel := -46, pitch := 18, wind := 238 } .yes = .yes ∧
      windOk tuning { heel := -46, pitch := 18, wind := 238 } .yes = .yes ∧ attitudeOk tuning { heel := 55, pitch := 18, wind := 262 } .yes = .no ∧
      attitudeOk tuning { heel := -38, pitch := 21, wind := 231 } .no = .no ∧ windOk tuning { heel := -38, pitch := 21, wind := 231 } .no = .no ∧
      attitudeOk tuning { heel := -38, pitch := 19, wind := 229 } .no = .yes ∧ attitudeOk tuning { heel := 44, pitch := 5, wind := 235 } .unknown = .no ∧
      (after (.vesselState .bridge false (-1500) 3 1200) base).cev.vessel = some { heel := -900, pitch := 3, wind := 999 } := by
  decide +kernel

/-- 3.9.1: a lock in CONFLICT is UNKNOWN, one that is surely not engaged outweighs it, and a sticky SENSOR_CONFLICT keeps UNKNOWN. -/
theorem test_condition_terms :
    (locksAt .conflict .engaged).termValue ⟨2, .engaged⟩ = .unknown ∧ (locksAt .between .engaged).termValue ⟨2, .engaged⟩ = .no ∧
      (locksAt .engaged .engaged (some .sensorConflict)).termValue ⟨2, .engaged⟩ = .unknown ∧ Tri.all [.unknown, .yes] = .unknown ∧
      Tri.all [.unknown, .no] = .no := by decide +kernel

/-- R18: a debounce time of 30 ms is six samples, and the sixth changes the value. -/
theorem test_debounce_counts :
    sampleCount tuning .sensor = 6 ∧
      (tget (after (.discreteSample [.field 4]) countedFive).isc.field 4).map (fun d => (d.debounced, d.count)) = some (true, 0) := by
  decide +kernel

/-- 5.8.1 at 6.0 s: the member backs off and its coils swap. -/
theorem test_member_backs_off :
    let s := after (.memberTravelTimeout 0 2) (driving (member 2))
    (s.ldu? 0).map (fun g => g.members.map (fun m => (m.state, m.back, m.retries))) =
        some [(.backingOff, some 10, 0), (.driving, none, 0)] ∧
      s.ost.coils[4]?.map (fun c => c.state) = some .on ∧ s.ost.coils[5]?.map (fun c => c.state) = some .off := by decide +kernel

/-- 5.8.1, the third expiry: TRAVEL_TIMEOUT, and the whole motion is FAILED under STOP_GROUP. -/
theorem test_member_fails :
    let s := after (.memberTravelTimeout 0 2) (driving (member 2 .driving 2))
    s.faultOf 2 = some .travelTimeout ∧ (s.hpa.grants = []) ∧ s.reservedBy 3 = none ∧
      s.osq.context.map (fun x => (x.state, x.causes.map (fun c => c.kind))) = some (.holding, [.stepFailed]) := by decide +kernel

/-- 4.11.1, the trip: the TRAVEL grant of 144 falls to its minimum of 22 when one of two pumps of 120 is lost beside a LOCKING grant of 72. -/
theorem test_pump_trip_reduces_travel :
    let s : State :=
      { pumpIn .running true none none true with
        hpa :=
          { pumps := [(0, { capacity := 120, startTime := 50, state := .running, feedback := true }),
              (1, { capacity := 120, startTime := 50, state := .running, feedback := true })]
            grants := [{ motion := 0, cls := .locking, flow := 72, requested := 72, minimum := 72, stamp := 0 },
              { motion := 1, cls := .travel, flow := 144, requested := 144, minimum := 22, stamp := 1 }] }
        ost := { base.ost with contactors := [true, true, false] } }
    let t := s.pumpFeedback 1 false
    t.hpa.grants.map (fun g => g.flow) = [72, 22] ∧ (tget t.hpa.pumps 1).map (fun p => (p.state, p.cause)) = some (.faulted, some .tripped) := by
  decide +kernel

/-- 4.11.2: promoted TRAVEL entries walk before LOCKING, the others after, and K = 0 promotes none. -/
theorem test_walk_order :
    (walkOrder 2 [travelRequest 3 2, lockingRequest 5]).map (fun r => r.motion) = [3, 5] ∧
      (walkOrder 2 [travelRequest 3 1, lockingRequest 5]).map (fun r => r.motion) = [5, 3] ∧
      (walkOrder 0 [travelRequest 3 2, lockingRequest 5]).map (fun r => r.motion) = [5, 3] := by decide

/-- 11.5: serials 1000 to 1127; the bridge at 990 has lost ten records and moves to 1008. -/
theorem test_read_events_skips :
    let s : State :=
      { base with
        aeu := { base.aeu with
          events := (List.range 128).map (fun i => { serial := BitVec.ofNat 32 (1000 + i), stamp := 0, event := .resumed 0 }), nextSerial := 1128 }
        sli := { base.sli with bridge := { base.sli.bridge with cursor := 990 } } }
    let t := after (.readEvents .bridge false) s
    t.sli.bridge.cursor = 1008 ∧ (t.sli.bridge.reply.map (fun r => r.fields.take 9)) = some [1, 0, 0, 0, 10, 8, 0, 0, 3] := by decide +kernel

/-- 12.8: the stand's claim under a running operation of the bridge, and its STOP. -/
theorem test_stand_takes_over :
    let s := withOp (context .running [entry 0 (some 0)])
    ((after (.claimControl .stand false 7) s).sli.stand.reply.map (fun r => r.result)) = some .refusedState ∧
      ((after (.stop .stand false) s).osq.context.map (fun x => (x.state, x.causes))) =
        some (.holding, [{ kind := .stopRequest, subject := .station .stand }]) := by decide +kernel

/-- 12.8: the silent bridge loses authority. -/
theorem test_silent_bridge :
    let t := after (.silenceTimerExpiry .bridge) base
    t.amu.holder = .none ∧ t.sli.bridge.active = false ∧ t.aeu.alarms.map (fun a => a.kind) = [.restart, .bridgeLinkLost] := by decide +kernel

/-- A STOP record in a frame for address 20h: 11h, no flags, no body; the reply is 91h with the result OK. -/
theorem test_stop_frame_replies :
    (after (.requestFrame .bridge (frameBytes 0x20 [0x11, 0x00, 0x00])) base).sli.bridge.sent = frameBytes 0x20 [0x91, 0x00, 0x01, 0x00] := by
  decide +kernel

/-- R150: an open channel stops the part: outputs off, grants gone, the context holding. -/
theorem test_estop_stops :
    let t := after (.estopChannelChange false true) (moving .driving 365)
    t.ost.estop = .active ∧ t.hpa.grants = [] ∧ t.osq.context.map (fun x => x.causes.map (fun c => c.kind)) = some [.estop] := by decide +kernel

/-- 9.6: a stuck output takes its bank off and faults every point that owns an output there. -/
theorem test_stuck_takes_bank :
    let t := after (.coilFaultStuck [4]) base
    t.ost.banks[0]?.map (fun b => b.stuck) = some true ∧ t.faultOf 2 = some .coilFault ∧ t.faultOf 3 = some .coilFault := by decide +kernel

/-- The published check values of the two CRCs over the digits 1 to 9 (PRESUMED: the values are not in the manual). -/
theorem test_crc_check_values :
    let digits : List Byte := [0x31, 0x32, 0x33, 0x34, 0x35, 0x36, 0x37, 0x38, 0x39]
    crc16 digits = 0x29B1 ∧ crc32 digits = 0xCBF43926 := by decide +kernel

/-- No word spells a command: the table gives no row a bit. -/
theorem test_no_word_spells : decodeTableWord 8 0 = none ∧ State.reset.withFetchWord 8 0 = State.reset := by decide +kernel

/-! ### Further hypotheses that concrete states meet: the re-issue, the reports to the units, the entry to SEA and the first scan -/

/-- The RUNNING context of given entries, each due for re-issue or not. -/
def dueFor (d : Bool) (es : List Entry) : Context := context .running (es.map (fun n => { n with due := d }))

/-- The premises under which RESUME's re-issue is stated. -/
def resuming (x : Context) (s : State) : Prop :=
  s.todo = [] ∧ s.osq.context = some x ∧ x.state = .running ∧ x.causes = [] ∧ x.inFlight.length ≤ 6 ∧
    ∀ m, (∀ o ∈ x.inFlight, o.motion ≠ some m) → s.ldu? m = none

theorem resuming_withOp (d : Bool) (es : List Entry) (s : State) (ht : s.todo = []) (hl : s.ldu.motions = []) (hn : es.length ≤ 6) :
    resuming (dueFor d es) (withOp (dueFor d es) s) := by
  refine ⟨ht, rfl, rfl, rfl, by simpa [dueFor, context] using hn, fun m _ => ?_⟩
  show tget s.ldu.motions m = none
  rw [hl]
  rfl

/-- The drive of group 0 as a step. -/
def retractBoth : StepKind := .driveGroup 0 .retract

theorem retractBoth_satisfied : (locksAt .retracted .retracted).StepSatisfied retractBoth := all_some _ rfl (by decide +kernel)

theorem retractBoth_needed (s : State) (hg : tget s.layout.groups 0 = tget small.groups 0) (h : s.confirmed 2 ≠ .retracted) :
    ¬ s.StepSatisfied retractBoth := fun hs => h (hs _ hg 2 (List.mem_cons_self ..))

theorem meets_ResumeLeadsBackToRunning_reissue :
    resuming (dueFor false [entry 0 (some 0)]) (withOp (dueFor false [entry 0 (some 0)])) ∧
    (resuming (dueFor true [entry 0 (some 0)]) (withOp (dueFor true [entry 0 (some 0)])) ∧ (entry 0 (some 0)).state = .active) ∧
    ((∀ p, resuming (dueFor true [entry 1 (some 0) .halted]) (withOp (dueFor true [entry 1 (some 0) .halted]) (moveHeld p))) ∧
      (moveHeld 365).ldu? 0 = none ∧
      (((moveHeld 365).aduReissue 0).adu? 0).map (fun a => a.state) = some .waitingFlow ∧
      (((moveHeld 716).aduReissue 0).adu? 0).map (fun a => (a.state, a.cause)) = some (.done, none) ∧
      (((moveHeld 714 (some .stall)).aduReissue 0).adu? 0).map (fun a => (a.state, a.cause)) = some (.failed, some .axisFaulted)) ∧
    (resuming (dueFor true [entry 2 none .halted]) (withOp (dueFor true [entry 2 none .halted])) ∧
      (entry 2 none .halted).step.kind = .wait 8 true 600 ∧ base.cond 8 ≠ .yes ∧
      ({ base with cev := { base.cev with conds := List.replicate 32 .yes } } : State).cond 8 = .yes ∧
      resuming (dueFor true [entry 3 none .halted]) (withOp (dueFor true [entry 3 none .halted])) ∧
      (entry 3 none .halted).step.kind = .pause 5) ∧
    (∀ s : State, s.todo = [] → s.ldu.motions = [] →
      resuming (dueFor true [entry 0 (some 3) .failed]) (withOp (dueFor true [entry 0 (some 3) .failed]) s)) ∧
    ((locksAt .retracted .retracted).StepSatisfied retractBoth ∧ (locksAt .retracted .retracted).todo = []) ∧
    (resuming (dueFor true [entry 1 (some 3) .failed]) (withOp (dueFor true [entry 1 (some 3) .failed]) (visorAt 365)) ∧
      (¬ (visorAt 365).StepSatisfied (.moveAxis 0 .openEnd false)) ∧
      ((visorAt 365).stepAsks (.moveAxis 0 .openEnd false)).bind (visorAt 365).permissive = some 0) ∧
    (resuming (dueFor true [entry 2 none .failed]) (withOp (dueFor true [entry 2 none .failed])) ∧
      ¬ base.StepSatisfied (.wait 8 true 600) ∧ (base.stepAsks (.wait 8 true 600)).bind base.permissive = none) ∧
    ((¬ (locksHeld none).StepSatisfied retractBoth) ∧ (¬ (locksHeld none).ClaimFree retractBoth) ∧
      ((locksHeld none).stepAsks retractBoth).bind (locksHeld none).permissive = none) ∧
    ((¬ base.StepSatisfied retractBoth) ∧ base.ClaimFree retractBoth ∧ base.issueCause retractBoth = none ∧
      base.todo = [] ∧ base.ldu.motions = []) ∧
    ((¬ (locksAt .engaged .engaged (some .coilFault)).StepSatisfied retractBoth) ∧
      (locksAt .engaged .engaged (some .coilFault)).ClaimFree retractBoth ∧
      (locksAt .engaged .engaged (some .coilFault)).issueCause retractBoth = some .memberFaulted) := by
  unfold State.ClaimFree
  refine ⟨resuming_withOp _ _ _ rfl rfl (by decide), ⟨resuming_withOp _ _ _ rfl rfl (by decide), rfl⟩,
    ⟨fun p => resuming_withOp _ _ _ rfl rfl (by decide), ?_⟩,
    ⟨resuming_withOp _ _ _ rfl rfl (by decide), rfl, ?_, rfl, resuming_withOp _ _ _ rfl rfl (by decide), rfl⟩,
    fun s ht hl => resuming_withOp _ _ _ ht hl (by decide), ⟨retractBoth_satisfied, rfl⟩,
    ⟨resuming_withOp _ _ _ rfl rfl (by decide), ?_, ?_⟩, ⟨resuming_withOp _ _ _ rfl rfl (by decide), ?_, ?_⟩,
    ⟨retractBoth_needed _ rfl ?_, ?_, ?_⟩, ⟨retractBoth_needed _ rfl ?_, ?_, ?_, rfl, rfl⟩, retractBoth_needed _ rfl ?_, ?_, ?_⟩
  case refine_3 =>
    rintro ⟨a, p, ha, hp, hd, -⟩
    rw [(by decide +kernel : (visorAt 365).layout.axis? 0 = some visor)] at ha
    rw [(by decide +kernel : (visorAt 365).position 0 = some 365)] at hp
    cases ha
    cases hp
    exact absurd hd (by decide +kernel)
  case refine_5 =>
    show ¬ base.cond 8 = .yes
    decide +kernel
  all_goals decide +kernel

theorem meets_ResumeLeadsBackToRunning_offer :
    resuming (dueFor false [entry 0 (some 0)]) (withOp (dueFor false [entry 0 (some 0)])) ∧
    (∀ s : State, s.todo = [] → s.ldu.motions = [] →
      resuming (dueFor false [entry 3 none, entry 0 none]) (withOp (dueFor false [entry 3 none, entry 0 none]) s)) ∧
    (entry 3 none).step.kind = .pause 5 ∧ (entry 0 none).step.kind = retractBoth ∧ (entry 0 none).state = .active ∧
    (locksAt .retracted .retracted).StepSatisfied retractBoth ∧
    (resuming (dueFor false [entry 1 none]) (withOp (dueFor false [entry 1 none]) (visorAt 365)) ∧
      (entry 1 none).step.kind = .moveAxis 0 .openEnd false) ∧
    ((¬ (locksHeld none).ClaimFree retractBoth) ∧ base.ClaimFree retractBoth ∧ base.issueCause retractBoth = none) := by
  unfold State.ClaimFree
  refine ⟨resuming_withOp _ _ _ rfl rfl (by decide), fun s ht hl => resuming_withOp _ _ _ ht hl (by decide), rfl, rfl, rfl,
    retractBoth_satisfied, ⟨resuming_withOp _ _ _ rfl rfl (by decide), rfl⟩, ?_⟩
  decide +kernel

theorem meets_UnitsDriveOnTheirGrants_reports :
    (let s := driving (member 2)
     s.ldu? 0 = some (drive .driving (member 2) (member 3)) ∧ (s.hpa.grantOf 0).isSome = true ∧ s.adu? 0 = none ∧ s.reservedBy 2 = some 0 ∧
       (drive .driving (member 2) (member 3)).member? 2 = some (member 2) ∧ (member 2).state ≠ .failed) ∧
    ((driving (member 2) .done).ldu? 0 = some (drive .done (member 2) (member 3)) ∧ ((driving (member 2) .done).hpa.grantOf 0).isSome = true) ∧
    ((driving (member 2 .failed)).ldu? 0 = some (drive .driving (member 2 .failed) (member 3)) ∧
      ¬ ∀ x ∈ (drive .driving (member 2 .failed) (member 3)).members, x.state ≠ .driving ∧ x.state ≠ .backingOff) ∧
    (let g := { drive .halted (member 2) (member 3) with halt := some .hold }
     let s : State := { driving (member 2) with ldu := { motions := [(0, g)] } }
     s.ldu? 0 = some g ∧ s.reservedBy 2 = some 0 ∧ g.member? 2 = some (member 2) ∧ s.adu? 0 = none) ∧
    ((moving .driving 365).adu? 0 = some (move .driving) ∧ (moving .driving 365).ldu? 0 = none ∧ (moving .driving 365).reservedBy 0 = some 0 ∧
      (moving .settling 716).adu? 0 = some (move .settling) ∧ ((moving .settling 716).hpa.grantOf 0).isSome = true ∧
      (moving .done 716).reservedBy 0 = some 0) ∧
    ((moveHeld 365).adu? 0 = some { move .halted with halt := some .hold } ∧ (moveHeld 365).reservedBy 0 = some 0) := by
  refine ⟨?_, ?_, ?_, ?_, ?_, ?_⟩ <;> decide +kernel

/-- R67: a handover that reaches a unit whose motion drives already leaves it on its grant. -/
theorem test_grant_of_driving_motion_is_kept :
    runTask (.granted 0) (driving (member 2)) = driving (member 2) ∧ runTask (.granted 0) (moving .driving 365) = moving .driving 365 :=
  ⟨by decide +kernel, by decide +kernel⟩

/-- R81, R82: a member's fault under STOP_GROUP ends the drive and fails its step. -/
theorem test_member_fault_stops_group :
    let t := runTask (.faulted 2 .coilFault true) (driving (member 2))
    (t.ldu? 0).map (fun g => (g.state, g.cause, g.failed)) = some (.failed, some (.point .coilFault), [2]) ∧ t.reservedBy 3 = none := by
  decide +kernel

/-- R69: withdrawn flow halts an axis move as a hold does. -/
theorem test_withdrawn_flow_halts_move :
    let t := runTask (.withdrawn 0) (moving .driving 365)
    (t.adu? 0).map (fun a => (a.state, a.halt, a.granted)) = some (.halted, some .hold, none) ∧ t.hpa.grants = [] := by decide +kernel

/-- R133: a FAILED drive is issued afresh under the first free id, and a WAIT completes where its condition holds. -/
theorem test_reissue_failed_drive :
    let t := runTask .reissue (withOp (context .running [{ entry 0 (some 3) .failed with due := true }]))
    (t.osq.context.map (fun x => x.inFlight.map (fun n => (n.motion, n.state, n.due)))) = some [(some 0, .active, false)] ∧
      t.reservedBy 2 = some 0 ∧ t.todo = [.pass, .reissue] := by decide +kernel

/-- At sea with a closure loss and a fault in the alarm list. -/
def lossesAtSea : State :=
  let s := inMode .sea
  { s with aeu := { s.aeu with
      lostVisor := true
      alarms := [{ kind := .closureLost, subject := 0, state := .ackActive, stamp := 0 }, alarm 2 .unackActive] } }

/-- The part with its closure SECURED and a fault of lock 2, outside SEA. -/
def securedFaulted : State := { secured with pmn := (locksAt .engaged .engaged (some .coilFault)).pmn }

theorem meets_ModeAndConsentAnswers_atSea :
    (securedFaulted.Serving ∧ securedFaulted.contextLive = false ∧ securedFaulted.cev.closure.overall = .secured ∧
      securedFaulted.amu.mode = .harbour ∧ securedFaulted.aeu.lostVisor = false ∧ securedFaulted.aeu.lostInner = false ∧
      securedFaulted.faultOf 2 ≠ none) ∧
    (lossesAtSea.Serving ∧ lossesAtSea.contextLive = false ∧ lossesAtSea.jogActive = false ∧ lossesAtSea.amu.mode = .sea ∧
      lossesAtSea.aeu.AlarmsOk) := by
  unfold State.Serving State.Ready Aeu.AlarmsOk
  decide +kernel

/-- R158 step 4, R162: entry to SEA raises POINT_FAULT of the faulted lock, after MODE_CHANGED; leaving it clears CLOSURE_LOST and keeps POINT_FAULT. -/
theorem test_sea_entry_and_exit :
    (let t := after (.setMode .bridge false 1) securedFaulted
     t.amu.mode = .sea ∧ t.aeu.alarms.any (fun x => x.kind == .pointFault && x.subject == 2 && x.state == .unackActive) = true) ∧
    (let t := after (.setMode .bridge false 0) lossesAtSea
     t.amu.mode = .harbour ∧ t.aeu.alarms.map (fun x => (x.kind, x.state)) = [(.pointFault, .unackActive)]) := by decide +kernel

/-- The base state with lock 2's inputs rescanned at the level they hold while the lock reads ENGAGED. -/
def rescanned : State := { base with pmn := (locksAt .engaged .engaged).pmn }

/-- The base state one pump feedback before its first scan is complete. -/
def lastToScan : State :=
  { base with
    isc :=
      { field := base.isc.field.map (fun e => (e.1, { e.2 with rescan := false }))
        feedback := base.isc.feedback
        analog := base.isc.analog.map (fun e => (e.1, { samples := [2000, 2000, 2000, 2000], filtered := some 2000, health := some .healthy }))
        scanPending := true }
    cev := { base.cev with started := false } }

theorem meets_DiscreteInputsDebounce_scan :
    (let t := after (.discreteSample []) rescanned
     rescanned.Ready ∧ tget rescanned.layout.points 2 = some (.lock (lockAt 2)) ∧ rescanned.lock? 2 = some { confirmed := .engaged } ∧
       (tget rescanned.isc.field 4).map (fun x => x.rescan) = some true ∧ (tget t.isc.field 4).map (fun x => x.rescan) = some false ∧
       t.debounced 4 = rescanned.debounced 4 ∧ t.confirmed 2 = .between) ∧
    (let t := after (.discreteSample []) lastToScan
     tsorted lastToScan.layout.points = true ∧ tsorted lastToScan.isc.field = true ∧ lastToScan.lock? 2 = some {} ∧
       (tget lastToScan.isc.field 4).map (fun x => x.rescan) = some false ∧ tget t.isc.field 4 = tget lastToScan.isc.field 4 ∧
       tget t.isc.field 5 = tget lastToScan.isc.field 5 ∧ t.debounced 4 = lastToScan.debounced 4 ∧ t.debounced 5 = lastToScan.debounced 5) ∧
    (let t := after (.discreteSample [.feedback 0]) lastToScan
     lastToScan.Ready ∧ lastToScan.isc.scanPending = true ∧ (∀ a ∈ t.isc.analog, a.2.filtered ≠ none) ∧
       (∀ x ∈ t.isc.field, x.2.rescan = false) ∧ (∀ x ∈ t.isc.feedback, x.2.rescan = false) ∧ lastToScan.cev.conds.length = 32 ∧
       (lastToScan.axis? 0).isSome = true ∧ t.isc.scanPending = false ∧ t.cev.started = true ∧ (t.position 0).isSome = true) ∧
    ((after (.discreteSample []) base).isc.analog.all (fun a => a.2.filtered != none) = false ∧ base.cev.conds.length = 32) := by
  unfold State.Ready
  decide +kernel

/-- The base state one analog sample before its first scan is complete. -/
def lastToSample : State :=
  { lastToScan with isc := { lastToScan.isc with
      feedback := base.isc.feedback.map (fun e => (e.1, { e.2 with rescan := false }))
      analog := tput lastToScan.isc.analog 0 { samples := [2300, 2300, 2300] } } }

theorem meets_AnalogChannelFollowsItsSamples_scan :
    let t := after (.analogFilteredValue 0 2300) lastToSample
    lastToSample.Ready ∧ (tget lastToSample.isc.analog 0).isSome = true ∧ lastToSample.isc.scanPending = true ∧
      (∀ a ∈ t.isc.analog, a.2.filtered ≠ none) ∧ (∀ x ∈ t.isc.field, x.2.rescan = false) ∧ (∀ x ∈ t.isc.feedback, x.2.rescan = false) ∧
      lastToSample.cev.conds.length = 32 ∧ t.isc.scanPending = false := by
  unfold State.Ready
  decide +kernel

/-- A STRUCTURE commit ends its write while an operation has ended before. -/
theorem meets_CommittedLayoutIsConsistentAndActive_ended :
    let s := withOp (context .complete []) (writing .struct)
    s.Ready ∧ s.lst.commit = .writing ∧ s.lst.pendingLayout = some (.struct, small) ∧ s.contextLive = false ∧ s.osq.ContextOk := by
  refine ⟨⟨rfl, rfl⟩, rfl, rfl, rfl, ?_⟩
  intro x hx
  cases hx
  exact ⟨by decide, by decide, by decide, by decide, by decide, by decide⟩

/-! ### Further hypotheses that concrete states meet: holds, banks, pumps, and what a commit withdraws -/

theorem meets_StopHoldsAndCancels_motions :
    ((moving .driving 365).osq.context = some (context .running [entry 1 (some 0)]) ∧ (entry 1 (some 0)).state = .active ∧
      (moving .driving 365).adu? 0 = some (move .driving) ∧ (moving .driving 365).reservedBy 0 = some 0 ∧
      (driving (member 2)).osq.context = some (context .running [entry 0 (some 0)]) ∧
      (driving (member 2)).ldu? 0 = some (drive .driving (member 2) (member 3)) ∧ (driving (member 2)).reservedBy 2 = some 0 ∧
      0 ≠ Config.jogMotion) ∧
    (let s := withJog (lockJog .driving) (base.modLock 2 (fun y => { y with reserved := some 7 }))
     s.Ready ∧ s.reservedBy 2 = some Config.jogMotion ∧ s.layout.lock? 2 = some (lockAt 2) ∧ s.ost.coils[4]?.map (fun c => c.owner) = some (some 2)) := by
  unfold State.Ready
  decide +kernel

/-- Bank 0 OFF for the stuck coil 4 of lock 2, with its alarm and lock 2's fault. -/
def bankStuck : State :=
  let s := locksAt .engaged .engaged (some .coilFault)
  { s with
    ost := { s.ost with
      coils := lmod s.ost.coils 4 (fun c => { c with state := .faultStuck })
      banks := lmod s.ost.banks 0 (fun k => { k with stuck := true }) }
    aeu := { s.aeu with alarms := [{ kind := .coilBankOff, subject := 0, state := .unackActive, stamp := 0 }] } }

theorem meets_ClearFaultAnswers_bank :
    (bankStuck.Serving ∧ bankStuck.aeu.AlarmsOk ∧ bankStuck.faultOf 2 = some .coilFault ∧ bankStuck.underlying 2 .coilFault = false ∧
      bankStuck.ost.banks[0]?.map (fun k => k.stuck) = some true ∧ bankStuck.faultOf 3 = none) ∧
    (pumpIn .faulted false none none).aeu.AlarmsOk := by
  unfold State.Serving State.Ready Aeu.AlarmsOk
  decide +kernel

/-- R147: the last stuck output of a bank is released: its bank is ON again and COIL_BANK_OFF has cleared. -/
theorem test_clear_of_stuck_bank :
    let t := after (.clearFaultPoint .bridge false 2) bankStuck
    t.ost.banks[0]? = some { startup := false, estop := false, stuck := false } ∧
      t.aeu.alarms.map (fun x => (x.kind, x.state)) = [(.coilBankOff, .unackCleared)] := by decide +kernel

/-- Motions 0 and 1 drive one lock of bank 0 each. -/
def twoDrives : State :=
  let s := withOp (context .running [entry 0 (some 0), entry 0 (some 1)]) (locksAt .engaged .engaged)
  let one (p : Nat) : GroupMotion := { drive .driving (member p) (member p) with members := [member p] }
  { s with
    ldu := { motions := [(0, one 2), (1, one 3)] }
    pmn := { points := tput (tput s.pmn.points 2 (.lock { confirmed := .engaged, reserved := some 0 })) 3
                       (.lock { confirmed := .engaged, reserved := some 1 }) } }

/-- R146: a bank that goes off for STUCK fails both motions, and both entries are FAILED with STEP_FAILED alone as the cause. -/
theorem test_stuck_bank_fails_every_motion :
    let t := after (.coilFaultStuck [4]) twoDrives
    t.ldu.motions.map (fun g => (g.1, g.2.state)) = [(0, .failed), (1, .failed)] ∧
      t.osq.context.map (fun x => (x.causes.map (fun c => c.kind), x.inFlight.map (fun n => n.state))) =
        some ([.stepFailed], [.failed, .failed]) := by decide +kernel

theorem meets_StuckOutputTakesItsBankOff_reports :
    twoDrives.Ready ∧ twoDrives.supervised 4 .off = some 2 ∧ twoDrives.aeu.NotAcked .coilBankOff 0 ∧ (twoDrives.reservedBy 3).isSome = true ∧
      twoDrives.ost.coils[6]?.map (fun c => c.owner) = some (some 3) ∧ bankOf 6 = bankOf 4 ∧
      Task.ofRecord (.faulted 2 .coilFault true) = true ∧ Task.ofRecord (.floatRecord 1) = true ∧ Task.ofRecord .pass = false := by
  unfold State.Ready Aeu.NotAcked
  decide +kernel

theorem meets_PumpsFollowTheirTable_alarm :
    (pumpIn .starting false (some 50) none).aeu.NotAcked .pumpFault 0 ∧ (pumpIn .running true none none true).aeu.NotAcked .pumpFault 0 ∧
      base.cev.started = true ∧ base.cev.conds.length = 32 := by
  unfold Aeu.NotAcked
  decide +kernel

theorem meets_RecordsRefusedBeforeTheirRule_firstWrite :
    let s := inPhase .unconfigured none (writing .struct)
    Instr.record? (.stop .stand false) = some (.stand, false, 0x11, .work) ∧ Service.work.busy = false ∧ Service.work.bare = false ∧ s.Ready ∧
      s.lst.phase = .unconfigured ∧ s.lst.commit = .writing ∧ Service.full.busy = true := by
  unfold State.Ready
  decide +kernel

theorem meets_ResetEstopAnswers_undecided :
    let s : State := { base with ost := { base.ost with estop := .undecided } }
    s.Serving ∧ s.aeu.AlarmsOk ∧ s.ost.estop ≠ .clear ∧ s.amu.holder = holderOf .bridge ∧ s.ost.openA = false ∧ s.ost.openB = false := by
  unfold State.Serving State.Ready Aeu.AlarmsOk
  decide +kernel

theorem meets_AxisPositionFromTransducers_atSea :
    (inMode .sea).layout.axis? 0 = some visor ∧ ((inMode .sea).axis? 0).map (fun y => y.degraded) = some false ∧
      (inMode .sea).aeu.NotAcked .transducerLost 0 ∧ floating.floats 1 = true ∧ (tget floating.pmn.points 1).map (fun d => d.fault) = some none := by
  unfold Aeu.NotAcked
  decide +kernel

theorem meets_UnitsDriveOnTheirGrants_position :
    let s : State := { moving .driving 365 with
      pmn := base.pmn, adu := { motions := [(0, { move .halted with halt := some .hold })] } }
    s.adu? 0 = some { move .halted with halt := some .hold } ∧ s.position 0 = none := by decide +kernel

theorem meets_CommittedLayoutIsConsistentAndActive_live :
    (let s := withOp (context .running [entry 0 (some 0)]) (writing .struct (driving (member 2)))
     s.Ready ∧ s.lst.commit = .writing ∧ s.lst.pendingLayout = some (.struct, small) ∧
       s.osq.context = some (context .running [entry 0 (some 0)]) ∧ (s.ldu? 0).isSome = true) ∧
    (withJog (lockJog .driving) (writing .struct)).osq.jog = some (lockJog .driving) := by
  unfold State.Ready
  decide +kernel

/-- R186, step 1: a STRUCTURE commit aborts the operation and cancels the jog with AUTHORITY_LOST. -/
theorem test_commit_withdraws :
    let t := after .layoutWriteEnd (writing .struct (withJog (lockJog .driving) (driving (member 2))))
    t.osq.context.map (fun x => (x.state, x.inFlight.length)) = some (.aborted, 0) ∧
      t.osq.jog.map (fun j => (j.phase, j.cause)) = some (.ended, some .authorityLost) := by decide +kernel

/-- R8, R107: a STRUCTURE commit that keeps a float makes the tip load absent, and the lift-off timer stops. -/
theorem test_commit_stops_lift_off_timer :
    (tget (writing .struct (rampAt (some 800) (some 50) (some { liftTimer := some 20 }))).adu.floats 1).map (fun f => f.liftTimer) = some (some 20) ∧
      (tget (after .layoutWriteEnd (writing .struct (rampAt (some 800) (some 50) (some { liftTimer := some 20 })))).adu.floats 1).map
        (fun f => f.liftTimer) = some none := by decide +kernel

/-! ### What the widened statements ask: frames, permissives at a resumption, handed points and channels, a committed layout -/

/-- The bridge link SILENT with its alarm acknowledged. -/
def silentBridge : State :=
  { base.modLink .bridge (fun l => { l with silence := none, active := false }) with
    aeu := { base.aeu with alarms := [{ kind := .bridgeLinkLost, subject := 0, state := .ackActive, stamp := 0 }, alarm 2 .unackActive] } }

theorem meets_RequestFrameHandlesItsRecords_parts :
    (base.sli.bridge.active = true ∧ silentBridge.sli.bridge.active = false ∧ silentBridge.aeu.AlarmsOk ∧
      ((silentBridge.linkHeard .bridge).aeu.alarms, (silentBridge.linkHeard .bridge).sli.bridge.silence) = ([alarm 2 .unackActive], some 30)) ∧
    (let more : RawRecord := { kind := 0x01, flags := 0x80, body := [] }
     let last : RawRecord := { kind := 0x02, flags := 0x01, body := [0, 0, 0, 7] }
     let long : RawRecord := { kind := 0x4A, flags := 0x80, body := List.replicate 255 0 }
     more.flags.getLsbD 7 = true ∧ last.flags.getLsbD 7 = false ∧ long.flags.getLsbD 7 = true ∧ long.body.length ≤ 255 ∧
       (List.replicate 7 more).length < 8 ∧ (List.replicate 8 more).length = 8 ∧ [last.kind].length < 3 ∧
       [last.kind, last.flags, 4, 0, 0, 0].length < 3 + ([last.kind, last.flags, 4, 0, 0, 0].getD 2 0).toNat) := by
  unfold Aeu.AlarmsOk
  decide +kernel

/-- R174: eight records are well formed, and the failures of a ninth, of a missing last and of a byte too many. -/
theorem test_split_records :
    let code (x : Except FrameError (List RawRecord)) : Nat := match x with
      | .ok rs => 10 + rs.length
      | .error e => frameErrorCode e
    let heads (n : Nat) : List Byte := (List.replicate n [(0x01 : Byte), 0x80, 0x00]).flatten
    code (splitRecords 8 (heads 7 ++ [0x01, 0x00, 0x00])) = 18 ∧ code (splitRecords 8 (heads 8 ++ [0x01, 0x00, 0x00])) = 1 ∧
      code (splitRecords 8 (heads 8)) = 2 ∧ code (splitRecords 8 (heads 2 ++ [0x01, 0x00])) = 0 ∧
      code (splitRecords 8 [0x01, 0x00, 0x00, 0x01, 0x00, 0x00]) = 0 ∧ code (splitRecords 8 [0x01, 0x00, 0x01]) = 0 := by decide +kernel

theorem meets_ResumeLeadsBackToRunning_asked :
    (let s := withOp (holding stopCause) (visorAt 365)
     (holding stopCause).inFlight[0]? = some (entry 1 (some 0) .halted) ∧ (¬ s.StepSatisfied (.moveAxis 0 .openEnd false)) ∧
       s.position 0 = some 365 ∧ s.permissive (.axis 0 (if s.targetOf 0 .openEnd > 365 then .opening else .closing)) = some 0) ∧
    ((locksAt .retracted .retracted).StepSatisfied retractBoth ∧ (∀ c, base.permissive (.group 0 .retract) ≠ some c)) := by
  refine ⟨⟨rfl, ?_, rfl, by decide +kernel⟩, retractBoth_satisfied, ?_⟩
  · rintro ⟨a, p, ha, hp, hd, -⟩
    rw [show (withOp (holding stopCause) (visorAt 365)).layout.axis? 0 = some visor by decide +kernel] at ha
    rw [show (withOp (holding stopCause) (visorAt 365)).position 0 = some 365 by decide +kernel] at hp
    cases ha
    cases hp
    exact absurd hd (by decide +kernel)
  · rw [show base.permissive (.group 0 .retract) = none by decide +kernel]
    simp

/-- The base state after its first scan: nothing is to be rescanned, and the visor's channels stand one sample before a filtered value. -/
def scanned : State :=
  { visorAt 365 with
    isc :=
      { field := tput (base.isc.field.map (fun e => (e.1, { e.2 with rescan := false }))) 28 { cls := .general, count := 5, rescan := false }
        feedback := base.isc.feedback.map (fun e => (e.1, { e.2 with rescan := false }))
        analog := tput (visorAt 365).isc.analog 0 { samples := [2300, 2300, 2300], filtered := some 2300, health := some .recovering, recovery := some 5 }
        scanPending := false } }

theorem meets_HandedPoints :
    (let t := after (.discreteSample [.field 28]) scanned
     scanned.Ready ∧ scanned.cev.started = true ∧ scanned.cev.conds.length = 32 ∧ scanned.layout.header = small.header ∧
       scanned.debounced 28 = false ∧ t.debounced 28 = true ∧ t.cond 4 = .yes) ∧
    (tget base.layout.conditions 8 = some [⟨2, .retracted⟩, ⟨3, .retracted⟩] ∧ tget base.layout.conditions 9 = some [⟨0, .atClosed⟩, ⟨2, .engaged⟩] ∧
      base.faultOf 2 = none ∧ base.supervised 4 .on = none ∧ coilOn.supervised 4 .on = some 2 ∧ coilOn.faultOf 2 = none ∧
      coilOn.cev.started = true ∧ coilOn.cev.conds.length = 32 ∧ bankStuck.cev.started = true ∧ bankStuck.cev.conds.length = 32) ∧
    (let t := after (.debouncedValueChange [(.field 4, true), (.field 6, true)]) base
     base.confirmed 2 = .between ∧ t.confirmed 2 = .engaged ∧ (t.cond 8, t.cond 9) = (.no, .unknown)) := by
  unfold State.Ready
  decide +kernel

theorem meets_SilentLinkLosesAuthority_consent :
    entrusted.Ready ∧ (entrusted.link .bridge).silence ≠ none ∧ entrusted.amu.consent = true ∧ entrusted.cev.started = true ∧
      entrusted.cev.conds.length = 32 := by
  unfold State.Ready
  decide +kernel

theorem meets_AnalogChannelFollowsItsSamples_handed :
    (scanned.Ready ∧ tsorted scanned.layout.points = true ∧ scanned.isc.scanPending = false ∧
      (tget scanned.isc.analog 0).map (fun a => (a.samples.length, a.health)) = some (3, some .recovering)) ∧
    scanned.UsesInput 0 0 ∧ (∀ d, scanned.layout.axis? 2 ≠ some d) ∧
    (let s := analogIn { samples := [2300, 2300, 2300] }
     s.Ready ∧ (tget s.isc.analog 0).map (fun a => a.samples.length) = some 3 ∧ (after (.analogFilteredValue 0 2300) s).isc.scanPending = true ∧
       s.layout.axis? 0 = some visor ∧ (s.axis? 0).isSome = true) ∧
    (tget base.isc.analog 0).map (fun a => (a.samples, a.filtered)) = some ([], none) := by
  refine ⟨?_, ⟨visor, by decide +kernel, .inl rfl⟩, ?_, ?_, ?_⟩
  · unfold State.Ready
    decide +kernel
  · rw [show scanned.layout.axis? 2 = none by decide +kernel]
    simp
  · unfold State.Ready
    decide +kernel
  · decide +kernel

/-- R23, R34: a filtered value after the first scan moves the axis, and before it brings its health alone. -/
theorem test_filtered_value_moves_axis :
    (after (.recoveryTimerExpiry 0) scanned).position 0 = some 365 ∧
      ((after (.analogFilteredValue 0 4060) scanned).axis? 0).map (fun y => (y.healthyA, y.posA, y.p)) = some (false, none, some 366) ∧
      ((after (.analogFilteredValue 0 2300) (analogIn { samples := [2300, 2300, 2300] })).axis? 0).map (fun y => (y.healthyA, y.p)) =
        some (true, none) := by decide +kernel

/-- A layout of one lock, one condition, one operation and one list that pauses. -/
def tidy : Layout :=
  { header := some { visorCond := 8, innerCond := 4, deckClear := some 28, linkspan := none }
    tuning := some tuning
    pumps := [(0, { capacity := 120, startTime := 50 })]
    points := [(2, .lock (lockAt 2))]
    groups := [(0, { members := [2], policy := .stopGroup, retryLimit := 2, backOff := 10 })]
    conditions := [(8, [⟨2, .retracted⟩])]
    permissives := [(0, { subject := .group 0 .retract, require := [4, 8], forbid := [1] })]
    operations := [(0, { name := [0x4F], modes := [.sea], list := 0, reverse := none })]
    lists := [(0, [plain (.driveGroup 0 .engage), plain (.call 1)]), (1, [plain (.wait 4 true 0)])] }

theorem forall_tget {α : Type} {t : Table α} {P : Nat → α → Prop} (h : ∀ e ∈ t, P e.1 e.2) : ∀ i a, tget t i = some a → P i a :=
  fun _ _ hi => h _ (mem_of_tget hi)

/-- A table of one row. -/
theorem one_row {α : Type} {t : Table α} {k : Nat} {b : α} {P : Nat → α → Prop} (ht : t = [(k, b)]) (h : P k b) : ∀ i a, tget t i = some a → P i a :=
  forall_tget (by subst ht; intro e he; cases List.mem_singleton.mp he; exact h)

theorem tidy_known (c : Nat) (h : c = 1 ∨ c = 4 ∨ c = 8) : knownCond tidy c :=
  match c, h with
  | 1, _ => ⟨.inl (by decide), fun h => (nomatch h), fun h => (nomatch h)⟩
  | 4, _ => ⟨.inl (by decide), fun _ => ⟨_, rfl, by decide⟩, fun h => (nomatch h)⟩
  | 8, _ => ⟨.inr (by decide), fun h => (nomatch h), fun h => (nomatch h)⟩

theorem tidy_lock {i : Nat} {x : PointDef} (h : tget tidy.points i = some x) : (i, x) = (2, .lock (lockAt 2)) :=
  List.mem_singleton.mp (mem_of_tget h)

theorem tidy_once (use : PointDef → List Nat) (h : (use (.lock (lockAt 2))).Nodup) : usedOnce tidy use := by
  refine ⟨one_row rfl h, ?_⟩
  intro i j d e hi hj hij
  cases tidy_lock hi
  cases tidy_lock hj
  exact absurd rfl hij

theorem tidy_list {i : Nat} {ss : List Step} (h : tget tidy.lists i = some ss) :
    (i = 0 ∧ ss = [plain (.driveGroup 0 .engage), plain (.call 1)]) ∨ (i = 1 ∧ ss = [plain (.wait 4 true 0)]) := by
  have := mem_of_tget h
  simp [tidy] at this
  exact this

theorem meets_CommittedLayoutIsConsistentAndActive_layout : LayoutSorted tidy ∧ LayoutConsistent tidy ∧ firstFailure tidy = none := by
  refine ⟨⟨by decide +kernel, by decide +kernel⟩, ?_, by decide +kernel⟩
  exact
    { counts := by decide +kernel
      header := all_some _ rfl ⟨tidy_known 8 (by decide), tidy_known 4 (by decide)⟩
      sensors := tidy_once _ (by decide)
      assigned := by
        intro h k hh hk i d hi
        cases hh
        cases tidy_lock hi
        rcases hk with hk | hk <;> cases hk
        decide
      analogs := tidy_once _ (by decide)
      coils := tidy_once _ (by decide)
      outputs := tidy_once _ (by decide)
      lockCoils := by
        intro i d hi
        cases tidy_lock hi
        decide
      axes := by
        intro i d ws hi
        cases tidy_lock hi
      groups := one_row rfl ⟨by decide, by simp; exact ⟨_, rfl⟩, by decide +kernel⟩
      conditions := one_row rfl ⟨by decide, by simp; exact ⟨_, rfl⟩⟩
      operations := one_row rfl
        ⟨by decide, fun r h => (nomatch h), fun _ => ⟨fun _ => True, trivial, fun k ss _ hs x hx => by
          rcases tidy_list hs with ⟨-, rfl⟩ | ⟨-, rfl⟩ <;> simp at hx
          · rcases hx with rfl | rfl
            · rfl
            · trivial
          · subst hx
            trivial⟩⟩
      stepCount := by decide
      steps := by
        intro i ss hs
        rcases tidy_list hs with ⟨-, rfl⟩ | ⟨-, rfl⟩
        · refine ⟨by decide, fun x hx => ?_⟩
          simp at hx
          rcases hx with rfl | rfl
          · show tget tidy.groups 0 ≠ none
            decide
          · show tget tidy.lists 1 ≠ none
            decide
        · refine ⟨by decide, fun x hx => ?_⟩
          simp at hx
          subst hx
          exact tidy_known 4 (by decide)
      calls := by
        refine ⟨fun i => 1 - i, ?_, one_row rfl (by decide)⟩
        intro i ss hs x hx c hc
        rcases tidy_list hs with ⟨rfl, rfl⟩ | ⟨rfl, rfl⟩ <;> simp at hx
        · rcases hx with rfl | rfl <;> cases hc
          decide
        · subst hx
          cases hc
      permissives := one_row rfl
        ⟨by decide, fun c hc => ⟨tidy_known c (by simp at hc; omega), by simp at hc ⊢; omega⟩,
          fun c hc => ⟨tidy_known c (by simp at hc; omega), by simp at hc; omega⟩,
          fun j f hj hji => by
            cases List.mem_singleton.mp (mem_of_tget hj)
            exact absurd rfl hji⟩
      tuning := all_some _ rfl (by decide) }

/-- The first layout of an UNCONFIGURED part at the end of its write, STARTUP on every bank. -/
def firstWrite : State :=
  let s := inPhase .unconfigured none (writing .struct (inMode .maintenance))
  { s with ost := { s.ost with banks := List.replicate 6 { startup := true, estop := false, stuck := false } } }

theorem meets_CommittedLayoutIsConsistentAndActive_first :
    firstWrite.Ready ∧ firstWrite.lst.commit = .writing ∧ firstWrite.lst.pendingLayout = some (.struct, small) ∧
      firstWrite.lst.phase = .unconfigured ∧ firstWrite.cev.started = true ∧ firstWrite.cev.conds.length = 32 ∧
      (writing .tuning).cev.started = true ∧ (writing .tuning).cev.conds.length = 32 ∧
      (∃ h, small.header = some h ∧ h.deckClear = some 28) ∧ (∃ x ∈ small.points, 4 ∈ sensorsOf x.2) ∧ (∃ x ∈ small.points, 0 ∈ analogsOf x.2) := by
  unfold State.Ready
  refine ⟨by decide +kernel, rfl, rfl, rfl, rfl, by decide +kernel, rfl, by decide +kernel, ⟨_, rfl, rfl⟩, ?_, ?_⟩ <;> decide

/-- R188: the first commit takes STARTUP from every bank, makes the mode HARBOUR and awaits the first scan. -/
theorem test_first_commit :
    let t := after .layoutWriteEnd firstWrite
    t.ost.banks.all (fun b => b.on) = true ∧ t.isc.scanPending = true ∧ t.amu.mode = .harbour ∧
      (tget t.isc.field 28).map (fun d => d.cls) = some .general ∧ (tget t.isc.field 4).map (fun d => d.cls) = some .sensor := by decide +kernel

/-- R38, R186: an input assigned to c4 is GENERAL, and a layout in which it is a lock's sensor too fails check 3. -/
theorem test_assigned_input_is_general :
    let l : Layout := { small with header := some { visorCond := 9, innerCond := 10, deckClear := some 4, linkspan := none } }
    tget (fieldInputs l) 4 = some .general ∧ tget (fieldInputs l) 5 = some .sensor ∧ firstFailure l = some (3, 2) := by decide +kernel

theorem meets_ReadRecordsReport_terminal :
    (withOp (context .aborted [])).Ready ∧ (withOp (context .aborted [])).osq.context = some (context .aborted []) ∧
      (context .aborted []).state = .aborted := by
  unfold State.Ready
  decide +kernel

/-- R126: a terminal context waits on nothing, whatever stands at its pointer; the same context RUNNING waits on the jog's point. -/
theorem test_terminal_waits_on_nothing :
    let s := base.modAxis 0 (fun y => { y with reserved := some 7 })
    s.waitsOn (context .running []) = 2 ∧ s.waitsOn (context .aborted []) = 3 := by decide +kernel

/-! ### Hypotheses of the clauses on events, alarms at sea, and the first checks of PUT records -/

theorem meets_WindowsAndStepsAreWrittenInPieces_checks :
    base.Ready ∧ base.busyPeriod = false ∧ base.lst.buffer = none ∧ (editing .struct .bridge).Ready ∧ (editing .struct .bridge).busyPeriod = false ∧
      (editing .struct .bridge).lst.buffer.map (fun b => b.owner) = some .bridge ∧ Station.bridge ≠ .stand := by
  unfold State.Ready
  decide +kernel

/-- R185, checks 1 and 2: PUT_STEP without a buffer, and LIST_BEGIN on the other station's buffer. -/
theorem test_pieces_refused :
    ((after (.putStep .bridge false none) base).sli.bridge.reply.map (fun r => (r.kind, r.result)) = some (0xC9, .refusedState)) ∧
      (after (.listBegin .stand false 5 (some true)) (editing .struct .bridge)).sli.stand.reply.map (fun r => (r.kind, r.result)) =
        some (0xC8, .refusedAuthority) := by decide +kernel

theorem meets_DiscreteInputsDebounce_feedback :
    scanned.Ready ∧ tget scanned.isc.feedback 0 = some { cls := .feedback, debounced := false, count := 0, rescan := false } ∧
      tget scanned.isc.feedback 2 = none ∧ [(DiscreteInput.field 4, true)].find? (fun c => c.1 == .feedback 0) = none ∧
      0 + 1 < sampleCount scanned.tune .feedback := by
  unfold State.Ready
  decide +kernel

/-- R19: a feedback input whose change the sample does not complete is left. -/
theorem test_feedback_left :
    tget (after (.debouncedValueChange [(.feedback 0, true)]) scanned).isc.feedback 0 = tget scanned.isc.feedback 0 := by decide +kernel

theorem meets_StuckOutputTakesItsBankOff_atSea :
    let s := inMode .sea twoDrives
    s.Ready ∧ s.supervised 4 .off = some 2 ∧ s.aeu.EventsOk ∧ s.faultOf 3 = none ∧ s.aeu.NotAcked .pointFault 3 ∧
      (after (.coilFaultStuck [4]) s).faultOf 3 = some .coilFault := by
  unfold State.Ready Aeu.NotAcked Aeu.EventsOk
  decide +kernel

/-- R13, R146, R162: a bank that goes off at sea: each of its points has one POINT_FAULT event, then its alarm (behind the two closure losses of a
state that was set to SEA by hand). -/
theorem test_stuck_bank_at_sea :
    ((after (.coilFaultStuck [4]) (inMode .sea base)).aeu.events.drop (base.aeu.events.length + 2)).map (fun r => r.event) =
      [.pointFault 2 .coilFault, .alarmRaised .pointFault 2 .entered, .alarmRaised .coilBankOff 0 .entered, .pointFault 3 .coilFault,
        .alarmRaised .pointFault 3 .entered] := by decide +kernel

theorem meets_MemberTimersRetryOrFail_fault :
    let s := inMode .sea (driving (member 2 .driving 2))
    s.Ready ∧ s.faultOf 2 = none ∧ (tget s.pmn.points 2).isSome = true ∧ (s.reservedBy 2).isSome = true ∧ s.cev.started = true ∧
      s.cev.conds.length = 32 := by
  unfold State.Ready
  decide +kernel

/-- R13, R82, R162: a travel timeout at sea is an event, and an alarm (behind the same two closure losses). -/
theorem test_member_timeout_at_sea :
    let s := inMode .sea (driving (member 2 .driving 2))
    (((after (.memberTravelTimeout 0 2) s).aeu.events.drop (s.aeu.events.length + 2)).take 2).map (fun r => r.event) =
      [.pointFault 2 .travelTimeout, .alarmRaised .pointFault 2 .entered] := by decide +kernel

theorem meets_MoveTimersSuperviseTheMove_fault :
    let s := inMode .sea (moving .driving 364)
    s.Ready ∧ s.faultOf 0 = none ∧ (tget s.pmn.points 0).isSome = true ∧ (s.reservedBy 0).isSome = true ∧ s.cev.started = true ∧
      s.cev.conds.length = 32 := by
  unfold State.Ready
  decide +kernel

theorem meets_SilentLinkLosesAuthority_event :
    base.Ready ∧ (base.link .bridge).silence ≠ none ∧ base.amu.holder = holderOf .bridge ∧ base.aeu.EventsOk := by
  unfold State.Ready Aeu.EventsOk
  decide +kernel

/-- R178, R179: the silence of the holder's link records AUTHORITY_CHANGED once, then the alarm. -/
theorem test_silence_records_authority :
    ((after (.silenceTimerExpiry .bridge) base).aeu.events.drop base.aeu.events.length).map (fun r => r.event) =
      [.authorityChanged .none .bridge, .alarmRaised .bridgeLinkLost 0 .entered] := by decide +kernel

end Sys2Proof.Tests
end

section
namespace Sys2Proof.Machine

/-! ### Records that an edit buffer takes (R185) -/

theorem layout_axis?_of_tget {l : Layout} {i : Nat} {d : AxisDef} {ws : List Window} (h : tget l.points i = some (.axis d ws)) :
    l.axis? i = some d := by
  simp [Layout.axis?, h]

theorem layout_windows_of_tget {l : Layout} {i : Nat} {d : AxisDef} {ws : List Window} (h : tget l.points i = some (.axis d ws)) :
    l.windows i = ws := by
  simp [Layout.windows, h]

section Put
variable {s : State} {st : Station} {run : Bool} {b : EditBuffer} {admits : EditBuffer → Bool} {store : EditBuffer → Result × EditBuffer}

/-- Outside a BUSY period a PUT record that is refused changes nothing but hold-to-run and its reply (R180, R185). -/
theorem serve_put_refused (hr : s.Ready) (hb : s.busyPeriod = false) (k : Nat) {r : Result}
    (h : putWith admits store st (s.takeRun st run) = (s.takeRun st run).refuse r) :
    s.serve st run k .setup (putWith admits store st) = s.answered st run k r := by
  rw [serve_setup hr.1 hb, h]
  have ht : (s.takeRun st run).todo = [] := by simpa using hr.2
  simp [State.refuse, State.answered, finish_of_todo_nil ht]

theorem putWith_no_buffer (h : s.lst.buffer = none) : putWith admits store st s = s.refuse .refusedState := by
  simp [putWith, h]

theorem putWith_other_owner (h : s.lst.buffer = some b) (ho : b.owner ≠ st) : putWith admits store st s = s.refuse .refusedAuthority := by
  simp [putWith, h, ho]

theorem putWith_not_admitted (h : s.lst.buffer = some b) (ho : b.owner = st) (hg : b.region = .tuning) (ha : admits b = false) :
    putWith admits store st s = s.refuse .refusedState := by
  simp [putWith, h, ho, hg, ha]

/-- What the store takes of the owner's record stands in the buffer (R185). -/
theorem putWith_stored (h : s.lst.buffer = some b) (ho : b.owner = st) (ha : b.region = .tuning → admits b = true) {c : EditBuffer}
    (hs : store b = (.ok, c)) : putWith admits store st s = State.accept { s with lst := { s.lst with buffer := some c } } := by
  cases hg : b.region <;> simp [putWith, h, ho, hg, ha, hs]

/-- What the store refuses leaves the buffer (R185). -/
theorem putWith_unstored (h : s.lst.buffer = some b) (ho : b.owner = st) (ha : b.region = .tuning → admits b = true) {r : Result}
    {c : EditBuffer} (hs : store b = (r, c)) (hne : r ≠ .ok) : putWith admits store st s = s.refuse r := by
  cases hg : b.region <;> simp [putWith, h, ho, hg, ha, hs]

theorem serve_put_no_buffer (hr : s.Ready) (hb : s.busyPeriod = false) (k : Nat) (h : s.lst.buffer = none) :
    s.serve st run k .setup (putWith admits store st) = s.answered st run k .refusedState :=
  serve_put_refused hr hb k (putWith_no_buffer (by simpa using h))

theorem serve_put_other_owner (hr : s.Ready) (hb : s.busyPeriod = false) (k : Nat) (h : s.lst.buffer = some b) (ho : b.owner ≠ st) :
    s.serve st run k .setup (putWith admits store st) = s.answered st run k .refusedAuthority :=
  serve_put_refused hr hb k (putWith_other_owner (by simpa using h) ho)

theorem serve_put_not_admitted (hr : s.Ready) (hb : s.busyPeriod = false) (k : Nat) (h : s.lst.buffer = some b) (ho : b.owner = st)
    (hg : b.region = .tuning) (ha : admits b = false) :
    s.serve st run k .setup (putWith admits store st) = s.answered st run k .refusedState :=
  serve_put_refused hr hb k (putWith_not_admitted (by simpa using h) ho hg ha)

/-- What the owner's record stores stands in the buffer, and the reply is OK. -/
theorem serve_put_stored (hr : s.Ready) (hb : s.busyPeriod = false) (k : Nat) (h : s.lst.buffer = some b) (ho : b.owner = st)
    (ha : b.region = .tuning → admits b = true) {c : EditBuffer} (hs : store b = (.ok, c)) :
    s.serve st run k .setup (putWith admits store st) =
      { s.takeRun st run with lst := { s.lst with buffer := some c } }.setReply st (BitVec.ofNat 8 (k + 128)) .ok [] := by
  have ht : ({ s.takeRun st run with lst := { s.lst with buffer := some c } } : State).todo = [] := by simpa using hr.2
  rw [serve_setup hr.1 hb, putWith_stored (by simpa using h) ho ha hs]
  simp only [State.accept, takeRun_lst]
  rw [finish_of_todo_nil ht]

/-- A record that the store refuses leaves the buffer. -/
theorem serve_put_unstored (hr : s.Ready) (hb : s.busyPeriod = false) (k : Nat) (h : s.lst.buffer = some b) (ho : b.owner = st)
    (ha : b.region = .tuning → admits b = true) {r : Result} {c : EditBuffer} (hs : store b = (r, c)) (hne : r ≠ .ok) :
    s.serve st run k .setup (putWith admits store st) = s.answered st run k r :=
  serve_put_refused hr hb k (putWith_unstored (by simpa using h) ho ha hs hne)

end Put

/-! ### What PUT_WINDOW, LIST_BEGIN and PUT_STEP store (R7, R110, R185) -/

section Windows
variable {b : EditBuffer} {i position : Nat} {d : AxisDef} {ws : List Window}

theorem storeWindow_ok {r : Given Window} {xs : List Window} (h : tget b.content.points i = some (.axis d ws)) (hf : r.fits windowInRange = true)
    (hp : putInWindows ws position r.record = some xs) : storeWindow i position r b =
      (.ok, { b with content := { b.content with points := tput b.content.points i (.axis d xs) } }) := by
  simp [storeWindow, layout_axis?_of_tget h, layout_windows_of_tget h, hf, hp]

theorem storeWindow_bad {r : Given Window} (h : tget b.content.points i = some (.axis d ws))
    (hp : r.fits windowInRange = false ∨ putInWindows ws position r.record = none) : storeWindow i position r b = (.badValue, b) := by
  rcases hp with hp | hp <;> simp [storeWindow, layout_axis?_of_tget h, layout_windows_of_tget h, hp]

theorem storeWindow_no_axis (h : b.content.axis? i = none) (r : Given Window) : storeWindow i position r b = (.badValue, b) := by
  simp [storeWindow, h]

theorem putInWindows_append {w : Window} (h : position ≤ 3) (hl : position = ws.length) : putInWindows ws position (some w) = some (ws ++ [w]) := by
  simp [putInWindows, ← hl, Nat.not_lt.2 h]

theorem putInWindows_replace {w : Window} (h : position ≤ 3) (hl : position < ws.length) :
    putInWindows ws position (some w) = some (ws.set position w) := by
  simp [putInWindows, hl, Nat.not_lt.2 h]

theorem putInWindows_remove (h : position ≤ 3) (hl : position < ws.length) : putInWindows ws position none = some (ws.eraseIdx position) := by
  simp [putInWindows, hl, Nat.not_lt.2 h]

/-- No window stands or can be appended beyond the length or beyond position 3, and none can be removed at the length. -/
theorem putInWindows_none {r : Option Window} (h : 3 < position ∨ ws.length < position ∨ (r = none ∧ ws.length = position)) :
    putInWindows ws position r = none := by
  rcases h with h | h | ⟨rfl, h⟩
  · simp [putInWindows, h]
  · cases r <;> simp [putInWindows, Nat.not_lt_of_gt h, Nat.ne_of_gt h]
  · simp [putInWindows, h]

end Windows

theorem storeList_bad {i : Nat} {present : Option Bool} (b : EditBuffer) (h : 32 ≤ i ∨ present = none) :
    storeList i present b = (.badValue, b) := by
  rcases h with h | rfl
  · have : inRange 0 31 i = false := by simp [inRange]; omega
    cases present <;> simp [storeList, this]
  · rfl

theorem storeList_ok {i : Nat} (h : i < 32) (p : Bool) (b : EditBuffer) :
    storeList i (some p) b = (.ok, { b with
      content := { b.content with lists := tset b.content.lists i (if p then some [] else none) }
      cursor := if p then some (i, 0) else none }) := by
  have : inRange 0 31 i = true := by simp [inRange]; omega
  simp [storeList, this]

theorem storeStep_no_cursor {x : Option Step} {b : EditBuffer} (h : b.cursor = none) : storeStep x b = (.refusedState, b) := by
  simp [storeStep, h]

theorem storeStep_full {x : Option Step} {b : EditBuffer} {i n : Nat} (h : b.cursor = some (i, n)) (hn : 32 ≤ n) : storeStep x b = (.full, b) := by
  simp [storeStep, h, Config.listMax, hn]

theorem storeStep_bad {x : Option Step} {b : EditBuffer} {i n : Nat} (h : b.cursor = some (i, n)) (hn : n < 32)
    (hx : x.all stepInRange = false ∨ x = none) : storeStep x b = (.badValue, b) := by
  cases x with
  | none => simp [storeStep, h, Config.listMax, Nat.not_le.2 hn]
  | some y =>
    have : stepInRange y = false := by simpa using hx
    simp [storeStep, h, Config.listMax, Nat.not_le.2 hn, this]

theorem storeStep_ok {y : Step} {b : EditBuffer} {i n : Nat} (h : b.cursor = some (i, n)) (hn : n < 32) (hy : stepInRange y = true) :
    storeStep (some y) b = (.ok, { b with
      content := { b.content with lists := tput b.content.lists i ((tget b.content.lists i).getD [] ++ [y]) }
      cursor := some (i, n + 1) }) := by
  simp [storeStep, h, Config.listMax, Nat.not_le.2 hn, hy]

/-- Settles O53. -/
theorem windowsAndStepsAreWrittenInPieces : Obligations.WindowsAndStepsAreWrittenInPieces := by
  refine ⟨?_, ?_⟩
  · rintro c st run k s hr hb (⟨i, position, r, rfl, rfl⟩ | ⟨i, present, rfl, rfl⟩ | ⟨x, rfl, rfl⟩)
    all_goals
      exact ⟨fun h => congrArg _ (serve_put_no_buffer hr hb _ h), fun b h ho => congrArg _ (serve_put_other_owner hr hb _ h ho)⟩
  · intro st run s b hr hb h ho stores points
    have refused {k : Nat} {admits : EditBuffer → Bool} {store : EditBuffer → Result × EditBuffer} {r : Result} (ha : b.region = .tuning → admits b = true)
        (hs : store b = (r, b)) (hne : r ≠ .ok) :
        (.next (s.serve st run k .setup (putWith admits store st)) : Host.Outcome State Fault Refusal) = .next (s.answered st run k r) :=
      congrArg _ (serve_put_unstored hr hb k h ho ha hs hne)
    refine ⟨fun i d ws position hi => ⟨fun w hw hp => ⟨fun hl => ?_, fun hl => ?_⟩, fun hp hl => ?_, fun r hbad => ?_⟩, fun i position r hi => ?_,
      fun hg => ⟨fun i present => ?_, fun x => ?_⟩, fun hg => ⟨fun i present => ⟨fun hbad => ?_, fun hi p hp => ?_⟩, fun x hc => ?_,
        fun x i n hc => ⟨fun hn => ?_, fun hn => ⟨fun hbad => ?_, fun y hy hok => ?_⟩⟩⟩⟩
    · exact congrArg _ (serve_put_stored hr hb _ h ho (fun _ => rfl) (storeWindow_ok (r := .present w) hi hw (putInWindows_append hp hl)))
    · exact congrArg _ (serve_put_stored hr hb _ h ho (fun _ => rfl) (storeWindow_ok (r := .present w) hi hw (putInWindows_replace hp hl)))
    · exact congrArg _ (serve_put_stored hr hb _ h ho (fun _ => rfl) (storeWindow_ok hi rfl (putInWindows_remove hp hl)))
    · exact refused (fun _ => rfl) (storeWindow_bad hi (hbad.imp_right fun hw => putInWindows_none (hw.imp_right (Or.imp_right
        fun hr => ⟨by rw [hr.1]; rfl, hr.2⟩)))) (by decide)
    · exact refused (fun _ => rfl) (storeWindow_no_axis hi r) (by decide)
    · exact congrArg _ (serve_put_not_admitted hr hb _ h ho hg rfl)
    · exact congrArg _ (serve_put_not_admitted hr hb _ h ho hg rfl)
    all_goals have ha : b.region = .tuning → false = true := fun ht => by simp [hg] at ht
    · exact refused ha (storeList_bad b hbad) (by decide)
    · subst hp
      exact congrArg _ (serve_put_stored hr hb _ h ho ha (storeList_ok hi p b))
    · exact refused ha (storeStep_no_cursor hc) (by decide)
    · exact refused ha (storeStep_full hc hn) (by decide)
    · exact refused ha (storeStep_bad hc hn hbad) (by decide)
    · subst hy
      exact congrArg _ (serve_put_stored hr hb _ h ho ha (storeStep_ok hc hn hok))

end Sys2Proof.Machine
end

section
namespace Sys2Proof.Machine

/-! ### Records that report (R181, R16, R52, R125, R70, R166) -/

section Reports
variable (st : Station) (run : Bool)

/-- Hold-to-run is the one thing that taking a record can change (R180). -/
theorem takeRun_amu_only (s : State) : ∃ a : Amu, s.takeRun st run = { s with amu := a } := by
  unfold State.takeRun
  split
  · exact ⟨_, rfl⟩
  · exact ⟨s.amu, rfl⟩

/-- A record that is served always and changes nothing of its own is answered with its result and its fields (R175). -/
theorem serve_unchanged {s : State} (hr : s.Ready) (k : Nat) {rule : State → Answer} {r : Result} {f : List Byte}
    (h : rule (s.takeRun st run) = (s.takeRun st run, r, f)) : s.serve st run k .always rule = s.answered st run k r f := by
  have ht : (s.takeRun st run).todo = [] := by simpa using hr.2
  rw [serve_always hr.1, h]
  simp only [State.answered]
  rw [finish_of_todo_nil ht]

theorem unack_eq_not_acked (x : AlarmState) : x.unack = (x != .ackActive) := by cases x <;> rfl

theorem append_three {α : Type} (x a b c : List α) : x ++ a ++ b ++ c = x ++ (a ++ b ++ c) := by simp

/-- STATUS (R181); `c` is what it says of the operation context. -/
theorem statusFields_takeRun {s : State} {c : List Byte} (hn : s.osq.context = none → c = b1 0 ++ bOpt b1 none ++ b2 0)
    (hs : ∀ x, s.osq.context = some x → c = b1 (opStateCode x.state) ++ bOpt b1 (some x.op) ++ b2 x.causes.length) : (s.takeRun st run).statusFields st =
    b1 (partPhaseCode s.lst.phase) ++ b4 s.lst.tag ++ b1 (commitCode s.lst.commit) ++
      bOpt (fun b : EditBuffer => b1 (regionCode b.region) ++ b1 (stationCode b.owner)) s.lst.buffer ++
      b1 (Mode.code s.amu.mode) ++ b1 (holderCode s.amu.holder) ++ bFlag s.amu.consent ++ bFlag (s.takeRun st run).amu.runTimer.isSome ++
      b1 (estopCode s.ost.estop) ++ bFlag s.ost.latch ++
      (b1 (closedCode s.cev.closure.visor) ++ b1 (closedCode s.cev.closure.inner) ++ b1 (closedCode s.cev.closure.overall)) ++
      c ++
      bFlag s.jogActive ++ b2 s.aeu.alarms.length ++ bFlag (s.aeu.alarms.any (fun x => x.state != .ackActive)) ++ bFlag s.aeu.overflow ++
      b4 s.aeu.nextSerial ++ b4 (s.link st).cursor ++ bFlag (!s.sli.bridge.active) ++ bFlag (!s.sli.stand.active) ++ b4 s.aeu.stamp := by
  have hb : (s.link .bridge).active = s.sli.bridge.active := rfl
  have hd : (s.link .stand).active = s.sli.stand.active := rfl
  unfold State.statusFields
  rw [← append_three _ (b1 (closedCode s.cev.closure.visor))]
  rcases hx : s.osq.context with _ | x
  case' none => have hc := hn hx
  case' some => have hc := hs x hx
  all_goals
    simp only [takeRun_lst, takeRun_mode, takeRun_holder, takeRun_consent, takeRun_ost, takeRun_cev, takeRun_osq, takeRun_jogActive, takeRun_aeu,
      takeRun_link, unack_eq_not_acked, State.runAsserted, hx, hb, hd, hc]

theorem condClass_takeRun (s : State) (i : Nat) :
    (s.takeRun st run).condClass i = if i < 8 then 0 else if (tget s.layout.conditions i).isSome then 1 else 2 := by
  simp [State.condClass]

theorem cond_takeRun (s : State) (i : Nat) : (s.takeRun st run).cond i = s.cond i := by simp [State.cond]

theorem vesselFields_eq (v : Option Vessel) :
    vesselFields v = bOpt bInt (v.map (fun v => v.heel)) ++ bOpt bInt (v.map (fun v => v.pitch)) ++ bOpt b2 (v.map (fun v => v.wind)) := by
  cases v <;> rfl

theorem conditionFields_takeRun (s : State) : (s.takeRun st run).conditionFields =
    (List.range 32).flatMap (fun i =>
        b1 (triCode (s.cond i)) ++ b1 (if i < 8 then 0 else if (tget s.layout.conditions i).isSome then 1 else 2)) ++
      bOpt bInt (s.cev.vessel.map (fun v => v.heel)) ++ bOpt bInt (s.cev.vessel.map (fun v => v.pitch)) ++
      bOpt b2 (s.cev.vessel.map (fun v => v.wind)) ++ b1 (freshnessCode s.cev.freshness) ++ bOpt b2 s.cev.staleness ++
      bFlag s.amu.consent ++
      (b1 (closedCode s.cev.closure.visor) ++ b1 (closedCode s.cev.closure.inner) ++ b1 (closedCode s.cev.closure.overall)) := by
  simp only [State.conditionFields, vesselFields_eq, condClass_takeRun, cond_takeRun, takeRun_cev, takeRun_consent, List.append_assoc]

end Reports

/-- The items that fit are a first part of the list, and the next one would pass the room (12.5). -/
theorem fitting_map {α : Type} (f : α → List Byte) (room : Nat) (xs : List α) :
    ∃ shown left, shown ++ left = xs ∧ fitting room (xs.map f) = shown.map f ∧ (shown.flatMap f).length ≤ room ∧
      ∀ x rest, left = x :: rest → room < (shown.flatMap f).length + (f x).length := by
  induction xs generalizing room with
  | nil => exact ⟨[], [], rfl, rfl, by simp, by simp⟩
  | cons x xs ih =>
    by_cases h : (f x).length ≤ room
    · obtain ⟨shown, left, hs, hf, hl, hn⟩ := ih (room - (f x).length)
      refine ⟨x :: shown, left, by simp [hs], by simp [fitting, h, hf], ?_, fun y rest hy => ?_⟩
      · simp only [List.flatMap_cons, List.length_append]; omega
      · have := hn y rest hy
        simp only [List.flatMap_cons, List.length_append]; omega
    · refine ⟨[], x :: xs, rfl, by simp [fitting, h], by simp, ?_⟩
      rintro y rest ⟨⟩
      simpa using h

theorem entryFields_length_pos (s : State) (n : Entry) : 0 < (s.entryFields n).length := by
  simp only [State.entryFields, putRef, b1, List.length_append, List.length_cons]
  omega

theorem putJog_eq (j : Jog) : putJog j =
    b1 j.point ++
      (match j.dir with
        | .lock d => b1 0 ++ b1 (lockDirCode d)
        | .axis d => b1 1 ++ b1 (axisDirCode d)) ++
      b1 (stationCode j.station) ++ b1 (phaseCode j.phase) ++ b2 j.duration ++ bOpt b2 j.timer ++ bOpt b2 j.granted ++
      bOpt (fun c => b1 (jogEndCode c)) j.cause := by
  unfold putJog putJogDir
  cases j.dir <;> rfl

theorem putCause_eq (c : HoldCause) : putCause c =
    b1 (causeKindCode c.kind) ++ match c.subject with
      | .station a => b1 (stationCode a)
      | .condition a => b1 a
      | .step r => b1 r.list ++ b1 r.index
      | .holder h => b1 (holderCode h)
      | .nothing => []
      | .point i => b1 i := by
  unfold putCause putCauseSubject
  cases c.subject <;> rfl

/-- The wait of the step at the pointer, with the tests of R116 as propositions. -/
theorem waitsOn_eq (s : State) (x : Context) : s.waitsOn x =
    match ((tget s.layout.lists x.pointer.list).getD [])[x.pointer.index]? with
    | none => 3
    | some z =>
      if x.state = .complete ∨ x.state = .aborted then 3
      else if z.join = .afterAll ∧ x.inFlight.length ≠ 0 then 0
      else if s.satisfied z.kind = true then 3
      else if z.kind.needsRoom = true ∧ 6 ≤ x.inFlight.length then 1
      else if ∃ p ∈ s.pointsWanted z.kind, (s.reservedBy p).isSome = true then 2
      else 3 := by
  unfold State.waitsOn
  cases ((tget s.layout.lists x.pointer.list).getD [])[x.pointer.index]? with
  | none => rfl
  | some z => simp [Config.inFlightMax, List.length_eq_zero_iff]

/-- READ_OPERATION of a context: the entries that the body has room for, and the count of the others (R125, 12.5). -/
theorem operationFields_some (s : State) {x : Context} (hx : s.osq.context = some x) :
    let head := b1 x.op ++ bList (fun c => [c]) x.name ++ b1 (stationCode x.origin) ++ b1 (opStateCode x.state) ++ bOpt b1 x.reversed ++
      b4 x.start ++ bList putRef x.stack ++ putRef x.pointer ++ b1 (s.waitsOn x) ++ bList putCause x.causes
    let tail := b1 s.osq.nextMotion ++ bOpt putJog s.osq.jog
    ∃ shown left : List Entry, shown ++ left = x.inFlight ∧
      s.operationFields = head ++ bList s.entryFields shown ++ b2 left.length ++ tail ∧
      (let room := 1 + head.length + 1 + 2 + tail.length + (shown.flatMap s.entryFields).length
       (shown ≠ [] → room ≤ 240) ∧ ∀ n rest, left = n :: rest → 240 < room + (s.entryFields n).length) := by
  intro head tail
  obtain ⟨shown, left, hs, hf, hl, hn⟩ := fitting_map s.entryFields (Config.bodyMax - (1 + head.length + 1 + 2 + tail.length)) x.inFlight
  refine ⟨shown, left, hs, ?_, fun hne => ?_, fun n rest h => ?_⟩
  · have hc : x.inFlight.length - shown.length = left.length := by simp [← hs]
    simp only [State.operationFields, hx]
    rw [hf]
    simp only [List.length_map, hc, bList, List.flatMap_def, List.append_assoc, head, tail]
  · obtain ⟨n, rest, rfl⟩ := List.exists_cons_of_ne_nil hne
    have := entryFields_length_pos s n
    simp only [List.flatMap_cons, List.length_append, Config.bodyMax] at hl ⊢
    omega
  · have := hn n rest h
    simp only [Config.bodyMax] at this ⊢
    omega

/-- READ_PUMPS (R70), with the three sums of R63 written out. -/
theorem pumpFields_eq (s : State) : s.pumpFields =
    [0, 1, 2].flatMap (fun i => bOpt putPumpDyn (tget s.hpa.pumps i)) ++
      b2 ((s.hpa.pumps.filter (fun e => e.2.state == .running)).map (fun e => e.2.capacity)).sum ++
      b2 (s.hpa.grants.map (fun g => g.flow)).sum ++ b2 s.travelPromotion ++ bOpt b2 s.hpa.idle ++
      bList putRequest s.hpa.requests ++ bList putGrant s.hpa.grants := rfl

theorem operationFields_takeRun (st : Station) (run : Bool) (s : State) : (s.takeRun st run).operationFields = s.operationFields := by
  obtain ⟨a, ha⟩ := takeRun_amu_only st run s
  rw [ha]; rfl

theorem pointFields_takeRun (st : Station) (run : Bool) (s : State) : (s.takeRun st run).pointFields = s.pointFields := by
  obtain ⟨a, ha⟩ := takeRun_amu_only st run s
  rw [ha]; rfl

theorem pumpFields_takeRun (st : Station) (run : Bool) (s : State) : (s.takeRun st run).pumpFields = s.pumpFields := by
  obtain ⟨a, ha⟩ := takeRun_amu_only st run s
  rw [ha]; rfl

theorem alarmFields_takeRun (st : Station) (run : Bool) (n : Nat) (s : State) : (s.takeRun st run).alarmFields n = s.alarmFields n := by
  obtain ⟨a, ha⟩ := takeRun_amu_only st run s
  rw [ha]; rfl

/-- Hold-to-run and the free-value counter are apart. -/
theorem takeRun_free_comm (st : Station) (run : Bool) (n : Nat) (s : State) :
    ({ s with free := n } : State).takeRun st run = { s.takeRun st run with free := n } := by
  unfold State.takeRun State.holds
  split <;> rfl

theorem ruleReadPoint_some {i : Nat} {s : State} {f : List Byte} (h : s.pointFields i = some f) : ruleReadPoint i s = (s, .ok, f) := by
  simp [ruleReadPoint, h]

/-- Settles O55. -/
theorem readRecordsReport : Obligations.ReadRecordsReport := by
  intro st run s hr
  have report {k : Nat} {rule : State → Answer} {f : List Byte} (h : rule (s.takeRun st run) = (s.takeRun st run, .ok, f)) :
      (.next (s.serve st run k .always rule) : Host.Outcome State Fault Refusal) = .next (s.answered st run k .ok f) :=
    congrArg _ (serve_unchanged st run hr k h)
  have point {i : Nat} {f : List Byte} (h : s.pointFields i = some f) : exec (.readPoint st run i) s = .next (s.answered st run 0x20 .ok f) :=
    report (ruleReadPoint_some (by rw [pointFields_takeRun, h]))
  refine ⟨?_, ?_, ?_, fun i hi => ?_, fun i d y hi hy => ?_, fun i d ws y hi hy => ?_, fun n => ?_, ⟨fun t ht => ?_, fun ht => ?_⟩⟩
  · refine report ?_
    rw [statusFields_takeRun st run]
    · intro hx; rw [hx]
    · intro x hx; rw [hx]
  · exact report (by rw [conditionFields_takeRun])
  · intro jog tail
    have hjog : jog = putJog := funext fun j => (putJog_eq j).symm
    have htail : tail = b1 s.osq.nextMotion ++ bOpt putJog s.osq.jog := by rw [← hjog]
    have reported {f : List Byte} (h : s.operationFields = f) : exec (.readOperation st run) s = .next (s.answered st run 0x22 .ok f) :=
      report (by rw [operationFields_takeRun, h])
    refine ⟨fun hx => reported ?_, fun x hx => ?_⟩
    · rw [htail, State.operationFields, hx]
    · intro member record entry waits cause head
      have hrecord : record = s.motionFields := by
        funext m
        simp only [record, State.motionFields]
        cases s.ldu? m <;> cases s.adu? m <;> rfl
      have hentry : entry = s.entryFields := by
        funext n
        simp only [entry, hrecord]
        rfl
      have hcause : cause = putCause := funext fun c => (putCause_eq c).symm
      have hwaits : waits = s.waitsOn x := (waitsOn_eq s x).symm
      obtain ⟨shown, left, hs, hf, hroom⟩ := operationFields_some s hx
      have hhead : head = b1 x.op ++ bList (fun c => [c]) x.name ++ b1 (stationCode x.origin) ++ b1 (opStateCode x.state) ++ bOpt b1 x.reversed ++
          b4 x.start ++ bList putRef x.stack ++ putRef x.pointer ++ b1 (s.waitsOn x) ++ bList putCause x.causes := by
        rw [← hcause, ← hwaits]
        rfl
      rw [hhead, hentry, htail]
      exact ⟨shown, left, hs, reported hf, hroom⟩
  · exact congrArg _ (serve_unchanged st run hr _ (by simp [ruleReadPoint, State.pointFields, hi, State.refuse]))
  · exact point (by simp only [State.pointFields, hi, hy]; rfl)
  · exact point (by simp only [State.pointFields, hi, hy]; rfl)
  · exact report (by rw [alarmFields_takeRun]; rfl)
  · refine report ?_
    rw [ruleReadPumps, pumpFields_takeRun, pumpFields_eq]
    simp only [takeRun_layout, ht, State.travelPromotion]
    rfl
  · have hrule : ruleReadPumps (s.takeRun st run) = ({ s with free := s.free + 1 }.takeRun st run, .ok, s.pumpFields) := by
      simp only [ruleReadPumps, takeRun_layout, ht, pumpFields_takeRun, takeRun_free_comm, takeRun_free, Option.isNone_none, if_true]
    have htodo : ({ s with free := s.free + 1 }.takeRun st run).todo = [] := by simpa using hr.2
    refine congrArg _ ((serve_always hr.1 st run _ _).trans ?_)
    rw [hrule, finish_of_todo_nil htodo, pumpFields_eq, State.travelPromotion, ht]
    rfl

end Sys2Proof.Machine
end

section
namespace Sys2Proof.Machine

/-! ### The records of an act of AEU (R168) -/

/-- Recording is the appending of one dated record to the list that keeps the newest 128. -/
theorem Aeu.record_events (e : Event) (a : Aeu) :
    (a.record e).events = newestRecords (a.events ++ [{ serial := a.nextSerial, stamp := a.stamp, event := e }]) := by
  have h : a.events.length + 1 - Config.eventMax ≤ a.events.length := by simp only [Config.eventMax]; omega
  simp only [Aeu.record, newestRecords, List.length_append, List.length_singleton]
  rw [List.drop_append_of_le_length h]

/-- What is dropped once need not be kept for the next dropping. -/
theorem newestRecords_append (xs ys : List EventRec) : newestRecords (newestRecords xs ++ ys) = newestRecords (xs ++ ys) := by
  have h : xs.length - Config.eventMax ≤ xs.length := Nat.sub_le _ _
  have hd : xs.length - Config.eventMax + (xs.length - (xs.length - Config.eventMax) + ys.length - Config.eventMax) =
      xs.length + ys.length - Config.eventMax := by omega
  simp only [newestRecords, List.length_append, List.length_drop]
  rw [← List.drop_append_of_le_length h, List.drop_drop, hd]

/-! ### The blocks after a reset (R17, R18, R20, R142, R171, R188) -/

theorem tget_foldl_tput {α : Type} (a : α) (xs : List Nat) (t : Table α) (k : Nat) :
    tget (xs.foldl (fun t i => tput t i a) t) k = if k ∈ xs then some a else tget t k := by
  induction xs generalizing t with
  | nil => simp
  | cons x xs ih =>
    rw [List.foldl_cons, ih, tget_tput]
    by_cases h : k ∈ xs
    · simp [h]
    · simp [h, eq_comm]

theorem tget_fieldInputs (l : Layout) (k : Nat) : tget (fieldInputs l) k =
    if k ∈ headerInputs l then some .general else if k ∈ l.points.flatMap (fun e => sensorsOf e.2) then some .sensor else none := by
  rw [fieldInputs, tget_foldl_tput, tget_foldl_tput]
  simp

theorem tget_analogInputs (l : Layout) (k : Nat) :
    tget (analogInputs l) k = if k ∈ l.points.flatMap (fun e => analogsOf e.2) then some () else none := by
  rw [analogInputs, tget_foldl_tput]
  simp

theorem mem_headerInputs (l : Layout) (k : Nat) : k ∈ headerInputs l ↔ ∃ h, l.header = some h ∧ (h.deckClear = some k ∨ h.linkspan = some k) := by
  unfold headerInputs
  cases l.header <;> simp

/-- The inputs that ISC takes from a layout at a reset (R18, R20, R21, R24, R38). -/
theorem freshFor_take (l : Layout) (scan : Bool) : (Isc.take l scan {}).FreshFor l := by
  have field (k : Nat) : tget (Isc.take l scan {}).field k =
      (tget (fieldInputs l) k).map (fun c => { cls := c, debounced := false, count := 0, rescan := true }) := by
    simp [Isc.take]
  have analog (k : Nat) : tget (Isc.take l scan {}).analog k =
      (tget (analogInputs l) k).map (fun _ => { samples := [], filtered := none, health := none, recovery := none }) := by
    simp [Isc.take]
  have header {k : Nat} (h : ∀ h, l.header = some h → h.deckClear ≠ some k ∧ h.linkspan ≠ some k) : k ∉ headerInputs l := by
    rw [mem_headerInputs]
    rintro ⟨x, hx, hk⟩
    exact hk.elim (h x hx).1 (h x hx).2
  refine ⟨fun k hk hh => ?_, fun k hk => ?_, fun k hk hh => ?_, fun k => ?_, fun k hk => ?_, fun k hk => ?_⟩
  · rw [field, tget_fieldInputs, if_neg (header hh), if_pos (List.mem_flatMap.2 hk)]
    rfl
  · rw [field, tget_fieldInputs, if_pos ((mem_headerInputs l k).2 hk)]
    rfl
  · rw [field, tget_fieldInputs, if_neg (header hh), if_neg (by simpa using hk)]
    rfl
  · simp [Isc.take]
  · rw [analog, tget_analogInputs, if_pos (List.mem_flatMap.2 hk)]
    rfl
  · rw [analog, tget_analogInputs, if_neg (by simpa using hk)]
    rfl

/-- No channel has been reported right after a reset. -/
theorem channelOk_take (s : State) (l : Layout) (scan : Bool) (h : s.isc = Isc.take l scan {}) (k : Nat) : s.channelOk k = false := by
  have : s.channel k = (tget (analogInputs l) k).map (fun _ => {}) := by simp [State.channel, h, Isc.take]
  rw [State.channelOk, this]
  cases tget (analogInputs l) k <;> rfl

/-- PMN's record of a point right after a reset (R17). -/
theorem freshPoint_after_reset (s : State) (l : Layout) (scan : Bool) (h : s.isc = Isc.take l scan {}) (hf : s.adu.floats = []) (i : Nat) (d : PointDef) :
    s.freshPoint i d = freshAfterReset d := by
  have hfl : s.floats i = false := by simp [State.floats, hf]
  cases d with
  | lock => rfl
  | axis d ws =>
    simp only [State.freshPoint, freshAfterReset, channelOk_take s l scan h, hfl]
    cases d.transB <;> rfl

/-- The first point of a table that names an output is what OST takes as its owner. -/
theorem owner_some {α : Type} {t : Table α} {use : α → List Nat} {i p : Nat}
    (h : (t.find? (fun e => (use e.2).contains i)).map (fun e => e.1) = some p) : ∃ d, (p, d) ∈ t ∧ i ∈ use d := by
  obtain ⟨e, he, rfl⟩ := Option.map_eq_some_iff.1 h
  exact ⟨e.2, List.mem_of_find?_eq_some he, by simpa using List.find?_some he⟩

theorem owner_none {α : Type} {t : Table α} {use : α → List Nat} {i : Nat}
    (h : (t.find? (fun e => (use e.2).contains i)).map (fun e => e.1) = none) : ∀ e ∈ t, i ∉ use e.2 := by
  intro e he
  have := List.find?_eq_none.1 (Option.map_eq_none_iff.1 h) e he
  simpa using this

section Owners
variable (l : Layout)

theorem length_coils_takeOwners (o : Ost) : (Ost.takeOwners l o).coils.length = o.coils.length := by simp [Ost.takeOwners]
theorem length_props_takeOwners (o : Ost) : (Ost.takeOwners l o).props.length = o.props.length := by simp [Ost.takeOwners]

/-- The coils after a reset: off, each with the owner that the layout gives it (R142, R153). -/
theorem coil_takeOwners {i : Nat} {c : Coil} (h : (Ost.takeOwners l {}).coils[i]? = some c) :
    c.owner = (l.points.find? (fun e => (coilsOf e.2).contains i)).map (fun e => e.1) ∧ c.state = .off ∧ c.demand = false := by
  simp only [Ost.takeOwners, List.getElem?_mapIdx, Option.map_eq_some_iff, List.getElem?_replicate, Option.ite_none_right_eq_some,
    Option.some.injEq] at h
  obtain ⟨a, ⟨-, rfl⟩, rfl⟩ := h
  split
  · rename_i ho
    exact ⟨eq_of_beq ho, rfl, rfl⟩
  · exact ⟨rfl, rfl, rfl⟩

/-- The proportional outputs after a reset: ACTIVE at 0, each with the owner that the layout gives it (R148, R153). -/
theorem prop_takeOwners {i : Nat} {q : PropOut} (h : (Ost.takeOwners l {}).props[i]? = some q) :
    q.owner = (l.points.find? (fun e => (propsOf e.2).contains i)).map (fun e => e.1) ∧ q.state = .active ∧ q.command = 0 := by
  simp only [Ost.takeOwners, List.getElem?_mapIdx, Option.map_eq_some_iff, List.getElem?_replicate, Option.ite_none_right_eq_some,
    Option.some.injEq] at h
  obtain ⟨a, ⟨-, rfl⟩, rfl⟩ := h
  split
  · rename_i ho
    exact ⟨eq_of_beq ho, rfl, rfl⟩
  · exact ⟨rfl, rfl, rfl⟩

theorem ownersFrom_takeOwners : (Ost.takeOwners l {}).OwnersFrom l where
  coil _ _ _ h ho := owner_some ((coil_takeOwners l h).1.symm.trans ho)
  noCoil _ _ h ho := owner_none ((coil_takeOwners l h).1.symm.trans ho)
  prop _ _ _ h ho := owner_some ((prop_takeOwners l h).1.symm.trans ho)
  noProp _ _ h ho := owner_none ((prop_takeOwners l h).1.symm.trans ho)

end Owners

/-! ### The two resets -/

theorem getD_replicate_self {α : Type} (n i : Nat) (a : α) : (List.replicate n a).getD i a = a := by
  simp only [List.getD_eq_getElem?_getD, List.getElem?_replicate]
  split <;> rfl

theorem load_isSome (x : Stored) : x.load.isSome = x.valid := by
  unfold Stored.load
  cases x.valid <;> rfl

theorem restart_aeu (k : ResetKind) (straps : Straps) (s : State) : (s.restart k straps).aeu = s.aeu.restart k := rfl
theorem restart_free (k : ResetKind) (straps : Straps) (s : State) : (s.restart k straps).free = s.free := rfl
theorem restart_pending (k : ResetKind) (straps : Straps) (s : State) : (s.restart k straps).pending = s.pending := rfl
theorem restart_layout (k : ResetKind) (straps : Straps) (s : State) : (s.restart k straps).layout = s.lst.stored.load.getD {} := rfl

/-- Every block is in its reset state (R17, R24, R53, R71, R126, R141, R171, R182, R184, R188). -/
theorem restart_freshFrom (k : ResetKind) (straps : Straps) (s : State) : (s.restart k straps).FreshFrom straps s.lst.stored where
  straps := rfl
  bridge := rfl
  stand := rfl
  holder := ⟨rfl, rfl, rfl⟩
  mode := by
    show (if s.lst.stored.load.isSome then Mode.harbour else .maintenance) = _
    rw [load_isSome]
  layout := rfl
  tag := by
    show (match s.lst.stored.load with | some x => tagOf x | none => 0) = _
    unfold Stored.load
    cases s.lst.stored.valid <;> rfl
  store := ⟨rfl, rfl, rfl, rfl, rfl⟩
  vessel := ⟨rfl, rfl, rfl⟩
  conds := by
    refine ⟨fun i => ?_, rfl, rfl⟩
    show (List.replicate 32 Tri.unknown).getD i .unknown = .unknown
    exact getD_replicate_self 32 i _
  flow := ⟨rfl, rfl, rfl, rfl⟩
  pumps i := tget_tmap (fun _ (p : PumpDef) => ({ capacity := p.capacity, startTime := p.startTime } : Pump)) _ i
  points i := by
    rw [restart_layout]
    refine (tget_tmap _ _ i).trans (congrArg (fun f => Option.map f _) (funext fun d => ?_))
    exact freshPoint_after_reset _ _ _ rfl rfl i d
  motions := ⟨rfl, rfl, rfl⟩
  sequence := ⟨rfl, rfl, rfl⟩
  coils c hc := by
    obtain ⟨i, hi⟩ := List.getElem?_of_mem hc
    exact (coil_takeOwners _ hi).2
  banks b hb := List.eq_of_mem_replicate hb
  props p hp := by
    obtain ⟨i, hi⟩ := List.getElem?_of_mem hp
    exact (prop_takeOwners _ hi).2
  counts := by
    exact ⟨length_coils_takeOwners _ _, rfl, length_props_takeOwners _ _, rfl⟩
  owners := ownersFrom_takeOwners _
  others := ⟨fun c hc => List.eq_of_mem_replicate hc, rfl, rfl⟩
  estop := ⟨rfl, rfl, rfl, rfl, rfl⟩
  inputs := ⟨freshFor_take _ _, load_isSome _⟩
  ready := ⟨rfl, rfl⟩

/-- AEU's act after a power-on reset (R171): all is cleared but the two records and the RESTART alarm of that act. -/
theorem restart_por_aeu (a : Aeu) : a.restart .por =
    { alarms := [{ kind := .restart, subject := 0, state := .unackActive, stamp := 0 }]
      events := [{ serial := 0, stamp := 0, event := .powerUp .por }, { serial := 1, stamp := 0, event := .alarmRaised .restart 0 .entered }]
      nextSerial := 2 } := by
  simp [Aeu.restart, Aeu.record, Aeu.raise, resetCode, Config.eventMax, Config.alarmMax]

/-- AEU's act after a reset by the external input (R171): two records follow those that are kept, and RESTART is the one alarm. -/
theorem restart_xrst_aeu (a : Aeu) :
    (a.restart .xrst).stamp = a.stamp ∧ (a.restart .xrst).nextSerial = a.nextSerial + 2 ∧ (a.restart .xrst).overflow = false ∧
      (a.restart .xrst).events = newestRecords (a.events ++
        [{ serial := a.nextSerial, stamp := a.stamp, event := .powerUp .xrst },
          { serial := a.nextSerial + 1, stamp := a.stamp, event := .alarmRaised .restart 1 .entered }]) ∧
      (a.restart .xrst).alarms = [{ kind := .restart, subject := 1, state := .unackActive, stamp := a.stamp }] := by
  let kept : Aeu := { events := a.events, nextSerial := a.nextSerial, stamp := a.stamp }
  let b := kept.record (.powerUp .xrst)
  have h : a.restart .xrst = Aeu.record (.alarmRaised .restart 1 .entered)
      { b with alarms := [{ kind := .restart, subject := 1, state := .unackActive, stamp := a.stamp }] } := rfl
  rw [h]
  refine ⟨rfl, ?_, rfl, ?_, rfl⟩
  · show a.nextSerial + 1 + 1 = a.nextSerial + 2
    bv_omega
  · rw [Aeu.record_events]
    show newestRecords (b.events ++ _) = _
    rw [Aeu.record_events, newestRecords_append, List.append_assoc]
    rfl

/-- Settles O4. -/
theorem resetsRestartThePart : Obligations.ResetsRestartThePart := by
  refine ⟨fun straps s => ?_, fun straps s => ⟨fun h => ?_, fun h => ?_⟩⟩
  · have haeu := (restart_aeu .por straps s).trans (restart_por_aeu s.aeu)
    refine ⟨_, rfl, restart_freshFrom .por straps s, restart_pending .por straps s, restart_free .por straps s, ?_⟩
    rw [haeu]
    exact ⟨rfl, rfl, rfl, rfl, rfl⟩
  · obtain ⟨hstamp, hserial, hover, hevents, halarms⟩ := restart_xrst_aeu s.aeu
    rw [← restart_aeu .xrst straps s] at hstamp hserial hover hevents halarms
    have hexec : exec (.xrstRelease straps) s = .next (s.restart .xrst straps) := by simp [exec, execXrstRelease, h]
    exact ⟨_, hexec, restart_freshFrom .xrst straps s, restart_pending .xrst straps s, restart_free .xrst straps s, hstamp, hserial, hover, hevents,
      halarms⟩
  · simp [exec, execXrstRelease, h]

end Sys2Proof.Machine
end

section
namespace Sys2Proof.Machine

/-! ### What AEU's acts log (R168) -/

/-- The newest 128 of a list that a full event list is. -/
theorem newestRecords_of_eventsOk {a : Aeu} (h : a.EventsOk) : newestRecords a.events = a.events := by
  have : a.events.length - Config.eventMax = 0 := Nat.sub_eq_zero_of_le h.1
  simp [newestRecords, this]

theorem Aeu.dated_nil (a : Aeu) : a.dated [] = [] := rfl

@[simp] theorem Aeu.length_dated (a : Aeu) (es : List Event) : (a.dated es).length = es.length := by simp [Aeu.dated]

theorem Aeu.mem_dated {a : Aeu} {es : List Event} {e : Event} (h : e ∈ es) : ∃ r ∈ a.dated es, r.event = e := by
  obtain ⟨i, hi⟩ := List.getElem?_of_mem h
  refine ⟨{ serial := a.nextSerial + BitVec.ofNat 32 i, stamp := a.stamp, event := e }, List.mem_of_getElem? (i := i) ?_, rfl⟩
  simp [Aeu.dated, List.getElem?_mapIdx, hi]

/-- AEU has recorded `es`, and nothing else, between `a` and `b` (R168). -/
structure Aeu.Logged (a b : Aeu) (es : List Event) : Prop where
  events : newestRecords b.events = newestRecords (a.events ++ a.dated es)
  serial : b.nextSerial = a.nextSerial + BitVec.ofNat 32 es.length
  stamp  : b.stamp = a.stamp

theorem Aeu.Logged.refl (a : Aeu) : a.Logged a [] := ⟨by simp [Aeu.dated_nil], by simp, rfl⟩

/-- An act that changes neither the event list nor what dates it. -/
theorem Aeu.Logged.of_same {a b : Aeu} (h1 : b.events = a.events) (h2 : b.nextSerial = a.nextSerial) (h3 : b.stamp = a.stamp) : a.Logged b [] :=
  ⟨by simp [Aeu.dated_nil, h1], by simp [h2], h3⟩

theorem Aeu.dated_append {a b : Aeu} {es : List Event} (fs : List Event) (hn : b.nextSerial = a.nextSerial + BitVec.ofNat 32 es.length)
    (hs : b.stamp = a.stamp) : a.dated (es ++ fs) = a.dated es ++ b.dated fs := by
  simp only [Aeu.dated, List.mapIdx_append, hn, hs, BitVec.ofNat_add, BitVec.add_assoc]
  congr 1
  refine List.mapIdx_eq_mapIdx_iff.2 fun i hi => ?_
  rw [BitVec.add_comm (BitVec.ofNat 32 i)]

theorem newestRecords_append_congr {xs ys : List EventRec} (h : newestRecords xs = newestRecords ys) (zs : List EventRec) :
    newestRecords (xs ++ zs) = newestRecords (ys ++ zs) := by
  rw [← newestRecords_append, h, newestRecords_append]

theorem Aeu.Logged.trans {a b c : Aeu} {es fs : List Event} (h : a.Logged b es) (k : b.Logged c fs) : a.Logged c (es ++ fs) where
  events := by
    rw [k.events, Aeu.dated_append fs h.serial h.stamp, ← List.append_assoc]
    exact newestRecords_append_congr h.events _
  serial := by rw [k.serial, h.serial, List.length_append, BitVec.ofNat_add, BitVec.add_assoc]
  stamp := k.stamp.trans h.stamp

theorem Aeu.Logged.record (a : Aeu) (e : Event) : a.Logged (a.record e) [e] where
  events := by
    have h := newestRecords_append (a.events ++ [{ serial := a.nextSerial, stamp := a.stamp, event := e }]) []
    rw [List.append_nil, List.append_nil] at h
    rw [Aeu.record_events, h]
    simp [Aeu.dated]
  serial := by simp
  stamp := Aeu.record_stamp e a

theorem Aeu.Logged.remake {a b : Aeu} {es : List Event} (h : a.Logged b es) : a.Logged b.remake es := ⟨h.events, h.serial, h.stamp⟩

theorem Aeu.Logged.congr {a b c : Aeu} {es : List Event} (h : a.Logged b es) (h1 : c.events = b.events) (h2 : c.nextSerial = b.nextSerial)
    (h3 : c.stamp = b.stamp) : a.Logged c es := ⟨by rw [h1]; exact h.events, h2.trans h.serial, h3.trans h.stamp⟩

/-- The four ways in which a raise is taken (R164). -/
theorem Aeu.raise_cases (a : Aeu) (k : AlarmKind) (i : Nat) :
    let new : Alarm := { kind := k, subject := i, state := .unackActive, stamp := a.stamp }
    a.raise k i = a ∧ (∃ x ∈ a.alarms, Alarm.is k i x = true ∧ x.state ≠ .unackCleared) ∨
    ∃ (b : Aeu) (d : RaiseDetail), a.raise k i = b.record (.alarmRaised k i d) ∧ b.events = a.events ∧ b.nextSerial = a.nextSerial ∧ b.stamp = a.stamp ∧
      ((∃ x ∈ a.alarms, Alarm.is k i x = true ∧ x.state = .unackCleared) ∧ b.overflow = a.overflow ∧
          b.alarms = a.alarms.map (fun x => if Alarm.is k i x then new else x) ∨
        b.overflow = a.overflow ∧ b.alarms = a.alarms ++ [new] ∨
        b.overflow = a.overflow ∧ b.alarms = a.alarms.eraseP (fun x => x.state != .unackActive) ++ [new] ∨
        b.overflow = true ∧ b.alarms = a.alarms ∧ ∀ x ∈ a.alarms, x.state = .unackActive) := by
  intro new
  unfold Aeu.raise
  split
  · rename_i x hx
    have hm := List.mem_of_find?_eq_some hx
    have hp := List.find?_some hx
    split
    · rename_i hc
      exact .inr ⟨_, _, rfl, rfl, rfl, rfl, .inl ⟨⟨x, hm, hp, eq_of_beq hc⟩, rfl, rfl⟩⟩
    · rename_i hc
      exact .inl ⟨rfl, x, hm, hp, by simpa using hc⟩
  · split
    · exact .inr ⟨_, _, rfl, rfl, rfl, rfl, .inr (.inl ⟨rfl, rfl⟩)⟩
    · split
      · exact .inr ⟨_, _, rfl, rfl, rfl, rfl, .inr (.inr (.inl ⟨rfl, rfl⟩))⟩
      · rename_i hany
        refine .inr ⟨_, _, rfl, rfl, rfl, rfl, .inr (.inr (.inr ⟨rfl, rfl, ?_⟩))⟩
        simpa using hany

/-- A raise records at most that it was taken (R164). -/
theorem Aeu.Logged.raise (a : Aeu) (k : AlarmKind) (i : Nat) : a.Logged (a.raise k i) [] ∨ ∃ d, a.Logged (a.raise k i) [.alarmRaised k i d] := by
  rcases Aeu.raise_cases a k i with ⟨h, -⟩ | ⟨b, d, h, h1, h2, h3, -⟩
  · exact .inl (h.symm ▸ Aeu.Logged.refl a)
  · exact .inr ⟨d, h.symm ▸ (Aeu.Logged.of_same h1 h2 h3).trans (Aeu.Logged.record b _)⟩

theorem Aeu.Logged.clear (a : Aeu) (k : AlarmKind) (i : Nat) : a.Logged (a.clear k i) [] :=
  Aeu.Logged.of_same (Aeu.clear_events k i a) (Aeu.clear_nextSerial k i a) (Aeu.clear_stamp k i a)

/-- AEU has recorded at most `n` raises, and nothing else, between `a` and `b`. -/
def Aeu.LoggedRaises (n : Nat) (a b : Aeu) : Prop :=
  ∃ es, a.Logged b es ∧ es.length ≤ n ∧ ∀ e ∈ es, ∃ k i d, e = .alarmRaised k i d

theorem Aeu.LoggedRaises.refl (a : Aeu) : a.LoggedRaises 0 a := ⟨[], Aeu.Logged.refl a, Nat.le_refl _, by simp⟩

theorem Aeu.LoggedRaises.trans {a b c : Aeu} {n m : Nat} (h : a.LoggedRaises n b) (k : b.LoggedRaises m c) : a.LoggedRaises (n + m) c := by
  obtain ⟨es, he, hn, hp⟩ := h
  obtain ⟨fs, hf, hm, hq⟩ := k
  refine ⟨es ++ fs, he.trans hf, by simp; omega, fun e h => ?_⟩
  exact (List.mem_append.1 h).elim (hp e) (hq e)

theorem Aeu.LoggedRaises.mono {a b : Aeu} {n m : Nat} (h : a.LoggedRaises n b) (hm : n ≤ m) : a.LoggedRaises m b := by
  obtain ⟨es, he, hn, hp⟩ := h
  exact ⟨es, he, hn.trans hm, hp⟩

theorem Aeu.LoggedRaises.congr {a b c : Aeu} {n : Nat} (h : a.LoggedRaises n b) (h1 : c.events = b.events) (h2 : c.nextSerial = b.nextSerial)
    (h3 : c.stamp = b.stamp) : a.LoggedRaises n c := by
  obtain ⟨es, he, hn, hp⟩ := h
  exact ⟨es, he.congr h1 h2 h3, hn, hp⟩

theorem Aeu.LoggedRaises.raise (a : Aeu) (k : AlarmKind) (i : Nat) : a.LoggedRaises 1 (a.raise k i) := by
  rcases Aeu.Logged.raise a k i with h | ⟨d, h⟩
  · exact ⟨_, h, by simp, by simp⟩
  · exact ⟨_, h, by simp, by simp⟩

theorem Aeu.LoggedRaises.clear (a : Aeu) (k : AlarmKind) (i : Nat) : a.LoggedRaises 0 (a.clear k i) := ⟨_, Aeu.Logged.clear a k i, by simp, by simp⟩

theorem Aeu.LoggedRaises.element (a : Aeu) (w n : Bool) (i : Nat) : a.LoggedRaises 1 (a.element w n i) := by
  simp only [Aeu.element]
  repeat' split
  · exact Aeu.LoggedRaises.raise a _ _
  · exact (Aeu.LoggedRaises.clear a _ _).mono (Nat.zero_le _)
  · exact (Aeu.LoggedRaises.refl a).mono (Nat.zero_le _)

/-- A closure state handover records at most two losses (R160). -/
theorem Aeu.LoggedRaises.supervise (a : Aeu) (m : Mode) (c : Closure) : a.LoggedRaises 2 (a.supervise m c) :=
  ((Aeu.LoggedRaises.element a _ _ _).trans (Aeu.LoggedRaises.element _ _ _ _)).congr rfl rfl rfl

/-- Of at most 128 events logged none is lost yet. -/
theorem Aeu.Logged.mem_events {a b : Aeu} {es : List Event} (h : a.Logged b es) (hn : es.length ≤ 128) {e : Event} (he : e ∈ es) :
    ∃ r ∈ b.events, r.event = e := by
  obtain ⟨r, hr, hre⟩ := Aeu.mem_dated (a := a) he
  refine ⟨r, List.mem_of_mem_drop (i := b.events.length - Config.eventMax) ?_, hre⟩
  change r ∈ newestRecords b.events
  rw [h.events, newestRecords, List.drop_append]
  refine List.mem_append_right _ ?_
  have : (a.events ++ a.dated es).length - Config.eventMax - a.events.length = 0 := by
    simp only [List.length_append, Aeu.length_dated, Config.eventMax]; omega
  rw [this]
  exact hr

/-- With the list in order, what has been logged stands at its end. -/
theorem Aeu.Logged.events_eq {a b : Aeu} {es : List Event} (h : a.Logged b es) (hb : b.EventsOk) :
    b.events = newestRecords (a.events ++ a.dated es) := (newestRecords_of_eventsOk hb).symm.trans h.events

/-! ### What stands in the alarm list (R164, R165) -/

/-- An entry of the pair stands unacknowledged and active, or an alarm has been lost to a list without an acknowledged entry. Unlike `Raised`, this stays so at every
later raise. -/
def Aeu.Stands (k : AlarmKind) (i : Nat) (a : Aeu) : Prop :=
  (∃ x ∈ a.alarms, Alarm.is k i x = true ∧ x.state = .unackActive) ∨ a.overflow = true ∧ ∀ x ∈ a.alarms, x.state ≠ .ackActive

/-- An entry of the pair stands active, or an alarm has been lost to a list without an acknowledged entry. -/
def Aeu.StandsMaybeAcked (k : AlarmKind) (i : Nat) (a : Aeu) : Prop :=
  (∃ x ∈ a.alarms, Alarm.is k i x = true ∧ x.state ≠ .unackCleared) ∨ a.overflow = true ∧ ∀ x ∈ a.alarms, x.state ≠ .ackActive

theorem Alarm.is_kind {k : AlarmKind} {i : Nat} {x : Alarm} (h : Alarm.is k i x = true) : x.kind = k ∧ x.subject = i := by simpa [Alarm.is] using h

theorem Aeu.StandsMaybeAcked.raised {k : AlarmKind} {i : Nat} {a : Aeu} (h : a.StandsMaybeAcked k i) : a.Raised k i := by
  rcases h with ⟨x, hx, hp, hs⟩ | ⟨h, -⟩
  · exact .inl ⟨x, hx, (Alarm.is_kind hp).1, (Alarm.is_kind hp).2, hs⟩
  · exact .inr h

theorem Aeu.Stands.raised {k : AlarmKind} {i : Nat} {a : Aeu} (h : a.Stands k i) : a.Raised k i := by
  refine Aeu.StandsMaybeAcked.raised (h.imp_left ?_)
  rintro ⟨x, hx, hp, hs⟩
  exact ⟨x, hx, hp, by simp [hs]⟩

/-- Right after its raise an alarm stands, be it acknowledged (R164). -/
theorem Aeu.raise_standsMaybeAcked (a : Aeu) (k : AlarmKind) (i : Nat) : (a.raise k i).StandsMaybeAcked k i := by
  have hnew (st : Word32) : Alarm.is k i { kind := k, subject := i, state := .unackActive, stamp := st } = true := by simp [Alarm.is]
  rcases Aeu.raise_cases a k i with ⟨h, hx⟩ | ⟨b, d, h, -, -, -, ⟨⟨x, hx, hp, -⟩, -, hb⟩ | ⟨-, hb⟩ | ⟨-, hb⟩ | ⟨ho, hb, hall⟩⟩
  · exact .inl (h.symm ▸ hx)
  · refine .inl ⟨_, ?_, hnew a.stamp, by simp⟩
    rw [h, Aeu.record_alarms, hb]
    exact List.mem_map.2 ⟨x, hx, by simp [hp]⟩
  · exact .inl ⟨_, by rw [h, Aeu.record_alarms, hb]; exact List.mem_append_right _ (List.mem_singleton_self _), hnew a.stamp, by simp⟩
  · exact .inl ⟨_, by rw [h, Aeu.record_alarms, hb]; exact List.mem_append_right _ (List.mem_singleton_self _), hnew a.stamp, by simp⟩
  · refine .inr ⟨by rw [h, Aeu.record_overflow, ho], fun x hx => ?_⟩
    rw [h, Aeu.record_alarms, hb] at hx
    simp [hall x hx]

/-- A raise leaves no entry acknowledged that was not so before. -/
theorem Aeu.mem_raise_acked {a : Aeu} {k : AlarmKind} {i : Nat} {x : Alarm} (hx : x ∈ (a.raise k i).alarms) (hs : x.state = .ackActive) : x ∈ a.alarms := by
  rcases Aeu.raise_cases a k i with ⟨h, -⟩ | ⟨b, d, h, -, -, -, ⟨-, -, hb⟩ | ⟨-, hb⟩ | ⟨-, hb⟩ | ⟨-, hb, -⟩⟩
  · exact h ▸ hx
  · rw [h, Aeu.record_alarms, hb] at hx
    obtain ⟨y, hy, rfl⟩ := List.mem_map.1 hx
    split at hs
    · simp at hs
    · rename_i hn
      simpa [hn] using hy
  · rw [h, Aeu.record_alarms, hb] at hx
    rcases List.mem_append.1 hx with hx | hx
    · exact hx
    · rw [List.mem_singleton.1 hx] at hs; simp at hs
  · rw [h, Aeu.record_alarms, hb] at hx
    rcases List.mem_append.1 hx with hx | hx
    · exact List.mem_of_mem_eraseP hx
    · rw [List.mem_singleton.1 hx] at hs; simp at hs
  · rwa [h, Aeu.record_alarms, hb] at hx

theorem Aeu.mem_clear {a : Aeu} {k : AlarmKind} {i : Nat} {x : Alarm} (hx : x ∈ (a.clear k i).alarms) :
    x ∈ a.alarms ∨ x.state = .unackCleared ∧ Alarm.is k i x = true := by
  simp only [Aeu.clear] at hx
  repeat' split at hx
  · obtain ⟨y, hy, rfl⟩ := List.mem_map.1 hx
    split
    · rename_i hp
      exact .inr ⟨rfl, hp⟩
    · exact .inl hy
  · exact .inl (List.mem_of_mem_eraseP hx)
  · exact .inl hx
  · exact .inl hx

/-- A clear of a pair leaves every entry of another. -/
theorem Aeu.mem_clear_of_mem {a : Aeu} {k : AlarmKind} {i : Nat} {x : Alarm} (hx : x ∈ a.alarms) (hp : Alarm.is k i x = false) : x ∈ (a.clear k i).alarms := by
  simp only [Aeu.clear]
  repeat' split
  · exact List.mem_map.2 ⟨x, hx, by simp [hp]⟩
  · exact (List.mem_eraseP_of_neg (by simp [hp])).2 hx
  · exact hx
  · exact hx

/-- OVERFLOW stays at a clear while no entry is acknowledged. -/
theorem Aeu.clear_overflow {a : Aeu} {k : AlarmKind} {i : Nat} (h : ∀ x ∈ a.alarms, x.state ≠ .ackActive) : (a.clear k i).overflow = a.overflow := by
  simp only [Aeu.clear]
  repeat' split
  · rfl
  · rename_i x hx _ hs
    exact absurd hs (h _ (List.mem_of_find?_eq_some hx))
  · rfl
  · rfl

/-- What a property of AEU has to survive to hold on through PMN's and CEV's acts: records, the clearing of closure losses and, at sea, raises. -/
structure Aeu.Lasting (sea : Prop) (P : Aeu → Prop) : Prop where
  plain : ∀ a b : Aeu, b.alarms = a.alarms → b.overflow = a.overflow → P a → P b
  raise : ∀ (a : Aeu) k i, sea → P a → P (a.raise k i)
  clear : ∀ (a : Aeu) i, P a → P (a.clear .closureLost i)

theorem Aeu.Lasting.and {sea : Prop} {P Q : Aeu → Prop} (h : Aeu.Lasting sea P) (k : Aeu.Lasting sea Q) : Aeu.Lasting sea (fun a => P a ∧ Q a) where
  plain a b h1 h2 hp := ⟨h.plain a b h1 h2 hp.1, k.plain a b h1 h2 hp.2⟩
  raise a x i hs hp := ⟨h.raise a x i hs hp.1, k.raise a x i hs hp.2⟩
  clear a i hp := ⟨h.clear a i hp.1, k.clear a i hp.2⟩

theorem Aeu.notAcked_lasting (sea : Prop) (k : AlarmKind) (i : Nat) : Aeu.Lasting sea (Aeu.NotAcked k i) where
  plain a b h1 _ hp := by rw [Aeu.NotAcked, h1]; exact hp
  raise a _ _ _ hp x hx hk hi hs := hp x (Aeu.mem_raise_acked hx hs) hk hi hs
  clear a _ hp x hx hk hi hs := by
    rcases Aeu.mem_clear hx with hx | ⟨hc, -⟩
    · exact hp x hx hk hi hs
    · rw [hs] at hc; simp at hc

theorem Aeu.noAcked_raise {a : Aeu} (h : ∀ x ∈ a.alarms, x.state ≠ .ackActive) (k : AlarmKind) (i : Nat) :
    ∀ x ∈ (a.raise k i).alarms, x.state ≠ .ackActive := fun x hx hs => h x (Aeu.mem_raise_acked hx hs) hs

theorem Aeu.noAcked_clear {a : Aeu} (h : ∀ x ∈ a.alarms, x.state ≠ .ackActive) (k : AlarmKind) (i : Nat) :
    ∀ x ∈ (a.clear k i).alarms, x.state ≠ .ackActive := by
  intro x hx hs
  rcases Aeu.mem_clear hx with hx | ⟨hc, -⟩
  · exact h x hx hs
  · rw [hs] at hc; simp at hc

theorem Aeu.raise_overflow {a : Aeu} (h : a.overflow = true) (k : AlarmKind) (i : Nat) : (a.raise k i).overflow = true := by
  rcases Aeu.raise_cases a k i with ⟨hr, -⟩ | ⟨b, d, hr, -, -, -, ⟨-, ho, -⟩ | ⟨ho, -⟩ | ⟨ho, -⟩ | ⟨ho, -⟩⟩
  · rw [hr, h]
  all_goals rw [hr, Aeu.record_overflow, ho]
  all_goals exact h

/-- No raise takes an unacknowledged active entry out of the list (R164). -/
theorem Aeu.raise_keeps_active {a : Aeu} {x : Alarm} (hx : x ∈ a.alarms) (hs : x.state = .unackActive) (k : AlarmKind) (i : Nat) :
    ∃ y ∈ (a.raise k i).alarms, y.pair = x.pair ∧ y.state = .unackActive := by
  rcases Aeu.raise_cases a k i with ⟨h, -⟩ | ⟨b, d, h, -, -, -, ⟨-, -, hb⟩ | ⟨-, hb⟩ | ⟨-, hb⟩ | ⟨-, hb, -⟩⟩
  · exact ⟨x, h.symm ▸ hx, rfl, hs⟩
  all_goals rw [h, Aeu.record_alarms, hb]
  · refine ⟨_, List.mem_map.2 ⟨x, hx, rfl⟩, ?_, ?_⟩
    · split
      · rename_i hp
        rw [(Alarm.is_iff k i x).1 hp]; rfl
      · rfl
    · split
      · rfl
      · exact hs
  · exact ⟨x, List.mem_append_left _ hx, rfl, hs⟩
  · exact ⟨x, List.mem_append_left _ ((List.mem_eraseP_of_neg (by simp [hs])).2 hx), rfl, hs⟩
  · exact ⟨x, hx, rfl, hs⟩

theorem Alarm.is_false_of_kind {k k' : AlarmKind} {i j : Nat} {x : Alarm} (h : Alarm.is k i x = true) (hk : k ≠ k') : Alarm.is k' j x = false := by
  have := (Alarm.is_kind h).1
  simp [Alarm.is, this, hk]

theorem Aeu.stands_lasting (sea : Prop) {k : AlarmKind} (hk : k ≠ .closureLost) (i : Nat) : Aeu.Lasting sea (Aeu.Stands k i) where
  plain a b h1 h2 hp := by rw [Aeu.Stands, h1, h2]; exact hp
  raise a k' j _ hp := by
    rcases hp with ⟨x, hx, hp, hs⟩ | ⟨ho, hn⟩
    · obtain ⟨y, hy, hyp, hys⟩ := Aeu.raise_keeps_active hx hs k' j
      exact .inl ⟨y, hy, (Alarm.is_iff k i y).2 (hyp.trans ((Alarm.is_iff k i x).1 hp)), hys⟩
    · exact .inr ⟨Aeu.raise_overflow ho _ _, Aeu.noAcked_raise hn _ _⟩
  clear a j hp := by
    rcases hp with ⟨x, hx, hp, hs⟩ | ⟨ho, hn⟩
    · exact .inl ⟨x, Aeu.mem_clear_of_mem hx (Alarm.is_false_of_kind hp hk), hp, hs⟩
    · exact .inr ⟨by rw [Aeu.clear_overflow hn, ho], Aeu.noAcked_clear hn _ _⟩

/-- Without raises, an acknowledged entry stays too. -/
theorem Aeu.standsMaybeAcked_lasting {sea : Prop} (hsea : ¬ sea) {k : AlarmKind} (hk : k ≠ .closureLost) (i : Nat) :
    Aeu.Lasting sea (Aeu.StandsMaybeAcked k i) where
  plain a b h1 h2 hp := by rw [Aeu.StandsMaybeAcked, h1, h2]; exact hp
  raise a k' j hs _ := absurd hs hsea
  clear a j hp := by
    rcases hp with ⟨x, hx, hp, hs⟩ | ⟨ho, hn⟩
    · exact .inl ⟨x, Aeu.mem_clear_of_mem hx (Alarm.is_false_of_kind hp hk), hp, hs⟩
    · exact .inr ⟨by rw [Aeu.clear_overflow hn, ho], Aeu.noAcked_clear hn _ _⟩

/-- An alarm of a pair that stood nowhere acknowledged stands on after its raise. -/
theorem Aeu.raise_stands {a : Aeu} {k : AlarmKind} {i : Nat} (h : a.NotAcked k i) : (a.raise k i).Stands k i := by
  refine (Aeu.raise_standsMaybeAcked a k i).imp_left ?_
  rintro ⟨x, hx, hp, hs⟩
  refine ⟨x, hx, hp, ?_⟩
  cases hst : x.state with
  | unackActive => rfl
  | ackActive => exact absurd hst (h x (Aeu.mem_raise_acked hx hst) (Alarm.is_kind hp).1 (Alarm.is_kind hp).2)
  | unackCleared => exact absurd hst hs

/-- A closure state handover is made of clears of closure losses and, at sea, of raises (R160). -/
theorem Aeu.Lasting.supervise {m : Mode} {P : Aeu → Prop} (h : Aeu.Lasting (m = .sea) P) {a : Aeu} (hp : P a) (c : Closure) : P (a.supervise m c) := by
  have element (b : Aeu) (w n : Bool) (i : Nat) (hn : n = true → m = .sea) (hb : P b) : P (b.element w n i) := by
    simp only [Aeu.element]
    repeat' split
    · rename_i hc
      exact h.raise _ _ _ (hn (by simp at hc; exact hc.1)) hb
    · exact h.clear _ _ hb
    · exact hb
  refine h.plain ((a.element a.lostVisor (m == .sea && c.visor != .secured) 0).element a.lostInner (m == .sea && c.inner != .secured) 1) _ rfl rfl
    (element _ _ _ _ ?_ (element _ _ _ _ ?_ hp))
  · intro hc; simp at hc; exact hc.1
  · intro hc; simp at hc; exact hc.1

end Sys2Proof.Machine
end

section
namespace Sys2Proof.Machine

/-! ### What the acts of PMN, CEV and AEU leave alone -/

/-- The units and OST's outputs. -/
structure Units where
  hpa        : Hpa
  ldu        : Ldu
  adu        : Adu
  osq        : Osq
  coils      : List Coil
  props      : List PropOut
  contactors : List Bool

/-- The units and OST's outputs as they stand. -/
def State.units (s : State) : Units :=
  { hpa := s.hpa, ldu := s.ldu, adu := s.adu, osq := s.osq, coils := s.ost.coils, props := s.ost.props, contactors := s.ost.contactors }

theorem State.units_eq {s e : State} (h : e.units = s.units) : e.hpa = s.hpa ∧ e.ldu = s.ldu ∧ e.adu = s.adu ∧ e.osq = s.osq ∧
    e.ost.coils = s.ost.coils ∧ e.ost.props = s.ost.props ∧ e.ost.contactors = s.ost.contactors := by
  simpa [State.units] using h

theorem hpa_of_units {s e : State} (h : e.units = s.units) : e.hpa = s.hpa := congrArg Units.hpa h
theorem ldu_of_units {s e : State} (h : e.units = s.units) : e.ldu = s.ldu := congrArg Units.ldu h
theorem adu_of_units {s e : State} (h : e.units = s.units) : e.adu = s.adu := congrArg Units.adu h
theorem osq_of_units {s e : State} (h : e.units = s.units) : e.osq = s.osq := congrArg Units.osq h
theorem coils_of_units {s e : State} (h : e.units = s.units) : e.ost.coils = s.ost.coils := congrArg Units.coils h

@[simp] theorem units_emit (t : Task) (s : State) : (emit t s).units = s.units := rfl
@[simp] theorem units_withAeu (f : Aeu → Aeu) (s : State) : (s.withAeu f).units = s.units := rfl
@[simp] theorem units_event (e : Event) (s : State) : (s.event e).units = s.units := rfl
@[simp] theorem units_raise (k : AlarmKind) (i : Nat) (s : State) : (s.raise k i).units = s.units := rfl
@[simp] theorem units_clearAlarm (k : AlarmKind) (i : Nat) (s : State) : (s.clearAlarm k i).units = s.units := rfl

/-! ### A recompute (R37) -/

/-- Writing several places of a list, each with the value that a function gives it. -/
theorem getElem?_foldl_lmod {α : Type} (f : Nat → α) (es : List (Nat × α)) (he : ∀ e ∈ es, e.2 = f e.1) (cs : List α) (i : Nat) :
    (es.foldl (fun cs e => lmod cs e.1 (fun _ => e.2)) cs)[i]? = if i ∈ es.map (fun e => e.1) then cs[i]?.map (fun _ => f i) else cs[i]? := by
  induction es generalizing cs with
  | nil => simp
  | cons e es ih =>
    rw [List.foldl_cons, ih (fun e h => he e (List.mem_cons_of_mem _ h)), getElem?_lmod]
    simp only [List.map_cons, List.mem_cons]
    have hv := he e List.mem_cons_self
    by_cases hi : e.1 = i
    · subst hi
      cases cs[e.1]? <;> simp [hv]
    · have hi' : ¬ i = e.1 := fun h => hi h.symm
      simp only [hi, hi', if_false, false_or]

/-- The conditions that a recompute of `ids` finds changed, with their new values. -/
def State.changes (s : State) (ids : List Nat) : List (Nat × Tri) := (ids.map (fun i => (i, s.evalCond i))).filter (fun e => e.2 != s.cond e.1)

theorem State.mem_changes {s : State} {ids : List Nat} {e : Nat × Tri} :
    e ∈ s.changes ids ↔ e.1 ∈ ids ∧ e.2 = s.evalCond e.1 ∧ s.evalCond e.1 ≠ s.cond e.1 := by
  obtain ⟨i, v⟩ := e
  simp only [State.changes, List.mem_filter, List.mem_map, Prod.mk.injEq, bne_iff_ne, ne_eq]
  constructor
  · rintro ⟨⟨j, hj, rfl, rfl⟩, hne⟩
    exact ⟨hj, rfl, hne⟩
  · rintro ⟨hj, rfl, hne⟩
    exact ⟨⟨i, hj, rfl, rfl⟩, hne⟩

/-- The condition values after the changes. -/
def State.condsWith (s : State) (ids : List Nat) : List Tri := (s.changes ids).foldl (fun cs e => lmod cs e.1 (fun _ => e.2)) s.cev.conds

theorem State.getElem?_condsWith (s : State) (ids : List Nat) (i : Nat) :
    (s.condsWith ids)[i]? = if i ∈ ids then s.cev.conds[i]?.map (fun _ => s.evalCond i) else s.cev.conds[i]? := by
  rw [State.condsWith, getElem?_foldl_lmod s.evalCond _ (fun e he => (State.mem_changes.1 he).2.1)]
  have hm : i ∈ (s.changes ids).map (fun e => e.1) ↔ i ∈ ids ∧ s.evalCond i ≠ s.cond i := by
    rw [List.mem_map]
    constructor
    · rintro ⟨e, he, rfl⟩
      exact ⟨(State.mem_changes.1 he).1, (State.mem_changes.1 he).2.2⟩
    · rintro ⟨hi, hne⟩
      exact ⟨(i, s.evalCond i), State.mem_changes.2 ⟨hi, rfl, hne⟩, rfl⟩
  by_cases hi : i ∈ ids
  · by_cases hc : s.evalCond i = s.cond i
    · rw [if_neg (by simp [hm, hc]), if_pos hi, hc]
      cases h : s.cev.conds[i]? with
      | none => rfl
      | some v => simp [State.cond, h]
    · rw [if_pos (hm.2 ⟨hi, hc⟩), if_pos hi]
  · rw [if_neg (by simp [hm, hi]), if_neg hi]

theorem State.length_condsWith (s : State) (ids : List Nat) : (s.condsWith ids).length = s.cev.conds.length := by
  have (es : List (Nat × Tri)) (cs : List Tri) : (es.foldl (fun cs e => lmod cs e.1 (fun _ => e.2)) cs).length = cs.length := by
    induction es generalizing cs with
    | nil => rfl
    | cons e es ih => rw [List.foldl_cons, ih, length_lmod]
  exact this _ _

/-- A recompute before the first computation does nothing (R53). -/
theorem recompute_not_started {s : State} (h : s.cev.started = false) (ids : List Nat) : s.recompute ids = s := by
  simp [State.recompute, h]

/-- The state with new condition values. -/
def State.withConds (s : State) (cs : List Tri) : State := { s with cev := { s.cev with conds := cs } }

/-- A recompute leaves the state, where nothing has changed, or stores the values and the closure state and hands on what changed. -/
theorem recompute_started {s : State} (h : s.cev.started = true) (ids : List Nat) :
    (s.recompute ids = s ∧ s.changes ids = [] ∧ (s.withConds (s.condsWith ids)).closureNow = s.cev.closure) ∨
      s.recompute ids = emit (.changed (s.changes ids))
        ({ s with cev := { s.cev with conds := s.condsWith ids, closure := (s.withConds (s.condsWith ids)).closureNow } }).supervise := by
  by_cases hc : ((s.changes ids).isEmpty && (s.withConds (s.condsWith ids)).closureNow == s.cev.closure) = true
  · refine .inl ⟨?_, ?_⟩
    · show (if s.cev.started then if ((s.changes ids).isEmpty && (s.withConds (s.condsWith ids)).closureNow == s.cev.closure) = true then s else _ else s) = s
      rw [if_pos h, if_pos hc]
    · simpa using hc
  · refine .inr ?_
    show (if s.cev.started then if ((s.changes ids).isEmpty && (s.withConds (s.condsWith ids)).closureNow == s.cev.closure) = true then s else _ else s) = _
    rw [if_pos h, if_neg hc]
    rfl

theorem State.condsWith_of_changes_nil {s : State} {ids : List Nat} (h : s.changes ids = []) : s.condsWith ids = s.cev.conds := by
  simp [State.condsWith, h]

/-- The part of CEV that a recompute writes. -/
theorem recompute_cev {s : State} (h : s.cev.started = true) (ids : List Nat) :
    (s.recompute ids).cev = { s.cev with conds := s.condsWith ids, closure := (s.withConds (s.condsWith ids)).closureNow } := by
  rcases recompute_started h ids with ⟨he, hn, hc⟩ | he
  · rw [he, hc, State.condsWith_of_changes_nil hn]
  · rw [he]; rfl

@[simp] theorem recompute_pmn (ids : List Nat) (s : State) : (s.recompute ids).pmn = s.pmn := by
  cases h : s.cev.started with
  | false => rw [recompute_not_started h]
  | true =>
    rcases recompute_started h ids with ⟨he, -⟩ | he
    · rw [he]
    · rw [he]; rfl

@[simp] theorem units_recompute (ids : List Nat) (s : State) : (s.recompute ids).units = s.units := by
  cases h : s.cev.started with
  | false => rw [recompute_not_started h]
  | true =>
    rcases recompute_started h ids with ⟨he, -⟩ | he
    · rw [he]
    · rw [he]; rfl

theorem length_conds_recompute (ids : List Nat) (s : State) : (s.recompute ids).cev.conds.length = s.cev.conds.length := by
  cases h : s.cev.started with
  | false => rw [recompute_not_started h]
  | true => rw [recompute_cev h]; exact s.length_condsWith ids

/-- The value of a condition after a recompute. -/
theorem cond_recompute (ids : List Nat) (s : State) (i : Nat) :
    (s.recompute ids).cond i = if s.cev.started = true ∧ i ∈ ids ∧ i < s.cev.conds.length then s.evalCond i else s.cond i := by
  cases h : s.cev.started with
  | false => rw [recompute_not_started h]; simp
  | true =>
    rw [State.cond, recompute_cev h, List.getD_eq_getElem?_getD, s.getElem?_condsWith]
    by_cases hi : i ∈ ids
    · by_cases hl : i < s.cev.conds.length
      · simp [hi, hl]
      · simp [hi, hl, State.cond]
    · simp [hi, State.cond]

/-- A recompute leaves the reports made and adds at most one; a changed condition stands in it. -/
theorem todo_recompute (ids : List Nat) (s : State) : s.todo <+: (s.recompute ids).todo ∧
    ∀ i, (s.recompute ids).cond i ≠ s.cond i → ∃ cs, Task.changed cs ∈ (s.recompute ids).todo ∧ (i, (s.recompute ids).cond i) ∈ cs := by
  cases h : s.cev.started with
  | false => rw [recompute_not_started h]; exact ⟨List.prefix_refl _, fun i hi => absurd rfl hi⟩
  | true =>
    rcases recompute_started h ids with ⟨he, -⟩ | he
    · rw [he]; exact ⟨List.prefix_refl _, fun i hi => absurd rfl hi⟩
    · have ht : (s.recompute ids).todo = s.todo ++ [.changed (s.changes ids)] := by rw [he]; rfl
      refine ⟨ht ▸ List.prefix_append _ _, fun i hi => ?_⟩
      rw [cond_recompute] at hi ⊢
      rw [ht]
      split
      · rename_i hc
        rw [if_pos hc] at hi
        exact ⟨_, List.mem_append_right _ (List.mem_singleton_self _), State.mem_changes.2 ⟨hc.2.1, rfl, hi⟩⟩
      · rename_i hc
        rw [if_neg hc] at hi
        exact absurd rfl hi

/-- After a recompute the closure state is that of the condition values (R154). -/
theorem closure_recompute {s : State} (h : s.cev.started = true) (ids : List Nat) : (s.recompute ids).cev.closure = (s.recompute ids).closureNow := by
  have hl : (s.recompute ids).layout = s.layout := by
    have := congrArg Fixed.lst (fixed_recompute ids s)
    simp only [State.fixed] at this
    rw [State.layout, this]; rfl
  have hc := recompute_cev h ids
  simp only [State.closureNow, hl, State.cond, hc]
  rfl

theorem Aeu.Lasting.remake {sea : Prop} {P : Aeu → Prop} (h : Aeu.Lasting sea P) {a : Aeu} (hp : P a) : P a.remake := h.plain a _ rfl rfl hp

theorem Aeu.Lasting.record {sea : Prop} {P : Aeu → Prop} (h : Aeu.Lasting sea P) {a : Aeu} (hp : P a) (e : Event) : P (a.record e) :=
  h.plain a _ (by simp) (by simp) hp

/-- What lasts through CEV's and AEU's acts lasts through a recompute. -/
theorem Aeu.Lasting.recompute {s : State} {P : Aeu → Prop} (h : Aeu.Lasting (s.amu.mode = .sea) P) (hp : P s.aeu) (ids : List Nat) : P (s.recompute ids).aeu := by
  cases hs : s.cev.started with
  | false => rw [recompute_not_started hs]; exact hp
  | true =>
    rcases recompute_started hs ids with ⟨he, -⟩ | he
    · rw [he]; exact hp
    · rw [he]
      exact h.remake (h.supervise hp _)

end Sys2Proof.Machine
end

section
namespace Sys2Proof.Machine

/-! ### Acts of PMN, CEV and AEU -/

theorem fixed_parts {s e : State} (h : e.fixed = s.fixed) : e.amu = s.amu ∧ e.isc = s.isc ∧ e.lst = s.lst ∧ e.cev.started = s.cev.started ∧
    e.cev.freshness = s.cev.freshness ∧ e.cev.vessel = s.cev.vessel ∧ e.ost.banks = s.ost.banks ∧ e.ost.estop = s.ost.estop :=
  ⟨congrArg Fixed.amu h, congrArg Fixed.isc h, congrArg Fixed.lst h, congrArg Fixed.started h, congrArg Fixed.freshness h, congrArg Fixed.vessel h,
    congrArg Fixed.banks h, congrArg Fixed.estop h⟩

theorem amu_of_fixed {s e : State} (h : e.fixed = s.fixed) : e.amu = s.amu := congrArg Fixed.amu h
theorem isc_of_fixed {s e : State} (h : e.fixed = s.fixed) : e.isc = s.isc := congrArg Fixed.isc h
theorem lst_of_fixed {s e : State} (h : e.fixed = s.fixed) : e.lst = s.lst := congrArg Fixed.lst h
theorem started_of_fixed {s e : State} (h : e.fixed = s.fixed) : e.cev.started = s.cev.started := congrArg Fixed.started h
theorem banks_of_fixed {s e : State} (h : e.fixed = s.fixed) : e.ost.banks = s.ost.banks := congrArg Fixed.banks h

theorem layout_of_lst {s e : State} (h : e.lst = s.lst) : e.layout = s.layout := by rw [State.layout, h]; rfl

theorem layout_of_fixed {s e : State} (h : e.fixed = s.fixed) : e.layout = s.layout := layout_of_lst (congrArg Fixed.lst h)

/-! ### Hysteresis (R44, R45) -/

theorem hysteresis_twice (b r : Bool) (t : Tri) : hysteresis b r (hysteresis b r t) = hysteresis b r t := by
  cases b <;> cases r <;> cases t <;> rfl

theorem evalCond_one (s : State) : s.evalCond 1 =
    if s.cev.freshness = .fresh then (s.cev.vessel.map (fun v => attitudeOk s.tune v (s.cond 1))).getD .unknown else .unknown := by
  unfold State.evalCond
  cases s.cev.freshness <;> cases s.cev.vessel <;> rfl

theorem evalCond_two (s : State) : s.evalCond 2 =
    if s.cev.freshness = .fresh then (s.cev.vessel.map (fun v => windOk s.tune v (s.cond 2))).getD .unknown else .unknown := by
  unfold State.evalCond
  cases s.cev.freshness <;> cases s.cev.vessel <;> rfl

/-- The vessel data and their limits are the same. -/
structure State.SameVessel (s e : State) : Prop where
  freshness : e.cev.freshness = s.cev.freshness
  vessel    : e.cev.vessel = s.cev.vessel
  lst       : e.lst = s.lst

theorem State.SameVessel.of_fixed {s e : State} (h : e.fixed = s.fixed) : s.SameVessel e :=
  ⟨congrArg Fixed.freshness h, congrArg Fixed.vessel h, congrArg Fixed.lst h⟩

/-- A value that has followed the vessel data once is not moved by following them again. -/
theorem State.SameVessel.evalCond_one {s e : State} (h : s.SameVessel e) (hc : e.cond 1 = s.cond 1 ∨ e.cond 1 = s.evalCond 1) : e.evalCond 1 = s.evalCond 1 := by
  have ht : e.tune = s.tune := by rw [State.tune, layout_of_lst h.lst]; rfl
  rw [Machine.evalCond_one e, Machine.evalCond_one s, h.freshness, h.vessel, ht]
  rcases hc with hc | hc
  · rw [hc]
  · rw [hc, Machine.evalCond_one s]
    split
    · cases s.cev.vessel with
      | none => rfl
      | some v => exact hysteresis_twice _ _ _
    · rfl

theorem State.SameVessel.evalCond_two {s e : State} (h : s.SameVessel e) (hc : e.cond 2 = s.cond 2 ∨ e.cond 2 = s.evalCond 2) : e.evalCond 2 = s.evalCond 2 := by
  have ht : e.tune = s.tune := by rw [State.tune, layout_of_lst h.lst]; rfl
  rw [Machine.evalCond_two e, Machine.evalCond_two s, h.freshness, h.vessel, ht]
  rcases hc with hc | hc
  · rw [hc]
  · rw [hc, Machine.evalCond_two s]
    split
    · cases s.cev.vessel with
      | none => rfl
      | some v => exact hysteresis_twice _ _ _
    · rfl

/-! ### What is handed on -/

/-- From `s` to `e` every change of a condition is handed on (R37), the reports made stand, and the vessel data give the conditions c1 and c2 the value they gave. -/
structure State.HandsOn (s e : State) : Prop where
  length : e.cev.conds.length = s.cev.conds.length
  todo   : s.todo <+: e.todo
  handed : ∀ i, e.cond i ≠ s.cond i → ∃ cs, Task.changed cs ∈ e.todo ∧ (i, e.cond i) ∈ cs
  steady : e.evalCond 1 = s.evalCond 1 ∧ e.evalCond 2 = s.evalCond 2

theorem State.HandsOn.of_conds {s e : State} (hc : e.cev.conds = s.cev.conds) (ht : s.todo <+: e.todo) (hv : s.SameVessel e) : s.HandsOn e :=
  have hcond (i : Nat) : e.cond i = s.cond i := by rw [State.cond, hc]; rfl
  ⟨by rw [hc], ht, fun i hi => absurd (hcond i) hi, hv.evalCond_one (.inl (hcond 1)), hv.evalCond_two (.inl (hcond 2))⟩

theorem State.HandsOn.trans {s m e : State} (h : s.HandsOn m) (k : m.HandsOn e) : s.HandsOn e where
  length := k.length.trans h.length
  todo := h.todo.trans k.todo
  handed i hi := by
    by_cases he : e.cond i = m.cond i
    · obtain ⟨cs, hcs, hm⟩ := h.handed i (he ▸ hi)
      exact ⟨cs, k.todo.subset hcs, he.symm ▸ hm⟩
    · exact k.handed i he
  steady := ⟨k.steady.1.trans h.steady.1, k.steady.2.trans h.steady.2⟩

theorem State.HandsOn.recompute (ids : List Nat) (s : State) : s.HandsOn (s.recompute ids) := by
  have hv : s.SameVessel (s.recompute ids) := .of_fixed (fixed_recompute ids s)
  have hcond (i : Nat) : (s.recompute ids).cond i = s.cond i ∨ (s.recompute ids).cond i = s.evalCond i := by
    rw [cond_recompute]
    split
    · exact .inr rfl
    · exact .inl rfl
  exact ⟨length_conds_recompute ids s, (todo_recompute ids s).1, (todo_recompute ids s).2, hv.evalCond_one (hcond 1), hv.evalCond_two (hcond 2)⟩

/-- From `s` to `e` PMN, CEV and AEU alone have acted. -/
structure State.ActsTo (s e : State) : Prop extends State.HandsOn s e where
  fixed  : e.fixed = s.fixed
  units  : e.units = s.units

theorem State.ActsTo.of_cev_eq {s e : State} (hf : e.fixed = s.fixed) (hu : e.units = s.units) (hc : e.cev = s.cev) (ht : s.todo <+: e.todo) : s.ActsTo e :=
  ⟨.of_conds (by rw [hc]) ht (.of_fixed hf), hf, hu⟩

theorem State.ActsTo.refl (s : State) : s.ActsTo s := .of_cev_eq rfl rfl rfl (List.prefix_refl _)

theorem State.ActsTo.trans {s m e : State} (h : s.ActsTo m) (k : m.ActsTo e) : s.ActsTo e :=
  ⟨h.toHandsOn.trans k.toHandsOn, k.fixed.trans h.fixed, k.units.trans h.units⟩

theorem State.ActsTo.emit (t : Task) (s : State) : s.ActsTo (Machine.emit t s) := .of_cev_eq (by simp) (by simp) rfl (List.prefix_append _ _)

theorem State.ActsTo.event (e : Event) (s : State) : s.ActsTo (s.event e) := .of_cev_eq (by simp) (by simp) rfl (List.prefix_refl _)

theorem State.ActsTo.raise (k : AlarmKind) (i : Nat) (s : State) : s.ActsTo (s.raise k i) := .of_cev_eq (by simp) (by simp) rfl (List.prefix_refl _)

theorem State.ActsTo.clearAlarm (k : AlarmKind) (i : Nat) (s : State) : s.ActsTo (s.clearAlarm k i) :=
  .of_cev_eq (by simp) (by simp) rfl (List.prefix_refl _)

theorem State.ActsTo.pmn (x : Pmn) (s : State) : s.ActsTo { s with pmn := x } := .of_cev_eq rfl rfl rfl (List.prefix_refl _)

theorem State.ActsTo.recompute (ids : List Nat) (s : State) : s.ActsTo (s.recompute ids) :=
  ⟨.recompute ids s, by simp, by simp⟩

theorem State.ActsTo.pointToCev (i : Nat) (s : State) : s.ActsTo (s.pointToCev i) := .recompute _ s

theorem State.ActsTo.modLock (i : Nat) (f : LockDyn → LockDyn) (s : State) : s.ActsTo (s.modLock i f) := by
  unfold State.modLock
  split
  · exact .pmn _ s
  · exact .refl s

theorem State.ActsTo.modAxis (i : Nat) (f : AxisDyn → AxisDyn) (s : State) : s.ActsTo (s.modAxis i f) := by
  unfold State.modAxis
  split
  · exact .pmn _ s
  · exact .refl s

theorem State.ActsTo.handFloat (i : Nat) (s : State) : s.ActsTo (s.handFloat i) := by
  unfold State.handFloat
  split
  · exact .emit _ s
  · exact .refl s

theorem State.ActsTo.foldl {α : Type} {f : State → α → State} (h : ∀ x a, State.ActsTo x (f x a)) (l : List α) (s : State) : s.ActsTo (l.foldl f s) := by
  induction l generalizing s with
  | nil => exact .refl s
  | cons a l ih => exact (h s a).trans (ih _)

/-! ### What the conditions see of a point -/

/-- The fields of a record that a condition's terms read (R39). -/
def PointDyn.bare : PointDyn → PointDyn
  | .lock d => .lock { confirmed := d.confirmed, fault := d.fault }
  | .axis d => .axis { p := d.p, zone := d.zone, fault := d.fault }

/-- The conditions see the same of a point in both states. -/
def State.SeesSame (s e : State) (p : Nat) : Prop := (tget e.pmn.points p).map PointDyn.bare = (tget s.pmn.points p).map PointDyn.bare

theorem State.SeesSame.of_eq {s e : State} {p : Nat} (h : tget e.pmn.points p = tget s.pmn.points p) : s.SeesSame e p := congrArg _ h

theorem State.SeesSame.of_pmn {s e : State} (h : e.pmn = s.pmn) (p : Nat) : s.SeesSame e p := .of_eq (by rw [h])

theorem termValue_congr {s e : State} {t : Term} (h : s.SeesSame e t.point) : e.termValue t = s.termValue t := by
  obtain ⟨q, req⟩ := t
  simp only [State.SeesSame] at h
  unfold State.termValue
  simp only
  cases he : tget e.pmn.points q with
  | none =>
    cases hs : tget s.pmn.points q with
    | none => rfl
    | some x => simp [he, hs] at h
  | some x =>
    cases hs : tget s.pmn.points q with
    | none => simp [he, hs] at h
    | some y =>
      rw [he, hs] at h
      cases x with
      | lock x =>
        cases y with
        | lock y =>
          simp only [PointDyn.bare, Option.map_some, Option.some.injEq, PointDyn.lock.injEq, LockDyn.mk.injEq] at h
          obtain ⟨hc, -, hf, -⟩ := h
          cases req <;> simp [hc, hf]
        | axis y => simp [PointDyn.bare] at h
      | axis x =>
        cases y with
        | lock y => simp [PointDyn.bare] at h
        | axis y =>
          simp only [PointDyn.bare, Option.map_some, Option.some.injEq, PointDyn.axis.injEq, AxisDyn.mk.injEq] at h
          obtain ⟨-, -, -, -, hp, hz, -, -, -, hf, -⟩ := h
          cases req <;> simp [hp, hz, hf]

/-- The value of a condition of the layout (R40). -/
theorem evalCond_layout (s : State) {i : Nat} (h : 8 ≤ i) :
    s.evalCond i = ((tget s.layout.conditions i).map (fun ts => Tri.all (ts.map s.termValue))).getD .unknown := by
  obtain ⟨k, rfl⟩ : ∃ k, i = k + 8 := ⟨i - 8, by omega⟩
  unfold State.evalCond
  simp only
  cases tget s.layout.conditions (k + 8) <;> rfl

theorem evalCond_congr {s e : State} (hl : e.layout = s.layout) {i : Nat} (h8 : 8 ≤ i)
    (h : ∀ ts, tget s.layout.conditions i = some ts → ∀ t ∈ ts, s.SeesSame e t.point) : e.evalCond i = s.evalCond i := by
  rw [evalCond_layout e h8, evalCond_layout s h8, hl]
  cases hts : tget s.layout.conditions i with
  | none => rfl
  | some ts =>
    have : ts.map e.termValue = ts.map s.termValue := List.map_congr_left fun t ht => termValue_congr (h ts hts t ht)
    simp [this]

theorem mem_condsNaming {l : Layout} {i p : Nat} {ts : List Term} (h : tget l.conditions i = some ts) (ht : ∃ t ∈ ts, t.point = p) :
    i ∈ Layout.condsNaming l p := by
  obtain ⟨t, ht, hp⟩ := ht
  refine List.mem_map.2 ⟨(i, ts), List.mem_filter.2 ⟨mem_of_tget h, ?_⟩, rfl⟩
  exact List.any_eq_true.2 ⟨t, ht, by simp [hp]⟩

/-- The conditions that name a point, and the closure state, are as the state gives them. -/
def State.CevCurrent (e : State) (p : Nat) : Prop :=
  e.cev.started = true → e.cev.conds.length = 32 →
    (∀ i ts, 8 ≤ i → i < 32 → tget e.layout.conditions i = some ts → (∃ t ∈ ts, t.point = p) → e.cond i = e.evalCond i) ∧
      e.cev.closure = e.closureNow

theorem closureNow_congr {s e : State} (hc : e.cev = s.cev) (hl : e.layout = s.layout) : e.closureNow = s.closureNow := by
  simp only [State.closureNow, hl, State.cond, hc]

theorem State.CevCurrent.congr {s e : State} {p : Nat} (h : s.CevCurrent p) (hc : e.cev = s.cev) (hl : e.lst = s.lst) (hp : ∀ q, s.SeesSame e q) :
    e.CevCurrent p := by
  intro hs hn
  rw [hc] at hs hn
  obtain ⟨h1, h2⟩ := h hs hn
  have hl := layout_of_lst hl
  refine ⟨fun i ts h8 hi ht hm => ?_, by rw [hc, h2, closureNow_congr hc hl]⟩
  rw [State.cond, hc, evalCond_congr hl h8 (fun _ _ t _ => hp t.point)]
  exact h1 i ts h8 hi (hl ▸ ht) hm

/-- The record of one point `q` handed to CEV: the conditions that named `p` and were current stay so. -/
theorem State.CevCurrent.handed {s m : State} {p q : Nat} (h : p = q ∨ s.CevCurrent p) (hc : m.cev = s.cev) (hl : m.lst = s.lst)
    (hp : ∀ k, k ≠ q → s.SeesSame m k) : (m.pointToCev q).CevCurrent p := by
  intro hs hn
  have hacts := State.ActsTo.pointToCev q m
  have hlay : (m.pointToCev q).layout = m.layout := layout_of_fixed hacts.fixed
  have hs' : m.cev.started = true := (started_of_fixed hacts.fixed).symm.trans hs
  have hn' : m.cev.conds.length = 32 := hacts.length.symm.trans hn
  have hsame : ∀ k, m.SeesSame (m.pointToCev q) k := State.SeesSame.of_pmn (recompute_pmn _ _)
  refine ⟨fun i ts h8 hi ht hm => ?_, closure_recompute hs' _⟩
  rw [hlay] at ht
  rw [evalCond_congr hlay h8 (fun _ _ t _ => hsame t.point), State.pointToCev, cond_recompute]
  split
  · rfl
  · rename_i hno
    have hno' : i ∉ Layout.condsNaming m.layout q := fun hi' => hno ⟨hs', hi', by omega⟩
    have hnot : ∀ t ∈ ts, t.point ≠ q := fun t htm hq => hno' (mem_condsNaming ht ⟨t, htm, hq⟩)
    rcases h with rfl | h
    · exact absurd hm (by rintro ⟨t, htm, hq⟩; exact hnot t htm hq)
    · obtain ⟨h1, -⟩ := h (hc ▸ hs') (hc ▸ hn')
      have hml := layout_of_lst hl
      rw [hml] at ht
      rw [State.cond, hc, evalCond_congr hml h8 (fun ts' hts' t htm => ?_)]
      · exact h1 i ts h8 hi ht hm
      · rw [ht] at hts'
        cases hts'
        exact hp _ (hnot t htm)

theorem pointToCev_current (p : Nat) (s : State) : (s.pointToCev p).CevCurrent p :=
  State.CevCurrent.handed (s := s) (.inl rfl) rfl rfl (fun _ _ => rfl)

theorem State.HandsOn.cevFollows {s e : State} {p : Nat} (h : s.HandsOn e) (hs : s.cev.started = true → e.cev.started = true) (hl : e.lst = s.lst)
    (hc : e.CevCurrent p) : s.CevFollows e p := by
  intro hst hn
  obtain ⟨h1, h2⟩ := hc (hs hst) (h.length.trans hn)
  exact ⟨fun i ts h8 hi ht hm => ⟨h1 i ts h8 hi (by rw [layout_of_lst hl]; exact ht) hm, h.handed i⟩, h2⟩

theorem State.ActsTo.cevFollows {s e : State} {p : Nat} (h : s.ActsTo e) (hc : e.CevCurrent p) : s.CevFollows e p :=
  h.toHandsOn.cevFollows (fun hs => (started_of_fixed h.fixed).trans hs) (lst_of_fixed h.fixed) hc

/-- What CEV follows it follows on while it and what it sees stand, however the reports grow. -/
theorem State.CevFollows.later {s e t : State} {p : Nat} (h : s.CevFollows e p) (hc : t.cev = e.cev) (hl : t.lst = e.lst) (hp : ∀ q, e.SeesSame t q)
    (ht : e.todo ⊆ t.todo) : s.CevFollows t p := by
  intro hs hn
  obtain ⟨h1, h2⟩ := h hs hn
  have hl := layout_of_lst hl
  have hcond (i : Nat) : t.cond i = e.cond i := by rw [State.cond, hc]; rfl
  refine ⟨fun i ts h8 hi hts hm => ?_, by rw [hc, h2, closureNow_congr hc hl]⟩
  obtain ⟨k1, k2⟩ := h1 i ts h8 hi hts hm
  rw [hcond, evalCond_congr hl h8 (fun _ _ t _ => hp t.point)]
  refine ⟨k1, fun hne => ?_⟩
  obtain ⟨cs, hcs, hmem⟩ := k2 hne
  exact ⟨cs, ht hcs, hmem⟩

theorem State.CevFollows.of_start {s r e : State} {p : Nat} (h : r.CevFollows e p) (hc : r.cev = s.cev) (hl : r.lst = s.lst) : s.CevFollows e p := by
  have hlay := layout_of_lst hl
  have hcond (i : Nat) : r.cond i = s.cond i := by rw [State.cond, hc]; rfl
  simpa only [State.CevFollows, hc, hlay, hcond] using h

/-! ### A fault report (R13) -/

@[simp] theorem pointToCev_pmn (i : Nat) (s : State) : (s.pointToCev i).pmn = s.pmn := recompute_pmn _ _

theorem setFault_fault_self {d : PointDyn} {c : FaultCode} (h : d.fault = some c) : d.setFault (some c) = d := by
  cases d <;> (simp only [PointDyn.fault] at h; simp only [PointDyn.setFault, ← h])

@[simp] theorem fault_setFault (d : PointDyn) (c : Option FaultCode) : (d.setFault c).fault = c := by cases d <;> rfl
@[simp] theorem reserved_setFault (d : PointDyn) (c : Option FaultCode) : (d.setFault c).reserved = d.reserved := by cases d <;> rfl

/-- A first fault report: the code is stored, then CEV, AEU's event and, at sea, AEU's alarm follow. -/
def State.newFault (i : Nat) (code : FaultCode) (d : PointDyn) (s : State) : State :=
  let s1 := (State.pointToCev i { s with pmn := { s.pmn with points := tput s.pmn.points i (d.setFault (some code)) } }).event (.pointFault i code)
  if s1.amu.mode == .sea then s1.raise .pointFault i else s1

theorem takeFault_absent {i : Nat} {s : State} (h : tget s.pmn.points i = none) (code : FaultCode) : s.takeFault i code = s := by
  simp [State.takeFault, h]

theorem takeFault_present {i : Nat} {s : State} {d : PointDyn} (h : tget s.pmn.points i = some d) (code : FaultCode) :
    s.takeFault i code =
      (if d.reserved.isSome then emit (.faulted i code d.fault.isNone) else id) (if d.fault.isNone then s.newFault i code d else s) := by
  simp only [State.takeFault, h]
  split <;> rfl

theorem State.ActsTo.newFault (i : Nat) (code : FaultCode) (d : PointDyn) (s : State) : s.ActsTo (s.newFault i code d) := by
  have h := ((State.ActsTo.pmn { s.pmn with points := tput s.pmn.points i (d.setFault (some code)) } s).trans (.pointToCev i _)).trans
    (.event (.pointFault i code) _)
  unfold State.newFault
  simp only
  split
  · exact h.trans (.raise _ _ _)
  · exact h

theorem newFault_pmn (i : Nat) (code : FaultCode) (d : PointDyn) (s : State) :
    (s.newFault i code d).pmn = { s.pmn with points := tput s.pmn.points i (d.setFault (some code)) } := by
  unfold State.newFault
  simp only
  split <;> simp

theorem newFault_cev (i : Nat) (code : FaultCode) (d : PointDyn) (s : State) : (s.newFault i code d).cev =
    (State.pointToCev i { s with pmn := { s.pmn with points := tput s.pmn.points i (d.setFault (some code)) } }).cev := by
  unfold State.newFault
  simp only
  split <;> rfl

theorem State.ActsTo.takeFault (i : Nat) (code : FaultCode) (s : State) : s.ActsTo (s.takeFault i code) := by
  cases h : tget s.pmn.points i with
  | none => rw [takeFault_absent h]; exact .refl s
  | some d =>
    have h1 : s.ActsTo (if d.fault.isNone then s.newFault i code d else s) := by
      split
      · exact .newFault i code d s
      · exact .refl s
    rw [takeFault_present h]
    split
    · exact h1.trans (.emit _ _)
    · exact h1

/-- The points after a fault report: the first code is kept. -/
theorem tget_takeFault (i : Nat) (code : FaultCode) (s : State) (q : Nat) : tget (s.takeFault i code).pmn.points q =
    if q = i then (tget s.pmn.points i).map (fun d => d.setFault (some (d.fault.getD code))) else tget s.pmn.points q := by
  cases h : tget s.pmn.points i with
  | none =>
    rw [takeFault_absent h]
    split
    · rename_i hq; rw [hq, h]; rfl
    · rfl
  | some d =>
    have hp : (s.takeFault i code).pmn = (if d.fault.isNone then s.newFault i code d else s).pmn := by
      rw [takeFault_present h]
      split <;> rfl
    rw [hp]
    cases hf : d.fault with
    | none =>
      simp only [Option.isNone_none, if_true, newFault_pmn, tget_tput, Option.map_some, hf, Option.getD_none]
      split
      · rename_i hq; rw [if_pos hq.symm]
      · rename_i hq; rw [if_neg (Ne.symm hq)]
    | some c =>
      simp only [Option.isNone_some, Bool.false_eq_true, if_false, Option.map_some, hf, Option.getD_some, setFault_fault_self hf]
      split
      · rename_i hq; rw [hq, h]
      · rfl

theorem State.ActsTo.recordFault (i : Nat) (code : FaultCode) (s : State) : s.ActsTo (s.recordFault i code) := by
  unfold State.recordFault
  simp only
  split
  · exact .takeFault i code s
  · exact (State.ActsTo.takeFault i code s).trans (.handFloat _ _)

@[simp] theorem handFloat_pmn (i : Nat) (s : State) : (s.handFloat i).pmn = s.pmn := by unfold State.handFloat; split <;> rfl
@[simp] theorem handFloat_aeu (i : Nat) (s : State) : (s.handFloat i).aeu = s.aeu := by unfold State.handFloat; split <;> rfl
@[simp] theorem handFloat_cev (i : Nat) (s : State) : (s.handFloat i).cev = s.cev := by unfold State.handFloat; split <;> rfl
@[simp] theorem handFloat_lst (i : Nat) (s : State) : (s.handFloat i).lst = s.lst := by unfold State.handFloat; split <;> rfl

theorem todo_handFloat (i : Nat) (s : State) : s.todo <+: (s.handFloat i).todo := (State.ActsTo.handFloat i s).todo

/-- A recorded fault is a taken one, handed on for a floating axis. -/
theorem recordFault_takeFault (i : Nat) (code : FaultCode) (s : State) :
    (s.recordFault i code).pmn = (s.takeFault i code).pmn ∧ (s.recordFault i code).aeu = (s.takeFault i code).aeu ∧
      (s.recordFault i code).cev = (s.takeFault i code).cev ∧ (s.recordFault i code).lst = (s.takeFault i code).lst ∧
      (s.takeFault i code).todo <+: (s.recordFault i code).todo := by
  unfold State.recordFault
  simp only
  split
  · exact ⟨rfl, rfl, rfl, rfl, List.prefix_refl _⟩
  · exact ⟨handFloat_pmn _ _, handFloat_aeu _ _, handFloat_cev _ _, handFloat_lst _ _, todo_handFloat _ _⟩

theorem recordFault_pmn (i : Nat) (code : FaultCode) (s : State) : (s.recordFault i code).pmn = (s.takeFault i code).pmn := by
  obtain ⟨h, -⟩ := recordFault_takeFault i code s
  exact h

theorem recordFault_aeu (i : Nat) (code : FaultCode) (s : State) : (s.recordFault i code).aeu = (s.takeFault i code).aeu := by
  obtain ⟨-, h, -⟩ := recordFault_takeFault i code s
  exact h

theorem recordFault_todo (i : Nat) (code : FaultCode) (s : State) : (s.takeFault i code).todo <+: (s.recordFault i code).todo := by
  obtain ⟨-, -, -, -, h⟩ := recordFault_takeFault i code s
  exact h

theorem tget_recordFault (i : Nat) (code : FaultCode) (s : State) (q : Nat) : tget (s.recordFault i code).pmn.points q =
    if q = i then (tget s.pmn.points i).map (fun d => d.setFault (some (d.fault.getD code))) else tget s.pmn.points q := by
  rw [(recordFault_pmn i code s), tget_takeFault]

theorem faultOf_takeFault (i : Nat) (code : FaultCode) (s : State) (q : Nat) : (s.takeFault i code).faultOf q =
    if q = i ∧ (tget s.pmn.points i).isSome then some ((s.faultOf i).getD code) else s.faultOf q := by
  rw [State.faultOf, tget_takeFault]
  by_cases hq : q = i
  · subst hq
    cases h : tget s.pmn.points q <;> simp [State.faultOf, h]
  · simp [hq, State.faultOf]

theorem faultOf_recordFault (i : Nat) (code : FaultCode) (s : State) (q : Nat) : (s.recordFault i code).faultOf q =
    if q = i ∧ (tget s.pmn.points i).isSome then some ((s.faultOf i).getD code) else s.faultOf q := by
  rw [State.faultOf, (recordFault_pmn i code s)]
  exact faultOf_takeFault i code s q

@[simp] theorem reservedBy_takeFault (i : Nat) (code : FaultCode) (s : State) (q : Nat) : (s.takeFault i code).reservedBy q = s.reservedBy q := by
  rw [State.reservedBy, tget_takeFault]
  by_cases hq : q = i
  · subst hq
    cases h : tget s.pmn.points q <;> simp [State.reservedBy, h]
  · simp [hq, State.reservedBy]

@[simp] theorem reservedBy_recordFault (i : Nat) (code : FaultCode) (s : State) (q : Nat) : (s.recordFault i code).reservedBy q = s.reservedBy q := by
  rw [State.reservedBy, (recordFault_pmn i code s)]
  exact reservedBy_takeFault i code s q

/-- The unit of a reserving motion is told of a fault report. -/
theorem told_takeFault {i : Nat} {s : State} (h : (s.reservedBy i).isSome) (code : FaultCode) :
    Task.faulted i code (s.faultOf i).isNone ∈ (s.takeFault i code).todo := by
  cases hd : tget s.pmn.points i with
  | none => simp [State.reservedBy, hd] at h
  | some d =>
    have hr : d.reserved.isSome := by simpa [State.reservedBy, hd] using h
    have hf : s.faultOf i = d.fault := by simp [State.faultOf, hd]
    rw [takeFault_present hd, if_pos hr, hf]
    exact List.mem_append_right _ (List.mem_singleton_self _)

theorem told_recordFault {i : Nat} {s : State} (h : (s.reservedBy i).isSome) (code : FaultCode) :
    Task.faulted i code (s.faultOf i).isNone ∈ (s.recordFault i code).todo :=
  (recordFault_todo i code s).subset (told_takeFault h code)

/-- What lasts through AEU's acts lasts through a fault report. -/
theorem Aeu.Lasting.takeFault {s : State} {P : Aeu → Prop} (h : Aeu.Lasting (s.amu.mode = .sea) P) (hp : P s.aeu) (i : Nat) (code : FaultCode) :
    P (s.takeFault i code).aeu := by
  cases hd : tget s.pmn.points i with
  | none => rw [takeFault_absent hd]; exact hp
  | some d =>
    have hnew : P (if d.fault.isNone then s.newFault i code d else s).aeu := by
      split
      · let m : State := { s with pmn := { s.pmn with points := tput s.pmn.points i (d.setFault (some code)) } }
        have hm : P (m.pointToCev i).aeu := Aeu.Lasting.recompute (s := m) h hp _
        have he : P ((m.pointToCev i).event (.pointFault i code)).aeu := h.remake (h.record hm _)
        have hmode : (m.pointToCev i).amu = m.amu := amu_of_fixed (State.ActsTo.pointToCev i m).fixed
        unfold State.newFault
        simp only
        split
        · rename_i hsea
          exact h.remake (h.raise _ _ _ (by rw [← hmode]; exact eq_of_beq hsea) he)
        · exact he
      · exact hp
    rw [takeFault_present hd]
    split <;> exact hnew

theorem Aeu.Lasting.recordFault {s : State} {P : Aeu → Prop} (h : Aeu.Lasting (s.amu.mode = .sea) P) (hp : P s.aeu) (i : Nat) (code : FaultCode) :
    P (s.recordFault i code).aeu := by
  rw [(recordFault_aeu i code s)]
  exact h.takeFault hp i code

/-- The newest record stays through one more. -/
theorem Aeu.mem_record_of_newest {a : Aeu} {e : Event} (h : a.newest = some e) (f : Event) : ∃ r ∈ (a.record f).events, r.event = e := by
  obtain ⟨r, hr, hre⟩ := Option.map_eq_some_iff.1 h
  obtain ⟨ys, hys⟩ := List.getLast?_eq_some_iff.1 hr
  have hlen : (ys ++ [r] ++ [{ serial := a.nextSerial, stamp := a.stamp, event := f }] : List EventRec).length - Config.eventMax ≤ ys.length := by
    simp only [List.length_append, List.length_singleton, Config.eventMax]; omega
  refine ⟨r, ?_, hre⟩
  rw [Aeu.record_events, newestRecords, hys, List.append_assoc, List.drop_append_of_le_length (List.append_assoc .. ▸ hlen)]
  exact List.mem_append_right _ (List.mem_append_left _ (List.mem_singleton_self _))

theorem Aeu.newest_remake (a : Aeu) : a.remake.newest = a.newest := rfl

theorem Aeu.mem_of_newest {a : Aeu} {e : Event} (h : a.newest = some e) : ∃ r ∈ a.events, r.event = e := by
  obtain ⟨r, hr, hre⟩ := Option.map_eq_some_iff.1 h
  exact ⟨r, List.mem_of_getLast? hr, hre⟩

theorem Aeu.mem_raise_of_newest {a : Aeu} {e : Event} (h : a.newest = some e) (k : AlarmKind) (i : Nat) : ∃ r ∈ (a.raise k i).events, r.event = e := by
  rcases Aeu.raise_cases a k i with ⟨hr, -⟩ | ⟨b, d, hr, hb, -⟩
  · exact hr.symm ▸ Aeu.mem_of_newest h
  · rw [hr]
    exact Aeu.mem_record_of_newest (by rw [Aeu.newest, hb]; exact h) _

/-- What a first fault report tells CEV and AEU. -/
theorem newFault_reported (i : Nat) (code : FaultCode) (d : PointDyn) (s : State) :
    (s.newFault i code d).CevCurrent i ∧ (∃ r ∈ (s.newFault i code d).aeu.events, r.event = .pointFault i code) ∧
      (s.amu.mode = .sea → (s.newFault i code d).aeu.StandsMaybeAcked .pointFault i ∧
        (s.aeu.NotAcked .pointFault i → (s.newFault i code d).aeu.Stands .pointFault i)) := by
  let m : State := { s with pmn := { s.pmn with points := tput s.pmn.points i (d.setFault (some code)) } }
  have hmode : (m.pointToCev i).amu = s.amu := (amu_of_fixed (State.ActsTo.pointToCev i m).fixed)
  have hnew : ((m.pointToCev i).aeu.record (.pointFault i code)).remake.newest = some (.pointFault i code) :=
    by rw [Aeu.newest_remake, Aeu.record_newest]
  refine ⟨?_, ?_, fun hsea => ?_⟩
  · refine (pointToCev_current i m).congr (newFault_cev i code d s) ?_ (State.SeesSame.of_pmn ?_)
    · rw [(lst_of_fixed (State.ActsTo.newFault i code d s).fixed), (lst_of_fixed (State.ActsTo.pointToCev i m).fixed)]
    · rw [newFault_pmn, pointToCev_pmn]
  · unfold State.newFault
    simp only
    split
    · exact Aeu.mem_raise_of_newest hnew _ _
    · exact Aeu.mem_of_newest hnew
  · have he : s.newFault i code d = ((m.pointToCev i).event (.pointFault i code)).raise .pointFault i := by
      unfold State.newFault
      simp only
      rw [if_pos (by rw [event_amu]; simpa [m] using (congrArg Amu.mode hmode).trans hsea)]
    rw [he]
    refine ⟨Aeu.raise_standsMaybeAcked _ _ _, fun hna => Aeu.raise_stands ?_⟩
    have hl := Aeu.notAcked_lasting (m.amu.mode = .sea) .pointFault i
    have hm : (m.pointToCev i).aeu.NotAcked .pointFault i := hl.recompute (s := m) hna _
    exact hl.remake (hl.record hm _)

/-- A report of a fault of a present point, be it the first or not (R13). -/
theorem takeFault_newFault {i : Nat} {s : State} (hp : (tget s.pmn.points i).isSome) (hf : s.faultOf i = none) (code : FaultCode) :
    ∃ d, (s.takeFault i code).cev = (s.newFault i code d).cev ∧ (s.takeFault i code).aeu = (s.newFault i code d).aeu ∧
      (s.takeFault i code).pmn = (s.newFault i code d).pmn ∧ (s.takeFault i code).lst = (s.newFault i code d).lst := by
  obtain ⟨d, hd⟩ := Option.isSome_iff_exists.1 hp
  have hn : d.fault.isNone := by simpa [State.faultOf, hd] using hf
  refine ⟨d, ?_⟩
  rw [takeFault_present hd, if_pos hn]
  split <;> exact ⟨rfl, rfl, rfl, rfl⟩

theorem recordFault_newFault {i : Nat} {s : State} (hp : (tget s.pmn.points i).isSome) (hf : s.faultOf i = none) (code : FaultCode) :
    (s.recordFault i code).CevCurrent i ∧ (∃ r ∈ (s.recordFault i code).aeu.events, r.event = .pointFault i code) ∧
      (s.amu.mode = .sea → (s.recordFault i code).aeu.StandsMaybeAcked .pointFault i ∧
        (s.aeu.NotAcked .pointFault i → (s.recordFault i code).aeu.Stands .pointFault i)) := by
  obtain ⟨d, hc, ha, hp, hl⟩ := takeFault_newFault hp hf code
  obtain ⟨kp, ka, kc, kl, -⟩ := recordFault_takeFault i code s
  obtain ⟨h1, h2⟩ := newFault_reported i code d s
  rw [ka, ha]
  exact ⟨h1.congr (kc.trans hc) (kl.trans hl) (State.SeesSame.of_pmn (kp.trans hp)), h2⟩

/-- A fault recorded on a present point has every effect of R13. -/
theorem recordFault_recorded {p : Nat} {s : State} (h : (tget s.pmn.points p).isSome) (code : FaultCode) : s.FaultRecorded (s.recordFault p code) p code where
  kept := by rw [faultOf_recordFault, if_pos ⟨rfl, h⟩]
  alone q hq := by rw [faultOf_recordFault, if_neg (by simp [hq])]
  event hf := (recordFault_newFault h hf code).2.1
  told hr := told_recordFault hr code
  cev hf := (State.ActsTo.recordFault p code s).cevFollows (recordFault_newFault h hf code).1
  atSea hs hf := ((recordFault_newFault h hf code).2.2 hs).1.raised
  others q hq := by rw [tget_recordFault, if_neg hq]

/-- The same report told of a start that PMN, CEV and AMU see alike. -/
theorem State.FaultReported.of_start {s r e : State} {p : Nat} {code : FaultCode} (h : r.FaultReported e p code) (hf : ∀ q, r.faultOf q = s.faultOf q)
    (hr : r.reservedBy p = s.reservedBy p) (hc : r.cev = s.cev) (hl : r.lst = s.lst) (ha : r.amu = s.amu) : s.FaultReported e p code where
  kept := by rw [h.kept, hf]
  alone q hq := by rw [h.alone q hq, hf]
  event hn := h.event ((hf p).trans hn)
  told hs := by rw [← hf p]; exact h.told (hr ▸ hs)
  cev hn := (h.cev ((hf p).trans hn)).of_start hc hl
  atSea hs hn := h.atSea (ha ▸ hs) ((hf p).trans hn)

/-- A report stands through acts that leave CEV, AEU and the faults. -/
theorem State.FaultReported.later {s e t : State} {p : Nat} {code : FaultCode} (h : s.FaultReported e p code) (hf : ∀ q, t.faultOf q = e.faultOf q)
    (hc : t.cev = e.cev) (hl : t.lst = e.lst) (hp : ∀ q, e.SeesSame t q) (ha : t.aeu = e.aeu) (ht : e.todo ⊆ t.todo) : s.FaultReported t p code where
  kept := by rw [hf, h.kept]
  alone q hq := by rw [hf, h.alone q hq]
  event hn := by rw [ha]; exact h.event hn
  told hs := ht (h.told hs)
  cev hn := (h.cev hn).later hc hl hp ht
  atSea hs hn := by rw [ha]; exact h.atSea hs hn

theorem State.FaultRecorded.of_start {s r e : State} {p : Nat} {code : FaultCode} (h : r.FaultRecorded e p code) (hf : ∀ q, r.faultOf q = s.faultOf q)
    (ho : ∀ q, q ≠ p → tget r.pmn.points q = tget s.pmn.points q) (hr : r.reservedBy p = s.reservedBy p) (hc : r.cev = s.cev) (hl : r.lst = s.lst)
    (ha : r.amu = s.amu) : s.FaultRecorded e p code :=
  ⟨h.toFaultReported.of_start hf hr hc hl ha, fun q hq => (h.others q hq).trans (ho q hq)⟩

theorem State.FaultRecorded.of_start_pmn {s r e : State} {p : Nat} {code : FaultCode} (h : r.FaultRecorded e p code) (hp : r.pmn = s.pmn)
    (hc : r.cev = s.cev) (hl : r.lst = s.lst) (ha : r.amu = s.amu) : s.FaultRecorded e p code :=
  h.of_start (fun q => by simp [State.faultOf, hp]) (fun q _ => by rw [hp]) (by simp [State.reservedBy, hp]) hc hl ha

end Sys2Proof.Machine
end

section
namespace Sys2Proof.Machine

/-! ### Commands that are not records -/

theorem exec_act {s : State} (h : s.Ready) (f : State → State) : (.next (s.act f) : Host.Outcome State Fault Refusal) = .next (finish (f s)) := by
  rw [act_of_not_held h.1]

theorem exec_act_same {s : State} (h : s.Ready) {f : State → State} (hf : f s = s) : (.next (s.act f) : Host.Outcome State Fault Refusal) = .next s := by
  rw [act_same h hf]

theorem fixed_finish_of {s e : State} (h : e.fixed = s.fixed) : (finish e).fixed = s.fixed := (fixed_finish e).trans h

/-! ### The conflict timer (R26) -/

theorem lock?_iff {s : State} {i : Nat} {y : LockDyn} : s.lock? i = some y ↔ tget s.pmn.points i = some (.lock y) := by
  unfold State.lock?
  split <;> simp_all

theorem axis?_iff {s : State} {i : Nat} {y : AxisDyn} : s.axis? i = some y ↔ tget s.pmn.points i = some (.axis y) := by
  unfold State.axis?
  split <;> simp_all

theorem modLock_present {s : State} {i : Nat} {y : LockDyn} (h : s.lock? i = some y) (f : LockDyn → LockDyn) :
    s.modLock i f = { s with pmn := { s.pmn with points := tput s.pmn.points i (.lock (f y)) } } := by
  simp [State.modLock, h]

theorem modAxis_present {s : State} {i : Nat} {y : AxisDyn} (h : s.axis? i = some y) (f : AxisDyn → AxisDyn) :
    s.modAxis i f = { s with pmn := { s.pmn with points := tput s.pmn.points i (.axis (f y)) } } := by
  simp [State.modAxis, h]

theorem conflictOut_stopped {s : State} {p : Nat} (h : ∀ y, s.lock? p = some y → y.conflict = none) : s.conflictOut p = s := by
  unfold State.conflictOut
  split
  · rename_i y hy
    simp [h y hy]
  · rfl

theorem conflictOut_running {s : State} {p : Nat} {y : LockDyn} (h : s.lock? p = some y) (hc : y.conflict ≠ none) :
    s.conflictOut p = (s.modLock p (fun x => { x with conflict := none })).recordFault p .sensorConflict := by
  have : y.conflict.isSome = true := Option.isSome_iff_ne_none.2 hc
  simp [State.conflictOut, h, this]

/-- An expiry of a running conflict timer (R13, R26). -/
theorem conflictOut_recorded {s : State} {p : Nat} {y : LockDyn} (h : s.lock? p = some y) (hc : y.conflict ≠ none) :
    (s.conflictOut p).lock? p = some { y with conflict := none, fault := some (y.fault.getD .sensorConflict) } ∧
      s.FaultRecorded (s.conflictOut p) p .sensorConflict ∧ s.ActsTo (s.conflictOut p) := by
  have hy := lock?_iff.1 h
  have hm := modLock_present h (fun x => { x with conflict := none })
  have hget : ∀ q, tget (s.modLock p (fun x => { x with conflict := none })).pmn.points q =
      if p = q then some (.lock { y with conflict := none }) else tget s.pmn.points q := fun q => by rw [hm]; exact tget_tput _ _ _ _
  have hself : tget (s.modLock p (fun x => { x with conflict := none })).pmn.points p = some (.lock { y with conflict := none }) := by
    rw [hget, if_pos rfl]
  rw [conflictOut_running h hc]
  refine ⟨?_, ?_, (State.ActsTo.modLock _ _ _).trans (.recordFault _ _ _)⟩
  · rw [lock?_iff, tget_recordFault, if_pos rfl, hself]
    rfl
  · have hf : ∀ q, (s.modLock p (fun x => { x with conflict := none })).faultOf q = s.faultOf q := fun q => by
      rw [State.faultOf, State.faultOf, hget]
      split
      · rename_i hq; rw [← hq, hy]; rfl
      · rfl
    refine (recordFault_recorded (by rw [hself]; rfl) _).of_start hf (fun q hq => by rw [hget, if_neg hq.symm]) ?_ ?_ ?_ ?_
    · rw [State.reservedBy, State.reservedBy, hself, hy]; rfl
    all_goals rw [hm]

/-! ### The staleness timer (R43) -/

theorem staleOut_stopped {s : State} (h : s.cev.staleness = none) : s.staleOut = s := by simp [State.staleOut, h]

/-- The vessel data are stale. -/
def State.stale (s : State) : State := { s with cev := { s.cev with freshness := .stale, staleness := none } }

theorem staleOut_running {s : State} (h : s.cev.staleness ≠ none) : s.staleOut = (s.stale.recompute [1, 2]).raise .vesselDataLost 0 := by
  have : s.cev.staleness.isSome = true := Option.isSome_iff_ne_none.2 h
  simp [State.staleOut, this, State.stale]

/-- Stale data leave ATTITUDE_OK and WIND_OK UNKNOWN, and every other condition as it was (R43). -/
theorem cond_staleOut {s : State} (h : s.cev.staleness ≠ none) (i : Nat) :
    s.staleOut.cond i = if s.cev.started = true ∧ i ∈ [1, 2] ∧ i < s.cev.conds.length then .unknown else s.cond i := by
  rw [staleOut_running h]
  refine (cond_recompute [1, 2] s.stale i).trans ?_
  change (if s.cev.started = true ∧ i ∈ [1, 2] ∧ i < s.cev.conds.length then s.stale.evalCond i else s.stale.cond i) = _
  by_cases hc : s.cev.started = true ∧ i ∈ [1, 2] ∧ i < s.cev.conds.length
  · rw [if_pos hc, if_pos hc]
    obtain rfl | rfl : i = 1 ∨ i = 2 := by simpa using hc.2.1
    · rfl
    · rfl
  · rw [if_neg hc, if_neg hc]
    rfl

/-- Settles O38. -/
theorem conflictAndStalenessExpire : Obligations.ConflictAndStalenessExpire := by
  refine ⟨fun p s hr => ⟨fun h => exec_act_same hr (conflictOut_stopped h), fun y hy hc => ?_⟩, fun s hr => ⟨fun h => exec_act_same hr (staleOut_stopped h), fun h => ?_⟩⟩
  · obtain ⟨hlock, hfault, hacts⟩ := conflictOut_recorded hy hc
    obtain ⟨h1, h2, h3, h4, h5, h6, -⟩ := State.units_eq hacts.units
    exact ⟨_, exec_act hr _, hlock, hfault, fixed_finish_of hacts.fixed, h1, h2, h3, h4, h5, h6⟩
  · have hu : s.staleOut.units = s.units := by rw [staleOut_running h, units_raise, units_recompute]; rfl
    obtain ⟨h1, h2, h3, h4, -⟩ := State.units_eq hu
    refine ⟨_, exec_act hr _, ?_, fun hs hn => ⟨?_, ?_⟩, fun i h1 h2 => ?_, ?_, ?_, h1, h2, h3, h4⟩
    · rw [fixed_finish, staleOut_running h, fixed_raise, fixed_recompute]
      rfl
    · rw [cond_staleOut h, if_pos ⟨hs, by simp, by omega⟩]
    · rw [cond_staleOut h, if_pos ⟨hs, by simp, by omega⟩]
    · rw [cond_staleOut h, if_neg (by simp [h1, h2])]
    · rw [staleOut_running h]
      exact (Aeu.raise_standsMaybeAcked _ .vesselDataLost 0).raised
    · rw [staleOut_running h, raise_pmn, recompute_pmn]
      rfl

end Sys2Proof.Machine
end

section
namespace Sys2Proof.Machine

/-! ### Latched outputs (R144, R148) -/

theorem lmod_eq_modify {α : Type} (l : List α) (i : Nat) (f : α → α) : lmod l i f = l.modify i f := by
  refine List.ext_getElem? fun j => ?_
  rw [getElem?_lmod, List.getElem?_modify]
  split <;> simp

/-- A change of OST outside what no report touches. -/
theorem modOst_recordFault {s : State} {f : Ost → Ost} (hf : (s.modOst f).fixed = s.fixed) (p : Nat) (code : FaultCode) :
    ((s.modOst f).recordFault p code).fixed = s.fixed ∧ ((s.modOst f).recordFault p code).units = (s.modOst f).units ∧
      ((tget s.pmn.points p).isSome → s.FaultRecorded ((s.modOst f).recordFault p code) p code) :=
  ⟨(State.ActsTo.recordFault p code _).fixed.trans hf, (State.ActsTo.recordFault p code _).units,
    fun hp => (recordFault_recorded (s := s.modOst f) hp code).of_start_pmn rfl rfl rfl rfl⟩

theorem coilLatch_unsupervised {s : State} {out : Nat} (h : s.supervised out .on = none) (f : CoilState) : s.coilLatch out f = s := by
  simp [State.coilLatch, h]

theorem coilLatch_supervised {s : State} {out p : Nat} (h : s.supervised out .on = some p) (f : CoilState) : s.coilLatch out f =
    (s.modOst (fun o => { o with coils := lmod o.coils out (fun c => { c with state := f }) })).recordFault p .coilFault := by
  simp [State.coilLatch, h]

theorem propLatch_inactive {s : State} {out : Nat} (h : ∀ q, s.ost.props[out]? = some q → q.state ≠ .active) (f : PropState) : s.propLatch out f = s := by
  unfold State.propLatch
  split
  · rename_i q hq
    simp [h q hq]
  · rfl

/-- The state with a proportional output latched. -/
def State.latchProp (out : Nat) (f : PropState) (s : State) : State :=
  s.modOst (fun o => { o with props := lmod o.props out (fun q => { q with state := f, command := 0 }) })

theorem propLatch_active {s : State} {out : Nat} {q : PropOut} (h : s.ost.props[out]? = some q) (ha : q.state = .active) (f : PropState) :
    (∀ a, q.owner = some a → s.propLatch out f = (s.latchProp out f).recordFault a .coilFault) ∧ (q.owner = none → s.propLatch out f = s.latchProp out f) := by
  constructor
  · intro a ho
    simp [State.propLatch, h, ha, ho, State.latchProp]
  · intro ho
    simp [State.propLatch, h, ha, ho, State.latchProp]

/-- COIL_FAULT_OPEN and COIL_FAULT_SHORT. -/
theorem coilLatch_effect {s : State} {out p : Nat} (h : s.supervised out .on = some p) (f : CoilState) (hr : s.Ready) :
    ∃ e : State, (.next (s.act (State.coilLatch out f)) : Host.Outcome State Fault Refusal) = .next (finish e) ∧
      e.ost.coils = s.ost.coils.modify out (fun k => { k with state := f }) ∧
      ((tget s.pmn.points p).isSome → s.FaultRecorded e p .coilFault) ∧
      e.ost.props = s.ost.props ∧ e.ost.contactors = s.ost.contactors ∧ (finish e).fixed = s.fixed ∧
      e.hpa = s.hpa ∧ e.ldu = s.ldu ∧ e.adu = s.adu ∧ e.osq = s.osq := by
  refine ⟨_, exec_act hr _, ?_⟩
  rw [coilLatch_supervised h]
  obtain ⟨hfix, hunits, hrec⟩ := modOst_recordFault (s := s) (f := fun o => { o with coils := lmod o.coils out (fun c => { c with state := f }) }) rfl p .coilFault
  obtain ⟨h1, h2, h3, h4, h5, h6, h7⟩ := State.units_eq hunits
  exact ⟨h5.trans (lmod_eq_modify _ _ _), hrec, h6, h7, fixed_finish_of hfix, h1, h2, h3, h4⟩

/-- PROP_FAULT_OPEN and PROP_FAULT_SHORT on an ACTIVE output. -/
theorem propLatch_effect {s : State} {out : Nat} {q : PropOut} (h : s.ost.props[out]? = some q) (ha : q.state = .active) (f : PropState) :
    let e := s.propLatch out f
    e.ost.props = s.ost.props.modify out (fun k => { k with state := f, command := 0 }) ∧
      (∀ a, q.owner = some a → (tget s.pmn.points a).isSome → s.FaultRecorded e a .coilFault) ∧ (q.owner = none → e.aeu = s.aeu ∧ e.pmn = s.pmn) ∧
      e.ost.coils = s.ost.coils ∧ e.ost.contactors = s.ost.contactors ∧ (finish e).fixed = s.fixed ∧
      e.hpa = s.hpa ∧ e.ldu = s.ldu ∧ e.adu = s.adu ∧ e.osq = s.osq := by
  intro e
  obtain ⟨howned, hfree⟩ := propLatch_active h ha f
  cases ho : q.owner with
  | none =>
    have he : e = s.latchProp out f := hfree ho
    rw [he]
    exact ⟨lmod_eq_modify _ _ _, by simp, fun _ => ⟨rfl, rfl⟩, rfl, rfl, fixed_finish_of rfl, rfl, rfl, rfl, rfl⟩
  | some a =>
    have he : e = (s.latchProp out f).recordFault a .coilFault := howned a ho
    obtain ⟨hfix, hunits, hrec⟩ := modOst_recordFault (s := s)
      (f := fun o => { o with props := lmod o.props out (fun q => { q with state := f, command := 0 }) }) rfl a .coilFault
    obtain ⟨h1, h2, h3, h4, h5, h6, h7⟩ := State.units_eq hunits
    rw [he]
    refine ⟨h6.trans (lmod_eq_modify _ _ _), fun b hb => ?_, by simp, h5, h7, fixed_finish_of hfix, h1, h2, h3, h4⟩
    cases hb
    exact hrec

theorem propOpen_of_low {s : State} {out : Nat} (h : ∀ q, s.ost.props[out]? = some q → q.state = .active → q.command < 50) : s.propOpen out = s := by
  unfold State.propOpen
  split
  · rename_i hc
    refine propLatch_inactive (fun q hq ha => ?_) _
    have hlt := h q hq ha
    simp [hq, Config.propOpenFloor] at hc
    omega
  · rfl

theorem propOpen_of_high {s : State} {out : Nat} {q : PropOut} (h : s.ost.props[out]? = some q) (hc : 50 ≤ q.command) :
    s.propOpen out = s.propLatch out .faultOpen := by
  simp [State.propOpen, h, Config.propOpenFloor, hc]

/-- Settles O33. -/
theorem outputFaultsLatch : Obligations.OutputFaultsLatch := by
  refine ⟨fun c f out s hr hc => ?_, fun c f out s hr hc => ?_⟩
  · rcases hc with ⟨rfl, rfl⟩ | ⟨rfl, rfl⟩
    · exact ⟨fun h => exec_act_same hr (coilLatch_unsupervised h _), fun p hp => coilLatch_effect hp _ hr⟩
    · exact ⟨fun h => exec_act_same hr (coilLatch_unsupervised h _), fun p hp => coilLatch_effect hp _ hr⟩
  · rcases hc with ⟨rfl, rfl⟩ | ⟨rfl, rfl⟩
    · refine ⟨fun h => exec_act_same hr (propOpen_of_low fun q hq ha => (h q hq ha).2), fun q hq ha hcmd => ⟨_, exec_act hr _, ?_⟩⟩
      rw [propOpen_of_high hq (hcmd.resolve_left (by simp))]
      exact propLatch_effect hq ha _
    · refine ⟨fun h => exec_act_same hr (propLatch_inactive (fun q hq ha => ?_) _), fun q hq ha _ => ⟨_, exec_act hr _, propLatch_effect hq ha _⟩⟩
      simpa using (h q hq ha).1

end Sys2Proof.Machine
end

section
namespace Sys2Proof.Machine

/-! ### Fault reports one after another -/

/-- The fault that several reports leave: the first code is kept (R13). -/
def FaultCode.firstOf (f : Option FaultCode) (codes : List FaultCode) : Option FaultCode := f.or codes.head?

theorem FaultCode.firstOf_cons (f : Option FaultCode) (c : FaultCode) (codes : List FaultCode) :
    FaultCode.firstOf (some (f.getD c)) codes = FaultCode.firstOf f (c :: codes) := by
  cases f <;> simp [FaultCode.firstOf]

/-- Faults reported for one point in turn. -/
def State.takeFaults (i : Nat) (codes : List FaultCode) (s : State) : State := codes.foldl (fun x c => x.takeFault i c) s

theorem State.takeFaults_cons (i : Nat) (c : FaultCode) (codes : List FaultCode) (s : State) :
    s.takeFaults i (c :: codes) = (s.takeFault i c).takeFaults i codes := rfl

theorem takeFaults_append (i : Nat) (xs ys : List FaultCode) (s : State) : s.takeFaults i (xs ++ ys) = (s.takeFaults i xs).takeFaults i ys := List.foldl_append

theorem takeFaults_ite (i : Nat) (c : FaultCode) (b : Prop) [Decidable b] (s : State) :
    s.takeFaults i (if b then [c] else []) = if b then s.takeFault i c else s := by
  split <;> rfl

theorem State.ActsTo.takeFaults (i : Nat) (codes : List FaultCode) (s : State) : s.ActsTo (s.takeFaults i codes) :=
  .foldl (fun x c => .takeFault i c x) codes s

theorem tget_takeFaults (i : Nat) (codes : List FaultCode) (s : State) (q : Nat) : tget (s.takeFaults i codes).pmn.points q =
    if q = i then (tget s.pmn.points i).map (fun d => d.setFault (FaultCode.firstOf d.fault codes)) else tget s.pmn.points q := by
  induction codes generalizing s with
  | nil =>
    show tget s.pmn.points q = _
    split
    · rename_i hq
      subst hq
      cases h : tget s.pmn.points q with
      | none => rfl
      | some d => cases d <;> simp [FaultCode.firstOf, PointDyn.fault, PointDyn.setFault]
    · rfl
  | cons c codes ih =>
    rw [State.takeFaults_cons, ih, tget_takeFault, tget_takeFault, if_pos rfl]
    split
    · cases h : tget s.pmn.points i with
      | none => rfl
      | some d =>
        simp only [Option.map_some, fault_setFault, FaultCode.firstOf_cons]
        cases d <;> rfl
    · rfl

theorem told_takeFaults {i : Nat} {s : State} (h : (s.reservedBy i).isSome) {codes : List FaultCode} {c : FaultCode} (hc : c ∈ codes) :
    ∃ f, Task.faulted i c f ∈ (s.takeFaults i codes).todo := by
  induction codes generalizing s with
  | nil => simp at hc
  | cons x codes ih =>
    rw [State.takeFaults_cons]
    rcases List.mem_cons.1 hc with rfl | hc
    · exact ⟨_, (State.ActsTo.takeFaults i codes _).todo.subset (told_takeFault h c)⟩
    · exact ih (by rw [reservedBy_takeFault]; exact h) hc

theorem Aeu.Lasting.takeFaults {s : State} {P : Aeu → Prop} (h : Aeu.Lasting (s.amu.mode = .sea) P) (hp : P s.aeu) (i : Nat) (codes : List FaultCode) :
    P (s.takeFaults i codes).aeu := by
  induction codes generalizing s with
  | nil => exact hp
  | cons c codes ih => exact ih (by rw [(amu_of_fixed (State.ActsTo.takeFault i c s).fixed)]; exact h) (h.takeFault hp i c)

/-! ### The recompute of an axis (R34) -/

/-- The faults that a recompute finds, in the order in which they are reported (R34). -/
def State.axisFound (s : State) (d : AxisDef) (y : AxisDyn) : List FaultCode :=
  (if s.allChannelsLost d then [.channelFault] else []) ++
    (if (s.unclampedAll d).any (fun u => !inOvertravelBand d.travel u) then [.overtravel] else []) ++
    (if skewExceeds d.skewLimit (s.axisFields d y).skew then [.skew] else [])

/-- The record that a recompute leaves. -/
def State.axisAfter (s : State) (d : AxisDef) (y : AxisDyn) : AxisDyn :=
  { s.axisFields d y with fault := FaultCode.firstOf y.fault (s.axisFound d y) }

/-- The recompute as far as the report of DEGRADED (R31). -/
def State.axisDerived (i : Nat) (d : AxisDef) (y : AxisDyn) (s : State) : State :=
  let s1 := s.modAxis i (fun _ => s.axisFields d y)
  if (s.axisFields d y).degraded && !y.degraded then s1.raise .transducerLost i else s1

/-- The recompute as far as its last fault report. -/
def State.axisReported (i : Nat) (d : AxisDef) (y : AxisDyn) (s : State) : State := (s.axisDerived i d y).takeFaults i (s.axisFound d y)

section
variable {s : State} {i : Nat} {d : AxisDef} {y : AxisDyn}

theorem axisRecompute_eq (hd : s.layout.axis? i = some d) (hy : s.axis? i = some y) : s.axisRecompute i =
    if (s.axisReported i d y).axis? i == some y then (s.axisReported i d y).pointToCev i else ((s.axisReported i d y).pointToCev i).handFloat i := by
  simp only [State.axisRecompute, hd, hy, State.axisReported, State.axisFound, takeFaults_append, takeFaults_ite]
  rfl

theorem axisRecompute_of_not_axis (h : s.layout.axis? i = none ∨ s.axis? i = none) : s.axisRecompute i = s := by
  unfold State.axisRecompute
  split
  · simp_all
  · rfl

theorem State.ActsTo.axisDerived (i : Nat) (d : AxisDef) (y : AxisDyn) (s : State) : s.ActsTo (s.axisDerived i d y) := by
  unfold State.axisDerived
  simp only
  split
  · exact (State.ActsTo.modAxis _ _ _).trans (.raise _ _ _)
  · exact .modAxis _ _ _

theorem axisDerived_pmn (hy : s.axis? i = some y) :
    (s.axisDerived i d y).pmn = { s.pmn with points := tput s.pmn.points i (.axis (s.axisFields d y)) } := by
  unfold State.axisDerived
  simp only
  split
  · rw [raise_pmn, modAxis_present hy]
  · rw [modAxis_present hy]

theorem State.ActsTo.axisReported (i : Nat) (d : AxisDef) (y : AxisDyn) (s : State) : s.ActsTo (s.axisReported i d y) :=
  (State.ActsTo.axisDerived i d y s).trans (.takeFaults _ _ _)

theorem tget_axisReported (hy : s.axis? i = some y) (q : Nat) :
    tget (s.axisReported i d y).pmn.points q = if q = i then some (.axis (s.axisAfter d y)) else tget s.pmn.points q := by
  rw [State.axisReported, tget_takeFaults, axisDerived_pmn hy, tget_tput_self]
  split
  · rfl
  · rename_i hq
    exact tget_tput_of_ne _ _ (Ne.symm hq)

theorem State.ActsTo.axisRecompute (i : Nat) (s : State) : s.ActsTo (s.axisRecompute i) := by
  cases hd : s.layout.axis? i with
  | none => rw [axisRecompute_of_not_axis (.inl hd)]; exact .refl s
  | some d =>
    cases hy : s.axis? i with
    | none => rw [axisRecompute_of_not_axis (.inr hy)]; exact .refl s
    | some y =>
      have h := (State.ActsTo.axisReported i d y s).trans (.pointToCev i _)
      rw [axisRecompute_eq hd hy]
      split
      · exact h
      · exact h.trans (.handFloat i _)

/-- A recompute changes the record of its axis alone. -/
theorem tget_axisRecompute (hd : s.layout.axis? i = some d) (hy : s.axis? i = some y) (q : Nat) :
    tget (s.axisRecompute i).pmn.points q = if q = i then some (.axis (s.axisAfter d y)) else tget s.pmn.points q := by
  rw [axisRecompute_eq hd hy, ← tget_axisReported hy]
  split <;> simp

theorem axis?_axisRecompute (hd : s.layout.axis? i = some d) (hy : s.axis? i = some y) : (s.axisRecompute i).axis? i = some (s.axisAfter d y) := by
  rw [axis?_iff, tget_axisRecompute hd hy, if_pos rfl]

/-- The conditions that name the axis follow a recompute (R37). -/
theorem axisRecompute_current (hd : s.layout.axis? i = some d) (hy : s.axis? i = some y) : (s.axisRecompute i).CevCurrent i := by
  have h := pointToCev_current i (s.axisReported i d y)
  rw [axisRecompute_eq hd hy]
  split
  · exact h
  · exact h.congr (handFloat_cev _ _) (handFloat_lst _ _) (State.SeesSame.of_pmn (handFloat_pmn _ _))

theorem Aeu.Lasting.axisReported {P : Aeu → Prop} (h : Aeu.Lasting (s.amu.mode = .sea) P) (hp : P (s.axisDerived i d y).aeu) :
    P (s.axisReported i d y).aeu :=
  Aeu.Lasting.takeFaults (s := s.axisDerived i d y) (by rw [(amu_of_fixed (State.ActsTo.axisDerived i d y s).fixed)]; exact h) hp _ _

/-- What stands once DEGRADED has been reported stands after the recompute. -/
theorem Aeu.Lasting.axisRecompute {P : Aeu → Prop} (h : Aeu.Lasting (s.amu.mode = .sea) P) (hd : s.layout.axis? i = some d) (hy : s.axis? i = some y)
    (hp : P (s.axisDerived i d y).aeu) : P (s.axisRecompute i).aeu := by
  have hr : P ((s.axisReported i d y).pointToCev i).aeu :=
    Aeu.Lasting.recompute (by rw [(amu_of_fixed (State.ActsTo.axisReported i d y s).fixed)]; exact h) (h.axisReported hp) _
  rw [axisRecompute_eq hd hy]
  split
  · exact hr
  · rw [handFloat_aeu]; exact hr

/-- DEGRADED raises TRANSDUCER_LOST (R31), which stands at the end of the recompute. -/
theorem axisRecompute_transducerLost (hd : s.layout.axis? i = some d) (hy : s.axis? i = some y) (hno : y.degraded = false)
    (hdeg : (s.axisFields d y).degraded = true) (ha : s.amu.mode ≠ .sea ∨ s.aeu.NotAcked .transducerLost i) :
    (s.axisRecompute i).aeu.Raised .transducerLost i := by
  have he : (s.axisDerived i d y).aeu = (s.aeu.raise .transducerLost i).remake := by
    unfold State.axisDerived
    simp only
    rw [if_pos (by simp [hdeg, hno]), raise_aeu, modAxis_present hy]
  rcases ha with hm | hna
  · have hl := Aeu.standsMaybeAcked_lasting hm (k := .transducerLost) (by decide) i
    exact (hl.axisRecompute hd hy (by rw [he]; exact hl.remake (Aeu.raise_standsMaybeAcked _ _ _))).raised
  · have hl := Aeu.stands_lasting (s.amu.mode = .sea) (k := .transducerLost) (by decide) i
    exact (hl.axisRecompute hd hy (by rw [he]; exact hl.remake (Aeu.raise_stands hna))).raised

/-- A changed record of a floating axis is handed to ADU (R34). -/
theorem axisRecompute_floatRecord (hd : s.layout.axis? i = some d) (hy : s.axis? i = some y) (hne : s.axisAfter d y ≠ y) (hf : s.floats i = true) :
    Task.floatRecord i ∈ (s.axisRecompute i).todo := by
  have hax : (s.axisReported i d y).axis? i = some (s.axisAfter d y) := by rw [axis?_iff, tget_axisReported hy, if_pos rfl]
  have hadu : ((s.axisReported i d y).pointToCev i).adu = s.adu := (adu_of_units ((State.ActsTo.axisReported i d y s).trans (.pointToCev i _)).units)
  rw [axisRecompute_eq hd hy, if_neg (by simp [hax, hne]), State.handFloat, if_pos (by rw [hadu]; exact hf)]
  exact List.mem_append_right _ (List.mem_singleton_self _)

/-- The unit of the reserving motion is told of every fault found. -/
theorem axisRecompute_told (hd : s.layout.axis? i = some d) (hy : s.axis? i = some y) (hr : y.reserved ≠ none) {c : FaultCode} (hc : c ∈ s.axisFound d y) :
    ∃ f, Task.faulted i c f ∈ (s.axisRecompute i).todo := by
  have hres : ((s.axisDerived i d y).reservedBy i).isSome := by
    rw [State.reservedBy, axisDerived_pmn hy, tget_tput_self]
    exact Option.isSome_iff_ne_none.2 hr
  obtain ⟨f, hf⟩ := told_takeFaults hres hc
  have hsub : (s.axisReported i d y).todo <+: (s.axisRecompute i).todo := by
    rw [axisRecompute_eq hd hy]
    split
    · exact (State.ActsTo.pointToCev i _).todo
    · exact ((State.ActsTo.pointToCev i _).trans (.handFloat i _)).todo
  exact ⟨f, hsub.subset hf⟩

end

/-! ### What the fields of a recomputed record say (R27 to R35) -/

section
variable (s : State) (d : AxisDef) (y : AxisDyn)

theorem channelOk_iff (n : Nat) : s.channelOk n = true ↔ ∃ a, tget s.isc.analog n = some a ∧ a.health = some .healthy := by
  unfold State.channelOk State.channel
  cases tget s.isc.analog n <;> simp [Analog.ok]

theorem channelLost_iff (n : Nat) : s.channelLost n = true ↔ ∃ a, tget s.isc.analog n = some a ∧ a.health ≠ none ∧ a.health ≠ some .healthy := by
  unfold State.channelLost State.channel
  cases tget s.isc.analog n <;> simp [Analog.ok, Option.isSome_iff_ne_none]

theorem allChannelsLost_iff : s.allChannelsLost d = true ↔
    s.channelLost d.transA.input = true ∧ ∀ b, d.transB = some b → s.channelLost b.input = true := by
  unfold State.allChannelsLost
  cases d.transB <;> simp

theorem inOvertravelBand_eq_false (F : Nat) (u : Int) : inOvertravelBand F u = false ↔ u < -50 ∨ u > F + 50 := by
  have h : Config.overtravel = 50 := rfl
  rw [inOvertravelBand, Bool.and_eq_false_iff, decide_eq_false_iff_not, decide_eq_false_iff_not]
  omega

theorem beyond_iff : (s.unclampedAll d).any (fun u => !inOvertravelBand d.travel u) = true ↔ ∃ u ∈ s.unclampedAll d, u < -50 ∨ u > d.travel + 50 := by
  simp only [List.any_eq_true, Bool.not_eq_eq_eq_not, Bool.not_true, inOvertravelBand_eq_false]

theorem skewExceeds_iff (n : Nat) (k : Option Int) : skewExceeds n k = true ↔ ∃ v, k = some v ∧ n < v.natAbs := by
  cases k <;> simp [skewExceeds]

/-- The faults found, and which is the first. -/
theorem mem_axisFound {c : FaultCode} : c ∈ s.axisFound d y ↔
    c = .channelFault ∧ s.allChannelsLost d = true ∨ c = .overtravel ∧ (s.unclampedAll d).any (fun u => !inOvertravelBand d.travel u) = true ∨
      c = .skew ∧ skewExceeds d.skewLimit (s.axisFields d y).skew = true := by
  simp only [State.axisFound, List.mem_append]
  cases s.allChannelsLost d <;> cases (s.unclampedAll d).any (fun u => !inOvertravelBand d.travel u) <;>
    cases skewExceeds d.skewLimit (s.axisFields d y).skew <;> simp [or_assoc]

theorem axisFound_head : (s.axisFound d y).head? = if s.allChannelsLost d then some .channelFault
    else if (s.unclampedAll d).any (fun u => !inOvertravelBand d.travel u) then some .overtravel
    else if skewExceeds d.skewLimit (s.axisFields d y).skew then some .skew else none := by
  simp only [State.axisFound]
  cases s.allChannelsLost d <;> cases (s.unclampedAll d).any (fun u => !inOvertravelBand d.travel u) <;>
    cases skewExceeds d.skewLimit (s.axisFields d y).skew <;> rfl

theorem reportedPosition_le (F : Nat) (u : Int) : reportedPosition F u ≤ F := Nat.min_le_right _ _

theorem axisFields_p_le {p : Nat} (h : (s.axisFields d y).p = some p) : p ≤ d.travel := by
  simp only [State.axisFields] at h
  cases hA : s.unclamped d.travel d.transA with
  | none =>
    cases hB : d.transB.bind (s.unclamped d.travel) with
    | none => simp [hA, hB, axisPosition] at h
    | some b =>
      simp only [hA, hB, axisPosition, Option.map_none, Option.map_some, Option.some.injEq] at h
      exact h ▸ reportedPosition_le _ _
  | some a =>
    have ha := reportedPosition_le d.travel a
    cases hB : d.transB.bind (s.unclamped d.travel) with
    | none =>
      simp only [hA, hB, axisPosition, Option.map_none, Option.map_some, Option.some.injEq] at h
      omega
    | some b =>
      have hb := reportedPosition_le d.travel b
      simp only [hA, hB, axisPosition, Option.map_some, Option.some.injEq] at h
      omega

theorem axisFields_degraded : (s.axisFields d y).degraded = true ↔
    y.degraded = true ∨ ∃ b, d.transB = some b ∧ (s.channelLost d.transA.input = true ∨ s.channelLost b.input = true) := by
  simp only [State.axisFields, Bool.or_eq_true]
  cases d.transB <;> simp

theorem axisFields_healthyB : (s.axisFields d y).healthyB = true ↔ ∃ b, d.transB = some b ∧ s.channelOk b.input = true := by
  simp only [State.axisFields]
  cases d.transB <;> simp

theorem healthyValue_of_ok {n : Nat} {a : Analog} (h : tget s.isc.analog n = some a) (hh : a.health = some .healthy) : s.healthyValue n = a.filtered := by
  simp [State.healthyValue, State.channel, h, Analog.ok, hh]

theorem healthyValue_of_not {n : Nat} (h : ¬ ∃ a, tget s.isc.analog n = some a ∧ a.health = some .healthy) : s.healthyValue n = none := by
  unfold State.healthyValue State.channel
  cases ht : tget s.isc.analog n with
  | none => rfl
  | some a =>
    have : ¬ a.health = some .healthy := fun hh => h ⟨a, ht, hh⟩
    simp [Analog.ok, this]

/-- The tip load, clamped to [0, S] (R35). -/
theorem tipLoad_eq (S r : Nat) : (tipLoad S r : Int) = max 0 (min (S : Int) ((((r : Int) - 700) * S).fdiv 3350)) := by
  have : divDown (((r : Int) - Config.channelLow) * S) 3350 = (((r : Int) - 700) * S).fdiv 3350 := rfl
  simp only [tipLoad, this]
  omega

end

end Sys2Proof.Machine
end

section
namespace Sys2Proof.Machine

/-! ### The fault that a recompute leaves (R28, R30, R32, R34) -/

theorem axisAfter_fault_kept (s : State) (d : AxisDef) (y : AxisDyn) {c : FaultCode} (h : y.fault = some c) : (s.axisAfter d y).fault = some c := by
  simp [State.axisAfter, FaultCode.firstOf, h]

theorem axisAfter_fault_first (s : State) (d : AxisDef) (y : AxisDyn) (h : y.fault = none) : (s.axisAfter d y).fault =
    if s.allChannelsLost d then some .channelFault
    else if (s.unclampedAll d).any (fun u => !inOvertravelBand d.travel u) then some .overtravel
    else if skewExceeds d.skewLimit (s.axisFields d y).skew then some .skew else none := by
  rw [← axisFound_head]
  simp [State.axisAfter, FaultCode.firstOf, h]

/-- The unclamped position of a transducer from a count, in the terms of R27. -/
theorem unclampedPosition_eq (t : Transducer) (F r : Nat) :
    let D : Int := ((t.openCount : Int) - t.closedCount).natAbs
    let u : Int := if t.openCount > t.closedCount then (r : Int) - t.closedCount else (t.closedCount : Int) - r
    unclampedPosition t F r = (u * F + D / 2).fdiv D := by
  have hD : (if t.openCount ≥ t.closedCount then t.openCount - t.closedCount else t.closedCount - t.openCount) =
      ((t.openCount : Int) - t.closedCount).natAbs := by split <;> omega
  simp only [unclampedPosition, hD, divDown]
  rfl

theorem reportedPosition_eq (F : Nat) (p : Int) : (reportedPosition F p : Int) = if p < 0 then 0 else if p > F then (F : Int) else p := by
  simp only [reportedPosition]
  split
  · omega
  · split <;> omega

/-- A fault recorded for a floating axis is handed to ADU (R8, R13). -/
theorem recordFault_floatRecord {s : State} {i : Nat} {d : PointDyn} (hd : tget s.pmn.points i = some d) (hf : d.fault = none) (hfl : s.floats i = true)
    (code : FaultCode) : Task.floatRecord i ∈ (s.recordFault i code).todo := by
  have hold : s.faultOf i = none := by simpa [State.faultOf, hd] using hf
  have hnew : (s.takeFault i code).faultOf i = some code := by rw [faultOf_takeFault, if_pos ⟨rfl, by simp [hd]⟩, hold]; rfl
  have hadu : (s.takeFault i code).adu = s.adu := (adu_of_units (State.ActsTo.takeFault i code s).units)
  have : s.recordFault i code = (s.takeFault i code).handFloat i := by simp [State.recordFault, hold, hnew]
  rw [this, State.handFloat, if_pos (by rw [hadu]; exact hfl)]
  exact List.mem_append_right _ (List.mem_singleton_self _)

/-- Settles O37. -/
theorem axisPositionFromTransducers : Obligations.AxisPositionFromTransducers := by
  refine ⟨fun i d y s hd hy => ?_, fun t F r _ => ⟨unclampedPosition_eq t F r, reportedPosition_eq F, inOvertravelBand_eq_false F⟩,
    fun i d code s hd hf hfl => recordFault_floatRecord hd hf hfl code⟩
  intro e healthy lost noneLeft beyond
  have hlost : s.allChannelsLost d = true ↔ noneLeft := by
    rw [allChannelsLost_iff]
    simp only [channelLost_iff]
    exact Iff.rfl
  have hbeyond := beyond_iff s d
  have htwisted := skewExceeds_iff d.skewLimit (s.axisFields d y).skew
  have htip : (s.axisAfter d y).tip = d.tip.bind (fun t => (s.healthyValue t.input).map (tipLoad t.fullScale)) := by
    show (s.axisFields d y).tip = _
    simp only [State.axisFields]
    cases d.tip <;> rfl
  refine ⟨s.axisAfter d y, axis?_axisRecompute hd hy, rfl, rfl, ?_, ?_, ?_, ?_, fun p hp => axisFields_p_le s d y hp, channelOk_iff s _, ?_, ?_, ?_, ?_, ?_,
    ?_, ?_, ?_, rfl, rfl, axisRecompute_floatRecord hd hy, (State.ActsTo.axisRecompute i s).cevFollows (axisRecompute_current hd hy),
    fun k hk => by rw [tget_axisRecompute hd hy, if_neg hk]⟩
  · intro a b ha hb
    simp [State.axisAfter, State.axisFields, ha, hb, axisPosition, axisSkew]
  · intro a ha hb
    simp [State.axisAfter, State.axisFields, ha, hb, axisPosition, axisSkew]
  · intro b ha hb
    simp [State.axisAfter, State.axisFields, ha, hb, axisPosition, axisSkew]
  · intro ha hb
    simp [State.axisAfter, State.axisFields, ha, hb, axisPosition, axisSkew]
  · refine (axisFields_healthyB s d y).trans ?_
    simp only [channelOk_iff]
    exact Iff.rfl
  · intro hp
    show Zone.ofPosition d.endBand d.travel (s.axisAfter d y).p = _
    rw [hp]
    rfl
  · intro p hp
    show Zone.ofPosition d.endBand d.travel (s.axisAfter d y).p = _
    rw [hp]
    rfl
  · intro t a r ht ha hh hr
    refine ⟨tipLoad t.fullScale r, ?_, tipLoad_eq _ _⟩
    rw [htip, ht, Option.bind_some, healthyValue_of_ok s ha hh, hr]
    rfl
  · rintro (ht | ⟨t, ht, hn⟩)
    · rw [htip, ht]; rfl
    · rw [htip, ht, Option.bind_some, healthyValue_of_not s hn]; rfl
  · refine (axisFields_degraded s d y).trans ?_
    simp only [channelLost_iff]
    exact Iff.rfl
  · exact fun hno hdeg ha => axisRecompute_transducerLost hd hy hno hdeg ha
  · refine ⟨fun c => axisAfter_fault_kept s d y, fun hno => ?_, fun hr => ⟨fun h => ?_, fun h => ?_, fun h => ?_⟩⟩
    · have hz := axisAfter_fault_first s d y hno
      refine ⟨fun h => ?_, fun h h' => ?_, fun h h' h'' => ?_, fun h h' h'' => ?_⟩
      · rw [hz, if_pos (hlost.2 h)]
      · rw [hz, if_neg (mt hlost.1 h), if_pos (hbeyond.2 h')]
      · rw [hz, if_neg (mt hlost.1 h), if_neg (mt hbeyond.1 h'), if_pos (htwisted.2 h'')]
      · rw [hz, if_neg (mt hlost.1 h), if_neg (mt hbeyond.1 h'), if_neg (mt htwisted.1 h'')]
    · exact axisRecompute_told hd hy hr ((mem_axisFound s d y).2 (.inl ⟨rfl, hlost.2 h⟩))
    · exact axisRecompute_told hd hy hr ((mem_axisFound s d y).2 (.inr (.inl ⟨rfl, hbeyond.2 h⟩)))
    · exact axisRecompute_told hd hy hr ((mem_axisFound s d y).2 (.inr (.inr ⟨rfl, htwisted.2 h⟩)))

end Sys2Proof.Machine
end

section
namespace Sys2Proof.Machine

/-! ### Several axes recomputed (R17, R23) -/

/-- A listed record of a table in order is what the table reads. -/
theorem tget_of_mem {α : Type} {t : Table α} (h : tsorted t = true) {i : Nat} {a : α} (hm : (i, a) ∈ t) : tget t i = some a := by
  rw [tsorted_iff] at h
  induction t with
  | nil => simp at hm
  | cons e r ih =>
    obtain ⟨k, b⟩ := e
    obtain ⟨h1, h2⟩ := List.pairwise_cons.1 h
    rcases List.mem_cons.1 hm with heq | hm
    · cases heq; simp [tget_cons]
    · have hk : k < i := h1 _ hm
      rw [tget_cons, if_neg (by omega), ih h2 hm]

theorem layout_axis?_iff {l : Layout} {i : Nat} {d : AxisDef} : l.axis? i = some d ↔ ∃ ws, tget l.points i = some (.axis d ws) := by
  unfold Layout.axis?
  split
  · rename_i h; simp [h]
  · rename_i h
    simp only [reduceCtorEq, false_iff]
    rintro ⟨ws, hw⟩
    exact h _ _ hw

/-- A recompute reads of the rest of the state the channels alone. -/
theorem axisAfter_congr {s e : State} (h : e.isc.analog = s.isc.analog) (d : AxisDef) (y : AxisDyn) : e.axisAfter d y = s.axisAfter d y := by
  have hc : e.channel = s.channel := funext fun n => by rw [State.channel, State.channel, h]
  have hv : e.healthyValue = s.healthyValue := funext fun n => by rw [State.healthyValue, State.healthyValue, hc]
  have hu : e.unclamped = s.unclamped := funext fun F => funext fun t => by rw [State.unclamped, State.unclamped, hv]
  have hok : e.channelOk = s.channelOk := funext fun n => by rw [State.channelOk, State.channelOk, hc]
  have hl : e.channelLost = s.channelLost := funext fun n => by rw [State.channelLost, State.channelLost, hc]
  simp only [State.axisAfter, State.axisFound, State.axisFields, State.allChannelsLost, State.unclampedAll, hv, hu, hok, hl]
  rfl

theorem axisFields_twice (s : State) (d : AxisDef) (y : AxisDyn) :
    (s.axisFields d (s.axisAfter d y)) = { s.axisFields d y with fault := (s.axisAfter d y).fault } := by
  simp [State.axisFields, State.axisAfter]

theorem axisAfter_twice (s : State) (d : AxisDef) (y : AxisDyn) : s.axisAfter d (s.axisAfter d y) = s.axisAfter d y := by
  have hfound : s.axisFound d (s.axisAfter d y) = s.axisFound d y := rfl
  have hfault : FaultCode.firstOf (s.axisAfter d y).fault (s.axisFound d y) = (s.axisAfter d y).fault := by
    show (y.fault.or (s.axisFound d y).head?).or (s.axisFound d y).head? = y.fault.or (s.axisFound d y).head?
    cases y.fault <;> simp
  conv_lhs => rw [State.axisAfter, hfound, hfault, axisFields_twice]
  rfl

/-- The record that a recompute leaves depends on the layout, the channels and the record alone. -/
theorem tget_axisRecompute_congr {s e : State} {i : Nat} (hl : e.layout = s.layout) (hc : e.isc.analog = s.isc.analog)
    (hp : tget e.pmn.points i = tget s.pmn.points i) : tget (e.axisRecompute i).pmn.points i = tget (s.axisRecompute i).pmn.points i := by
  have hax : e.axis? i = s.axis? i := by rw [State.axis?, State.axis?, hp]
  cases hd : s.layout.axis? i with
  | none => rw [axisRecompute_of_not_axis (.inl (hl ▸ hd)), axisRecompute_of_not_axis (.inl hd), hp]
  | some d =>
    cases hy : s.axis? i with
    | none => rw [axisRecompute_of_not_axis (.inr (hax.trans hy)), axisRecompute_of_not_axis (.inr hy), hp]
    | some y =>
      rw [tget_axisRecompute (hl ▸ hd) (hax.trans hy), tget_axisRecompute hd hy, if_pos rfl, if_pos rfl, axisAfter_congr hc]

/-- A recompute right after one changes nothing of the record. -/
theorem tget_axisRecompute_twice (s : State) (i : Nat) :
    tget ((s.axisRecompute i).axisRecompute i).pmn.points i = tget (s.axisRecompute i).pmn.points i := by
  have hfix := (State.ActsTo.axisRecompute i s).fixed
  cases hd : s.layout.axis? i with
  | none => rw [axisRecompute_of_not_axis (.inl hd), axisRecompute_of_not_axis (.inl hd)]
  | some d =>
    cases hy : s.axis? i with
    | none => rw [axisRecompute_of_not_axis (.inr hy), axisRecompute_of_not_axis (.inr hy)]
    | some y =>
      have hd' : (s.axisRecompute i).layout.axis? i = some d := by rw [layout_of_fixed hfix]; exact hd
      rw [tget_axisRecompute hd' (axis?_axisRecompute hd hy), if_pos rfl, tget_axisRecompute hd hy, if_pos rfl,
        axisAfter_congr (congrArg Isc.analog (isc_of_fixed hfix)), axisAfter_twice]

theorem tget_axisRecompute_of_ne (s : State) {i q : Nat} (h : q ≠ i) : tget (s.axisRecompute i).pmn.points q = tget s.pmn.points q := by
  cases hd : s.layout.axis? i with
  | none => rw [axisRecompute_of_not_axis (.inl hd)]
  | some d =>
    cases hy : s.axis? i with
    | none => rw [axisRecompute_of_not_axis (.inr hy)]
    | some y => rw [tget_axisRecompute hd hy, if_neg h]

/-- An act on one point, which reads of the rest of the state the layout and the inputs alone, and which done twice is done once. -/
structure PointAct (f : Nat → State → State) : Prop where
  fixed  : ∀ i s, (f i s).fixed = s.fixed
  others : ∀ i s q, q ≠ i → tget (f i s).pmn.points q = tget s.pmn.points q
  reads  : ∀ i s e, e.layout = s.layout → e.isc = s.isc → tget e.pmn.points i = tget s.pmn.points i →
    tget (f i e).pmn.points i = tget (f i s).pmn.points i
  twice  : ∀ i s, tget (f i (f i s)).pmn.points i = tget (f i s).pmn.points i

/-- Each point of a list comes out as from the state at the start, however often it stands there. -/
theorem PointAct.tget_foldl {f : Nat → State → State} (h : PointAct f) (is : List Nat) (s : State) (q : Nat) :
    tget (is.foldl (fun x i => f i x) s).pmn.points q = if q ∈ is then tget (f q s).pmn.points q else tget s.pmn.points q := by
  induction is generalizing s with
  | nil => simp
  | cons i is ih =>
    rw [List.foldl_cons, ih]
    by_cases hq : q = i
    · subst hq
      rw [h.twice, if_pos List.mem_cons_self]
      exact ite_self _
    · rw [h.others i s q hq, h.reads q s _ (layout_of_fixed (h.fixed i s)) (isc_of_fixed (h.fixed i s)) (h.others i s q hq)]
      simp [hq]

theorem axisRecompute_pointAct : PointAct State.axisRecompute where
  fixed i s := (State.ActsTo.axisRecompute i s).fixed
  others _ s _ hq := tget_axisRecompute_of_ne s hq
  reads _ _ _ hl hc hp := tget_axisRecompute_congr hl (by rw [hc]) hp
  twice i s := tget_axisRecompute_twice s i

/-- The axes of a list recomputed in turn. -/
def State.recomputeAxes (is : List Nat) (s : State) : State := is.foldl (fun x i => x.axisRecompute i) s

theorem State.ActsTo.recomputeAxes (is : List Nat) (s : State) : s.ActsTo (s.recomputeAxes is) := .foldl (fun x i => .axisRecompute i x) is s

theorem tget_recomputeAxes (is : List Nat) (s : State) (q : Nat) :
    tget (s.recomputeAxes is).pmn.points q = if q ∈ is then tget (s.axisRecompute q).pmn.points q else tget s.pmn.points q :=
  axisRecompute_pointAct.tget_foldl is s q

/-! ### The first completed scan (R17, R24, R53) -/

/-- The scan is completed. -/
def State.scans (s : State) : Prop := s.isc.scanPending = true ∧ s.isc.complete = true

theorem isc_complete_iff (i : Isc) : i.complete = true ↔
    (∀ a ∈ i.analog, a.2.filtered ≠ none) ∧ (∀ d ∈ i.field, d.2.rescan = false) ∧ ∀ d ∈ i.feedback, d.2.rescan = false := by
  simp only [Isc.complete, Bool.and_eq_true, List.all_eq_true, Option.isSome_iff_ne_none, Bool.not_eq_eq_eq_not, Bool.not_true, and_assoc]

theorem firstScan_of_not {s : State} (h : ¬ s.scans) : s.firstScan = s := by
  unfold State.firstScan
  rw [if_neg]
  simpa [State.scans] using h

/-- The scan is no longer awaited. -/
def State.scanned (s : State) : State := { s with isc := { s.isc with scanPending := false } }

/-- The state in which CEV first computes: every axis derived. -/
def State.axesDerived (s : State) : State :=
  let x := s.scanned.recomputeAxes ((axes s.layout).map (fun e => e.1))
  { x with cev := { x.cev with started := true } }

theorem firstScan_of_scans {s : State} (h : s.scans) : s.firstScan = s.axesDerived.recompute (List.range 32) := by
  unfold State.firstScan
  rw [if_pos (by simp [h.1, h.2])]
  rfl

/-- What a recompute gives a condition other than c1 and c2 it would give again. -/
theorem evalCond_recompute (ids : List Nat) (s : State) {i : Nat} (h1 : i ≠ 1) (h2 : i ≠ 2) : (s.recompute ids).evalCond i = s.evalCond i := by
  have hfix := fixed_recompute ids s
  obtain ⟨hamu, hisc, -, -, -, -, -, hestop⟩ := fixed_parts hfix
  have hlay := layout_of_fixed hfix
  have hhpa := (hpa_of_units (units_recompute ids s))
  by_cases h8 : 8 ≤ i
  · exact evalCond_congr hlay h8 (fun _ _ t _ => State.SeesSame.of_pmn (recompute_pmn ids s) t.point)
  · obtain rfl | rfl | rfl | rfl | rfl | rfl : i = 0 ∨ i = 3 ∨ i = 4 ∨ i = 5 ∨ i = 6 ∨ i = 7 := by omega
    · simp only [State.evalCond, hestop]
    · simp only [State.evalCond, hamu]
    · simp only [State.evalCond, State.inputCondition, hisc, hlay]
    · simp only [State.evalCond, State.inputCondition, hisc, hlay]
    · simp only [State.evalCond, hhpa]
    · simp only [State.evalCond, hamu]

section
variable {s : State}

theorem axesDerived_fixed (s : State) : s.axesDerived.fixed = { s.fixed with isc := { s.isc with scanPending := false }, started := true } := by
  have h := (State.ActsTo.recomputeAxes ((axes s.layout).map (fun e => e.1)) s.scanned).fixed
  show ({ (s.scanned.recomputeAxes ((axes s.layout).map (fun e => e.1))).fixed with started := true } : Fixed) = _
  rw [h]
  rfl

theorem State.HandsOn.axesDerived (s : State) : s.HandsOn s.axesDerived := by
  have h1 : s.HandsOn s.scanned := .of_conds rfl (List.prefix_refl _) ⟨rfl, rfl, rfl⟩
  have h2 := (State.ActsTo.recomputeAxes ((axes s.layout).map (fun e => e.1)) s.scanned).toHandsOn
  exact (h1.trans h2).trans (.of_conds rfl (List.prefix_refl _) ⟨rfl, rfl, rfl⟩)

/-- The first completed scan changes the mark of the scan and of the first computation, and else only what PMN, CEV and AEU hold. -/
theorem firstScan_fixed (h : s.scans) : s.firstScan.fixed = { s.fixed with isc := { s.isc with scanPending := false }, started := true } := by
  rw [firstScan_of_scans h, fixed_recompute, axesDerived_fixed]

theorem units_firstScan (s : State) : s.firstScan.units = s.units := by
  by_cases h : s.scans
  · rw [firstScan_of_scans h, units_recompute]
    exact (State.ActsTo.recomputeAxes ((axes s.layout).map (fun e => e.1)) s.scanned).units
  · rw [firstScan_of_not h]

theorem State.HandsOn.firstScan (s : State) : s.HandsOn s.firstScan := by
  by_cases h : s.scans
  · rw [firstScan_of_scans h]
    exact (State.HandsOn.axesDerived s).trans (.recompute _ _)
  · rw [firstScan_of_not h]
    exact (State.ActsTo.refl s).toHandsOn

theorem mem_axes {l : Layout} {i : Nat} {d : AxisDef} (h : l.axis? i = some d) : i ∈ (axes l).map (fun e => e.1) := by
  obtain ⟨ws, hw⟩ := layout_axis?_iff.1 h
  exact List.mem_map.2 ⟨(i, d, ws), List.mem_filterMap.2 ⟨(i, .axis d ws), mem_of_tget hw, rfl⟩, rfl⟩

/-- Every axis is derived from the values held at the first completed scan, and nothing else of PMN changes. -/
theorem tget_firstScan (h : s.scans) (q : Nat) : tget s.firstScan.pmn.points q =
    if (s.layout.axis? q).isSome then tget (s.axisRecompute q).pmn.points q else tget s.pmn.points q := by
  rw [firstScan_of_scans h, recompute_pmn]
  show tget (s.scanned.recomputeAxes ((axes s.layout).map (fun e => e.1))).pmn.points q = _
  rw [tget_recomputeAxes]
  have hcongr : tget (s.scanned.axisRecompute q).pmn.points q = tget (s.axisRecompute q).pmn.points q := tget_axisRecompute_congr rfl rfl rfl
  cases hd : s.layout.axis? q with
  | some d => rw [if_pos (mem_axes hd), hcongr, if_pos (by rfl)]
  | none =>
    rw [hcongr, axisRecompute_of_not_axis (.inl hd)]
    exact (ite_self _).trans (ite_self _).symm

/-- After the first computation every condition that names a point is current. -/
theorem firstScan_current (h : s.scans) (p : Nat) : s.firstScan.CevCurrent p := by
  rw [firstScan_of_scans h]
  intro hst hn
  have hn' : s.axesDerived.cev.conds.length = 32 := (length_conds_recompute _ _).symm.trans hn
  refine ⟨fun i ts h8 hi _ _ => ?_, closure_recompute rfl _⟩
  rw [cond_recompute, if_pos ⟨rfl, List.mem_range.2 hi, by omega⟩, evalCond_recompute _ _ (by omega) (by omega)]

/-- The first values of the conditions (R53), with the hysteresis of c1 and c2 (R44, R45). -/
theorem firstScan_conds (h : s.scans) (hn : s.cev.conds.length = 32) :
    (∀ i < 32, i ≠ 1 → i ≠ 2 → s.firstScan.cond i = s.firstScan.evalCond i) ∧ s.firstScan.cond 1 = s.evalCond 1 ∧ s.firstScan.cond 2 = s.evalCond 2 := by
  have hacts := State.HandsOn.axesDerived s
  have hn' : s.axesDerived.cev.conds.length = 32 := hacts.length.trans hn
  rw [firstScan_of_scans h]
  refine ⟨fun i hi h1 h2 => ?_, ?_, ?_⟩
  · rw [cond_recompute, if_pos ⟨rfl, List.mem_range.2 hi, by omega⟩, evalCond_recompute _ _ h1 h2]
  · rw [cond_recompute, if_pos ⟨rfl, by decide, by omega⟩, hacts.steady.1]
  · rw [cond_recompute, if_pos ⟨rfl, by decide, by omega⟩, hacts.steady.2]

end

/-- From the state at a sample to the state at its first scan PMN and CEV have acted on the inputs just taken; no axis but for the health of its channels. -/
structure State.Sampled (s x : State) : Prop where
  hands : s.HandsOn x
  fixed : x.fixed = { s.fixed with isc := x.isc }
  pending : x.isc.scanPending = s.isc.scanPending
  axes  : s.isc.scanPending = true → ∀ i y, s.axis? i = some y →
    (∃ a b, x.axis? i = some { y with healthyA := a, healthyB := b }) ∧ (s.layout.axis? i = none → x.axis? i = some y)

theorem stale_unknown {s : State} (h : s.cev.freshness ≠ .fresh) : s.evalCond 1 = .unknown ∧ s.evalCond 2 = .unknown :=
  ⟨by rw [evalCond_one, if_neg h], by rw [evalCond_two, if_neg h]⟩

/-- A sample's first scan is as R17, R24 and R53 have it. -/
theorem State.Sampled.scansFirst {s x : State} (h : s.Sampled x) : s.ScansFirst x.firstScan := by
  have hlst : x.lst = s.lst := congrArg Fixed.lst h.fixed
  have hlay : x.layout = s.layout := layout_of_lst hlst
  by_cases hx : x.scans
  · unfold State.ScansFirst
    intro complete
    have hfix := firstScan_fixed hx
    have hisc : x.firstScan.isc = { x.isc with scanPending := false } := congrArg Fixed.isc hfix
    have hcomplete : complete := by
      refine ⟨h.pending ▸ hx.1, ?_⟩
      rw [hisc]
      exact (isc_complete_iff x.isc).1 hx.2
    refine ⟨fun _ => ⟨by rw [hisc], congrArg Fixed.started hfix, fun i y hy => ?_, fun hn => ?_⟩, fun hno => absurd hcomplete hno⟩
    · obtain ⟨⟨a, b, hxy⟩, hleft⟩ := h.axes hcomplete.1 i y hy
      have hanalog : ({ s with isc := x.firstScan.isc } : State).isc.analog = x.isc.analog := by rw [hisc]
      cases hd : s.layout.axis? i with
      | none =>
        have hx' : (x.layout.axis? i).isSome = false := by rw [hlay, hd]; rfl
        have hkeep : x.firstScan.axis? i = some y := by
          rw [axis?_iff, tget_firstScan hx, hx']
          exact axis?_iff.1 (hleft hd)
        rw [axisRecompute_of_not_axis (s := { s with isc := x.firstScan.isc }) (.inl hd), hkeep]
        exact hy.symm
      | some d =>
        rw [axis?_axisRecompute (s := { s with isc := x.firstScan.isc }) hd hy, axis?_iff, tget_firstScan hx, hlay, hd, if_pos (by rfl),
          tget_axisRecompute (hlay ▸ hd) hxy, if_pos rfl, axisAfter_congr hanalog.symm]
        rfl
    · obtain ⟨k1, k2, k3⟩ := firstScan_conds hx (h.hands.length.trans hn)
      refine ⟨k1, k2.trans h.hands.steady.1, k3.trans h.hands.steady.2, fun hf => ?_⟩
      rw [k2, k3, h.hands.steady.1, h.hands.steady.2]
      exact stale_unknown hf
  · rw [firstScan_of_not hx]
    unfold State.ScansFirst
    intro complete
    refine ⟨fun hc => absurd ⟨h.pending.trans hc.1, (isc_complete_iff _).2 hc.2⟩ hx, fun _ => ⟨h.pending, congrArg Fixed.started h.fixed⟩⟩

end Sys2Proof.Machine
end

section
namespace Sys2Proof.Machine

/-! ### The health of an axis's channels (R17, assumption 8) -/

/-- An axis record with the health of its channels as it is heard before the first completed scan. -/
def State.axisHeard (s : State) (d : AxisDef) (y : AxisDyn) : AxisDyn :=
  { y with healthyA := (s.axisFields d y).healthyA, healthyB := (s.axisFields d y).healthyB }

section
variable {s : State} {i : Nat} {d : AxisDef} {y : AxisDyn}

theorem axisHealth_axis (hd : s.layout.axis? i = some d) (hy : s.axis? i = some y) :
    s.axisHealth i = { s with pmn := { s.pmn with points := tput s.pmn.points i (.axis (s.axisHeard d y)) } } := by
  simp only [State.axisHealth, hd, modAxis_present hy]
  rfl

theorem axisHealth_of_not_axis (h : s.layout.axis? i = none ∨ s.axis? i = none) : s.axisHealth i = s := by
  unfold State.axisHealth
  split
  · rename_i d hd
    have hy : s.axis? i = none := h.resolve_left (by simp [hd])
    simp [State.modAxis, hy]
  · rfl

/-- The health of channels changes a point record alone. -/
theorem axisHealth_shape (i : Nat) (s : State) : s.axisHealth i = { s with pmn := (s.axisHealth i).pmn } := by
  cases hd : s.layout.axis? i with
  | none => rw [axisHealth_of_not_axis (.inl hd)]
  | some d =>
    cases hy : s.axis? i with
    | none => rw [axisHealth_of_not_axis (.inr hy)]
    | some y => rw [axisHealth_axis hd hy]

theorem axis?_axisHealth (hd : s.layout.axis? i = some d) (hy : s.axis? i = some y) : (s.axisHealth i).axis? i = some (s.axisHeard d y) := by
  rw [axis?_iff, axisHealth_axis hd hy]
  exact tget_tput_self _ _ _

theorem axisHeard_congr {e : State} (h : e.isc.analog = s.isc.analog) : e.axisHeard d y = s.axisHeard d y := by
  have hafter := axisAfter_congr h d y
  simp only [State.axisAfter, State.axisFields, AxisDyn.mk.injEq] at hafter
  obtain ⟨-, -, ha, hb, -⟩ := hafter
  simp only [State.axisHeard, State.axisFields, AxisDyn.mk.injEq, true_and, and_true]
  exact ⟨ha, hb⟩

end

theorem axisHealth_pointAct : PointAct State.axisHealth where
  fixed i s := by rw [axisHealth_shape, fixed_pmn]
  others i s q hq := by
    cases hd : s.layout.axis? i with
    | none => rw [axisHealth_of_not_axis (.inl hd)]
    | some d =>
      cases hy : s.axis? i with
      | none => rw [axisHealth_of_not_axis (.inr hy)]
      | some y => rw [axisHealth_axis hd hy]; exact tget_tput_of_ne _ _ (Ne.symm hq)
  reads i s e hl hc hp := by
    have hax : e.axis? i = s.axis? i := by rw [State.axis?, State.axis?, hp]
    cases hd : s.layout.axis? i with
    | none => rw [axisHealth_of_not_axis (.inl (hl ▸ hd)), axisHealth_of_not_axis (.inl hd), hp]
    | some d =>
      cases hy : s.axis? i with
      | none => rw [axisHealth_of_not_axis (.inr (hax.trans hy)), axisHealth_of_not_axis (.inr hy), hp]
      | some y =>
        rw [axisHealth_axis hd hy, axisHealth_axis (hl ▸ hd) (hax.trans hy), axisHeard_congr (s := s) (e := e) (by rw [hc])]
        exact (tget_tput_self _ _ _).trans (tget_tput_self _ _ _).symm
  twice i s := by
    cases hd : s.layout.axis? i with
    | none => rw [axisHealth_of_not_axis (.inl hd), axisHealth_of_not_axis (.inl hd)]
    | some d =>
      cases hy : s.axis? i with
      | none => rw [axisHealth_of_not_axis (.inr hy), axisHealth_of_not_axis (.inr hy)]
      | some y =>
        have hd' : (s.axisHealth i).layout.axis? i = some d := by rw [axisHealth_shape]; exact hd
        have hisc : (s.axisHealth i).isc.analog = s.isc.analog := by rw [axisHealth_shape]
        rw [axisHealth_axis hd' (axis?_axisHealth hd hy), axisHeard_congr hisc, axis?_iff.1 (axis?_axisHealth hd hy)]
        exact tget_tput_self _ _ _

/-! ### A channel handed to PMN (R23) -/

theorem handAnalog_scanned {s : State} (h : s.isc.scanPending = false) (input : Nat) : s.handAnalog input = s.recomputeAxes (axesOf s.layout input) := by
  unfold State.handAnalog State.recomputeAxes
  generalize axesOf s.layout input = is
  induction is generalizing s with
  | nil => rfl
  | cons i is ih =>
    rw [List.foldl_cons, List.foldl_cons, if_neg (by simp [h])]
    exact ih (by rw [(isc_of_fixed (State.ActsTo.axisRecompute i s).fixed)]; exact h)

theorem handAnalog_unscanned {s : State} (h : s.isc.scanPending = true) (input : Nat) :
    s.handAnalog input = (axesOf s.layout input).foldl (fun x i => x.axisHealth i) s := by
  unfold State.handAnalog
  generalize axesOf s.layout input = is
  induction is generalizing s with
  | nil => rfl
  | cons i is ih =>
    rw [List.foldl_cons, List.foldl_cons, if_pos h]
    exact ih (by rw [axisHealth_shape]; exact h)

theorem foldl_axisHealth_shape (is : List Nat) (s : State) :
    is.foldl (fun x i => x.axisHealth i) s = { s with pmn := (is.foldl (fun x i => x.axisHealth i) s).pmn } := by
  induction is generalizing s with
  | nil => rfl
  | cons i is ih =>
    rw [List.foldl_cons, ih, axisHealth_shape]

theorem mem_axesOf {s : State} (h : tsorted s.layout.points = true) (input i : Nat) : i ∈ axesOf s.layout input ↔ s.UsesInput input i := by
  simp only [axesOf, List.mem_map, List.mem_filter, State.UsesInput]
  constructor
  · rintro ⟨⟨j, x⟩, ⟨hm, hu⟩, rfl⟩
    cases x with
    | lock d => simp at hu
    | axis d ws =>
      refine ⟨d, layout_axis?_iff.2 ⟨ws, tget_of_mem h hm⟩, ?_⟩
      cases hB : d.transB <;> cases hT : d.tip <;> simp_all [or_assoc]
  · rintro ⟨d, hd, hu⟩
    obtain ⟨ws, hw⟩ := layout_axis?_iff.1 hd
    refine ⟨(i, .axis d ws), ⟨mem_of_tget hw, ?_⟩, rfl⟩
    cases hB : d.transB <;> cases hT : d.tip <;> simp_all [or_assoc]

theorem axesOf_pairwise {l : Layout} (h : tsorted l.points = true) (input : Nat) : (axesOf l input).Pairwise (fun a b => a < b) := by
  rw [tsorted_iff] at h
  exact List.pairwise_map.2 (h.filter _)

/-- The state with other inputs. -/
def State.withIsc (s : State) (i : Isc) : State := { s with isc := i }

theorem units_withIsc (s : State) (i : Isc) : (s.withIsc i).units = s.units := rfl

section
variable {s : State} {i' : Isc} (hpend : i'.scanPending = s.isc.scanPending) (input : Nat)

theorem State.ActsTo.handAnalog (s : State) (input : Nat) : s.ActsTo (s.handAnalog input) := by
  cases h : s.isc.scanPending with
  | false => rw [handAnalog_scanned h]; exact .recomputeAxes _ s
  | true => rw [handAnalog_unscanned h, foldl_axisHealth_shape]; exact .pmn _ s

include hpend in
/-- Every axis that uses a channel follows when it is handed over. -/
theorem handAnalog_follows : s.AxesFollow ((s.withIsc i').handAnalog input) input := by
  have hisc : ((s.withIsc i').handAnalog input).isc = i' := (isc_of_fixed (State.ActsTo.handAnalog (s.withIsc i') input).fixed)
  unfold State.AxesFollow
  intro healthy hsorted
  refine ⟨fun hp => ⟨axesOf s.layout input, axesOf_pairwise hsorted input, mem_axesOf hsorted input, ?_⟩, fun hp => ?_⟩
  · rw [hisc]
    exact handAnalog_scanned (s := s.withIsc i') (hpend.trans hp) input
  · have hheard := handAnalog_unscanned (s := s.withIsc i') (hisc ▸ hp) input
    have hpoints (q : Nat) : tget ((s.withIsc i').handAnalog input).pmn.points q =
        if q ∈ axesOf s.layout input then tget ((s.withIsc i').axisHealth q).pmn.points q else tget s.pmn.points q := by
      rw [hheard]
      exact axisHealth_pointAct.tget_foldl _ (s.withIsc i') q
    refine ⟨?_, fun i hi => ?_, fun i d y hi hd hy => ?_⟩
    · rw [hisc]
      conv_lhs => rw [hheard, foldl_axisHealth_shape]
      rw [hheard]
      rfl
    · rw [hpoints, if_neg (mt (mem_axesOf hsorted input i).1 hi)]
    · refine ⟨(s.withIsc i').axisHeard d y, ?_, rfl, ?_, ?_⟩
      · rw [axis?_iff, hpoints, if_pos ((mem_axesOf hsorted input i).2 hi)]
        exact axis?_iff.1 (axis?_axisHealth (s := s.withIsc i') hd hy)
      · show (s.withIsc i').channelOk d.transA.input = true ↔ _
        rw [channelOk_iff]
        simp only [healthy, hisc]
        exact Iff.rfl
      · show ((s.withIsc i').axisFields d y).healthyB = true ↔ _
        rw [axisFields_healthyB]
        simp only [channelOk_iff, healthy, hisc]
        exact Iff.rfl

include hpend in
/-- A handed channel leaves the scan as it was, and before the scan every axis but for the health of its channels. -/
theorem handAnalog_sampled : s.Sampled ((s.withIsc i').handAnalog input) := by
  have hacts := State.ActsTo.handAnalog (s.withIsc i') input
  have hisc : ((s.withIsc i').handAnalog input).isc = i' := (isc_of_fixed hacts.fixed)
  refine ⟨(State.HandsOn.of_conds rfl (List.prefix_refl _) ⟨rfl, rfl, rfl⟩ : s.HandsOn (s.withIsc i')).trans hacts.toHandsOn, ?_, by rw [hisc, hpend], ?_⟩
  · rw [hacts.fixed, hisc]
    rfl
  · intro hp i y hy
    have hheard := handAnalog_unscanned (s := s.withIsc i') (hpend.trans hp) input
    have hpoints : tget ((s.withIsc i').handAnalog input).pmn.points i =
        if i ∈ axesOf s.layout input then tget ((s.withIsc i').axisHealth i).pmn.points i else tget s.pmn.points i := by
      rw [hheard]
      exact axisHealth_pointAct.tget_foldl _ (s.withIsc i') i
    cases hd : s.layout.axis? i with
    | none =>
      have hkeep : ((s.withIsc i').handAnalog input).axis? i = some y := by
        rw [axis?_iff, hpoints, axisHealth_of_not_axis (s := s.withIsc i') (.inl hd)]
        exact (ite_self _).trans (axis?_iff.1 hy)
      exact ⟨⟨y.healthyA, y.healthyB, hkeep⟩, fun _ => hkeep⟩
    | some d =>
      refine ⟨?_, by simp⟩
      by_cases hi : i ∈ axesOf s.layout input
      · exact ⟨_, _, by rw [axis?_iff, hpoints, if_pos hi]; exact axis?_iff.1 (axis?_axisHealth (s := s.withIsc i') hd hy)⟩
      · exact ⟨y.healthyA, y.healthyB, by rw [axis?_iff, hpoints, if_neg hi]; exact axis?_iff.1 hy⟩

/-- What follows at a channel handed over follows also where the first completed scan comes with it. -/
theorem State.AxesFollow.firstScan {x : State} (h : s.AxesFollow x input) (hx : x.isc.scanPending = s.isc.scanPending) : s.AxesFollow x.firstScan input := by
  by_cases hs : x.scans
  · have hpend : x.firstScan.isc.scanPending = false := by rw [(isc_of_fixed (s := { x with isc := { x.isc with scanPending := false }, cev := { x.cev with started := true } }) (firstScan_fixed hs))]
    unfold State.AxesFollow
    intro healthy _
    refine ⟨fun hp => ?_, fun hp => ?_⟩
    · rw [← hx, hs.1] at hp; cases hp
    · rw [hpend] at hp; cases hp
  · rw [firstScan_of_not hs]; exact h

end

/-! ### Samples of a channel (R21, R22) -/

theorem inChannel_iff (v : Nat) : inChannel v = true ↔ 700 ≤ v ∧ v ≤ 4050 := by
  rw [inChannel, inRange, Bool.and_eq_true, decide_eq_true_iff, decide_eq_true_iff]
  exact Iff.rfl

section
variable (v : Nat) (a : Analog)

theorem judge_filtered : (a.judge v).filtered = some v ∧ (a.judge v).samples = a.samples := by
  unfold Analog.judge
  split <;> exact ⟨rfl, rfl⟩

/-- A value in the channel range (R22). -/
theorem judge_inside (h : inChannel v = true) :
    (a.health = none ∨ a.health = some .healthy → (a.judge v).health = some .healthy ∧ (a.judge v).recovery = a.recovery) ∧
      (a.health = some .unhealthy → (a.judge v).health = some .recovering ∧ (a.judge v).recovery = some 10) ∧
      (a.health = some .recovering → (a.judge v).health = some .recovering ∧ (a.judge v).recovery = a.recovery) := by
  refine ⟨fun hh => ?_, fun hh => ?_, fun hh => ?_⟩
  · rcases hh with hh | hh <;> simp [Analog.judge, hh, h]
  · simp [Analog.judge, hh, h, Config.recoveryTime]
  · simp [Analog.judge, hh, h]

/-- A value outside the channel range (R22). -/
theorem judge_outside (h : inChannel v = false) :
    (a.judge v).health = some .unhealthy ∧ (a.judge v).recovery = if a.health = some .recovering then none else a.recovery := by
  unfold Analog.judge
  cases hh : a.health with
  | none => simp [h]
  | some x => cases x <;> simp [h]

end

/-- A sample as R21 and R22 have it. -/
theorem sample_follows (count : Nat) (a : Analog) :
    let b := a.sample count
    b.samples = (count :: a.samples).take 4 ∧ (b.samples.length < 4 → b = { a with samples := b.samples }) ∧
      (b.samples.length = 4 →
        let v := (b.samples.sum + 2) / 4
        let inside := 700 ≤ v ∧ v ≤ 4050
        b.filtered = some v ∧
        (inside → a.health = none ∨ a.health = some .healthy → b.health = some .healthy ∧ b.recovery = a.recovery) ∧
        (inside → a.health = some .unhealthy → b.health = some .recovering ∧ b.recovery = some 10) ∧
        (inside → a.health = some .recovering → b.health = some .recovering ∧ b.recovery = a.recovery) ∧
        (¬ inside → b.health = some .unhealthy ∧ b.recovery = if a.health = some .recovering then none else a.recovery)) := by
  intro b
  have hle : ((count :: a.samples).take 4).length ≤ 4 := by rw [List.length_take]; omega
  by_cases h : ((count :: a.samples).take 4).length < 4
  · have hb : b = { a with samples := (count :: a.samples).take 4 } := by simp only [b, Analog.sample]; rw [if_pos h]
    rw [hb]
    exact ⟨rfl, fun _ => rfl, fun h4 => absurd h4 (by simp only; omega)⟩
  · let c : Analog := { a with samples := (count :: a.samples).take 4 }
    have hb : b = c.judge (filterValue c.samples) := by simp only [b, Analog.sample]; rw [if_neg h]
    have hs : b.samples = (count :: a.samples).take 4 := by rw [hb, (judge_filtered _ _).2]
    refine ⟨hs, fun h4 => absurd (hs ▸ h4) h, fun _ => ?_⟩
    intro v inside
    have hv : v = filterValue c.samples := by simp only [v, hs]; rfl
    have hin : inChannel (filterValue c.samples) = true ↔ inside := by rw [inChannel_iff, ← hv]
    rw [hb, hv]
    refine ⟨(judge_filtered _ _).1, fun hi => ?_, fun hi => ?_, fun hi => ?_, fun hi => ?_⟩
    · exact (judge_inside _ c (hin.2 hi)).1
    · exact (judge_inside _ c (hin.2 hi)).2.1
    · exact (judge_inside _ c (hin.2 hi)).2.2
    · exact judge_outside _ c (by rw [← Bool.not_eq_true, hin]; exact hi)

/-! ### The two commands -/

theorem recoveryTimer_idle {s : State} {input : Nat} (h : ∀ a, tget s.isc.analog input = some a → a.health ≠ some .recovering) : s.recovered input = s := by
  unfold State.recovered
  split
  · rfl
  · rename_i a ha
    rw [if_neg (by simp [h a ha])]

/-- The inputs with one channel changed. -/
def Isc.withAnalog (input : Nat) (b : Analog) (i : Isc) : Isc := { i with analog := tput i.analog input b }

theorem recovered_recovering {s : State} {input : Nat} {a : Analog} (ha : tget s.isc.analog input = some a) (hh : a.health = some .recovering) :
    s.recovered input = (s.withIsc (s.isc.withAnalog input { a with health := some .healthy, recovery := none })).handAnalog input := by
  simp only [State.recovered, ha, hh]
  rfl

theorem analogSample_unfiltered {s : State} {input count : Nat} {a : Analog} (ha : tget s.isc.analog input = some a) (hf : (a.sample count).filtered = none) :
    s.analogSample input count = s.withIsc (s.isc.withAnalog input (a.sample count)) := by
  simp only [State.analogSample, ha, hf]
  rfl

theorem analogSample_filtered {s : State} {input count v : Nat} {a : Analog} (ha : tget s.isc.analog input = some a) (hf : (a.sample count).filtered = some v) :
    s.analogSample input count = ((s.withIsc (s.isc.withAnalog input (a.sample count))).handAnalog input).firstScan := by
  simp only [State.analogSample, ha, hf]
  rfl

/-- A state in which a filtered value is missing is before its first completed scan. -/
theorem scansFirst_of_unfiltered {s : State} {input : Nat} {b : Analog} (hb : b.filtered = none) :
    s.ScansFirst (s.withIsc (s.isc.withAnalog input b)) := by
  unfold State.ScansFirst
  intro complete
  refine ⟨fun hc => absurd hb (hc.2.1 (input, b) (mem_of_tget (tget_tput_self _ _ _))), fun _ => ⟨rfl, rfl⟩⟩

/-- The parts that a change of inputs with its first scan leaves. -/
theorem firstScan_rest {s x : State} (hf : x.fixed = { s.fixed with isc := x.isc }) (hu : x.units = s.units) :
    x.firstScan.isc.field = x.isc.field ∧ x.firstScan.isc.feedback = x.isc.feedback ∧ x.firstScan.isc.analog = x.isc.analog ∧
      x.firstScan.amu = s.amu ∧ x.firstScan.lst = s.lst ∧ x.firstScan.sli = s.sli ∧ x.firstScan.units = s.units := by
  have hu' := (units_firstScan x).trans hu
  by_cases h : x.scans
  · have hfix := firstScan_fixed h
    have hisc : x.firstScan.isc = { x.isc with scanPending := false } := congrArg Fixed.isc hfix
    rw [hf] at hfix
    exact ⟨by rw [hisc], by rw [hisc], by rw [hisc], congrArg Fixed.amu hfix, congrArg Fixed.lst hfix, congrArg Fixed.sli hfix, hu'⟩
  · rw [firstScan_of_not h] at hu' ⊢
    exact ⟨rfl, rfl, rfl, congrArg Fixed.amu hf, congrArg Fixed.lst hf, congrArg Fixed.sli hf, hu'⟩

/-- Settling leaves the inputs, AMU, LST and SLI. -/
theorem finish_parts (e : State) : (finish e).isc = e.isc ∧ (finish e).amu = e.amu ∧ (finish e).lst = e.lst ∧ (finish e).sli = e.sli :=
  ⟨congrArg Fixed.isc (fixed_finish e), congrArg Fixed.amu (fixed_finish e), congrArg Fixed.lst (fixed_finish e), congrArg Fixed.sli (fixed_finish e)⟩

/-- Settles O36. -/
theorem analogChannelFollowsItsSamples : Obligations.AnalogChannelFollowsItsSamples := by
  refine fun input s hr => ⟨fun count h => exec_act_same hr (by simp [State.analogSample, h]), fun count a ha => ?_,
    fun h => exec_act_same hr (recoveryTimer_idle h), fun a ha hh => ?_⟩
  · refine ⟨_, exec_act hr _, ?_⟩
    obtain ⟨hsamples, hshort, hfull⟩ := sample_follows count a
    have hlen : (a.sample count).samples.length = min 4 (a.samples.length + 1) := by rw [hsamples, List.length_take, List.length_cons]
    let i' := s.isc.withAnalog input (a.sample count)
    have hget (e : State) (he : e.isc.analog = i'.analog) : tget (finish e).isc.analog input = some (a.sample count) ∧
        ∀ i, i ≠ input → tget (finish e).isc.analog i = tget s.isc.analog i := by
      rw [(finish_parts e).1, he]
      exact ⟨tget_tput_self _ _ _, fun i hi => tget_tput_of_ne _ _ (Ne.symm hi)⟩
    cases hfil : (a.sample count).filtered with
    | none =>
      rw [analogSample_unfiltered ha hfil]
      obtain ⟨hself, hother⟩ := hget (s.withIsc i') rfl
      obtain ⟨k1, k2, k3, -⟩ := finish_parts (s.withIsc i')
      refine ⟨⟨_, hself, hsamples, hshort, hfull⟩, fun h3 => ?_, fun _ _ => rfl, hother, scansFirst_of_unfiltered hfil, ?_⟩
      · have := (hfull (by omega)).1
        rw [hfil] at this
        cases this
      · rw [k1, k2, k3]
        exact ⟨rfl, rfl, rfl, rfl, rfl, rfl, rfl, rfl⟩
    | some v =>
      rw [analogSample_filtered ha hfil]
      have hacts := State.ActsTo.handAnalog (s.withIsc i') input
      have hisc : ((s.withIsc i').handAnalog input).isc = i' := (isc_of_fixed hacts.fixed)
      have hx := handAnalog_sampled (s := s) (i' := i') rfl input
      obtain ⟨hfield, hfeed, hanalog, hamu, hlst, -, hunits⟩ := firstScan_rest hx.fixed (hacts.units.trans (units_withIsc s i'))
      rw [hisc] at hfield hfeed hanalog
      obtain ⟨hself, hother⟩ := hget _ hanalog
      obtain ⟨k1, k2, k3, -⟩ := finish_parts ((s.withIsc i').handAnalog input).firstScan
      obtain ⟨h1, h2, h3, h4, -⟩ := State.units_eq hunits
      refine ⟨⟨_, hself, hsamples, hshort, hfull⟩, fun _ => (handAnalog_follows (i' := i') rfl input).firstScan input hx.pending, fun h3 hno => ?_, hother,
        hx.scansFirst, ?_⟩
      · rw [hshort (by omega)] at hfil
        exact absurd (hno.symm.trans hfil) (by simp)
      · rw [k1, k2, k3]
        exact ⟨hfield, hfeed, hamu, hlst, h4, h1, h2, h3⟩
  · refine ⟨_, exec_act hr _, ?_⟩
    rw [recovered_recovering ha hh]
    let i' := s.isc.withAnalog input { a with health := some .healthy, recovery := none }
    have hacts := State.ActsTo.handAnalog (s.withIsc i') input
    obtain ⟨p1, p2, p3, -⟩ := fixed_parts hacts.fixed
    obtain ⟨k1, k2, k3, -⟩ := finish_parts ((s.withIsc i').handAnalog input)
    obtain ⟨h1, h2, h3, h4, -⟩ := State.units_eq (hacts.units.trans (units_withIsc s i'))
    rw [k1, k2, k3, p2, p1, p3]
    exact ⟨tget_tput_self _ _ _, handAnalog_follows (i' := i') rfl input, fun i hi => tget_tput_of_ne _ _ (Ne.symm hi), rfl, rfl, rfl, rfl, h4, h1, h2, h3⟩

end Sys2Proof.Machine
end

section
namespace Sys2Proof.Machine

/-! ### A lock follows its sensors (R25, R26) -/

theorem layout_lock?_iff {l : Layout} {i : Nat} {d : LockDef} : l.lock? i = some d ↔ tget l.points i = some (.lock d) := by
  unfold Layout.lock?
  split
  · rename_i h; simp [h]
  · rename_i h
    simp only [reduceCtorEq, false_iff]
    exact h _

/-- The confirmed state that a lock's two sensors give. -/
def State.sensed (s : State) (d : LockDef) : Confirmed := Confirmed.ofSensors (s.debounced d.engagedIn) (s.debounced d.retractedIn)

/-- The lock record with a new confirmed state and its conflict timer. -/
def LockDyn.moved (y : LockDyn) (new : Confirmed) : LockDyn :=
  { y with confirmed := new, conflict := if new = .conflict then some 10 else none }

section
variable {s : State} {i : Nat} {d : LockDef} {y : LockDyn}

theorem lockSensors_of_not_lock (h : s.layout.lock? i = none ∨ s.lock? i = none) : s.lockSensors i = s := by
  unfold State.lockSensors
  split
  · simp_all
  · rfl

theorem lockSensors_still (hd : s.layout.lock? i = some d) (hy : s.lock? i = some y) (h : s.sensed d = y.confirmed) : s.lockSensors i = s := by
  have : Confirmed.ofSensors (s.debounced d.engagedIn) (s.debounced d.retractedIn) = y.confirmed := h
  simp [State.lockSensors, hd, hy, this]

/-- A changed confirmed state: the record, then CEV and AEU, then the unit of the reserving motion. -/
theorem lockSensors_moved (hd : s.layout.lock? i = some d) (hy : s.lock? i = some y) (h : s.sensed d ≠ y.confirmed) : s.lockSensors i =
    (if y.reserved.isSome then emit (.lockMoved i) else id)
      (State.superviseLock i d.role y.confirmed (s.sensed d) ((s.modLock i (fun x => x.moved (s.sensed d))).pointToCev i)) := by
  have hne : ¬ Confirmed.ofSensors (s.debounced d.engagedIn) (s.debounced d.retractedIn) = y.confirmed := h
  simp only [State.lockSensors, hd, hy, beq_iff_eq, hne, if_false]
  split <;> rfl

theorem State.ActsTo.superviseLock (i : Nat) (r : Role) (old new : Confirmed) (s : State) : s.ActsTo (s.superviseLock i r old new) := by
  unfold State.superviseLock
  repeat' split
  · exact .clearAlarm _ _ s
  · exact .raise _ _ s
  · exact .refl s
  · exact .refl s

theorem superviseLock_parts (i : Nat) (r : Role) (old new : Confirmed) (s : State) :
    (s.superviseLock i r old new).pmn = s.pmn ∧ (s.superviseLock i r old new).cev = s.cev ∧ (s.superviseLock i r old new).lst = s.lst := by
  unfold State.superviseLock
  repeat' split
  all_goals exact ⟨rfl, rfl, rfl⟩

theorem State.ActsTo.lockSensors (i : Nat) (s : State) : s.ActsTo (s.lockSensors i) := by
  cases hd : s.layout.lock? i with
  | none => rw [lockSensors_of_not_lock (.inl hd)]; exact .refl s
  | some d =>
    cases hy : s.lock? i with
    | none => rw [lockSensors_of_not_lock (.inr hy)]; exact .refl s
    | some y =>
      by_cases h : s.sensed d = y.confirmed
      · rw [lockSensors_still hd hy h]; exact .refl s
      · have hacts := ((State.ActsTo.modLock i (fun x => x.moved (s.sensed d)) s).trans (.pointToCev i _)).trans
          (.superviseLock i d.role y.confirmed (s.sensed d) _)
        rw [lockSensors_moved hd hy h]
        split
        · exact hacts.trans (.emit _ _)
        · exact hacts

theorem tget_lockSensors (hd : s.layout.lock? i = some d) (hy : s.lock? i = some y) (q : Nat) : tget (s.lockSensors i).pmn.points q =
    if q = i then some (.lock (if s.sensed d = y.confirmed then y else y.moved (s.sensed d))) else tget s.pmn.points q := by
  by_cases h : s.sensed d = y.confirmed
  · rw [lockSensors_still hd hy h, if_pos h]
    split
    · rename_i hq; rw [hq, lock?_iff.1 hy]
    · rfl
  · have hp : (s.lockSensors i).pmn = (s.modLock i (fun x => x.moved (s.sensed d))).pmn := by
      rw [lockSensors_moved hd hy h]
      split
      · rw [emit_pmn, (superviseLock_parts _ _ _ _ _).1, pointToCev_pmn]
      · rw [id, (superviseLock_parts _ _ _ _ _).1, pointToCev_pmn]
    rw [hp, modLock_present hy, if_neg h]
    refine (tget_tput _ _ _ _).trans ?_
    split
    · rename_i hq; rw [if_pos hq.symm]
    · rename_i hq; rw [if_neg (Ne.symm hq)]

theorem lock?_lockSensors (hd : s.layout.lock? i = some d) (hy : s.lock? i = some y) :
    (s.lockSensors i).lock? i = some (if s.sensed d = y.confirmed then y else y.moved (s.sensed d)) := by
  rw [lock?_iff, tget_lockSensors hd hy, if_pos rfl]

@[simp] theorem reservedBy_lockSensors (i : Nat) (s : State) (q : Nat) : (s.lockSensors i).reservedBy q = s.reservedBy q := by
  cases hd : s.layout.lock? i with
  | none => rw [lockSensors_of_not_lock (.inl hd)]
  | some d =>
    cases hy : s.lock? i with
    | none => rw [lockSensors_of_not_lock (.inr hy)]
    | some y =>
      rw [State.reservedBy, tget_lockSensors hd hy, State.reservedBy]
      split
      · rename_i hq
        rw [hq, lock?_iff.1 hy]
        split <;> rfl
      · rfl

theorem reservedBy_foldl_lockSensors (is : List Nat) (s : State) (q : Nat) : (is.foldl (fun x i => x.lockSensors i) s).reservedBy q = s.reservedBy q := by
  induction is generalizing s with
  | nil => rfl
  | cons i is ih => rw [List.foldl_cons, ih, reservedBy_lockSensors]

theorem sensed_congr {e : State} (h : e.isc = s.isc) (d : LockDef) : e.sensed d = s.sensed d := by
  simp only [State.sensed, State.debounced, h]

end

theorem lockSensors_pointAct : PointAct State.lockSensors where
  fixed i s := (State.ActsTo.lockSensors i s).fixed
  others i s q hq := by
    cases hd : s.layout.lock? i with
    | none => rw [lockSensors_of_not_lock (.inl hd)]
    | some d =>
      cases hy : s.lock? i with
      | none => rw [lockSensors_of_not_lock (.inr hy)]
      | some y => rw [tget_lockSensors hd hy, if_neg hq]
  reads i s e hl hc hp := by
    have hax : e.lock? i = s.lock? i := by rw [State.lock?, State.lock?, hp]
    cases hd : s.layout.lock? i with
    | none => rw [lockSensors_of_not_lock (.inl (hl ▸ hd)), lockSensors_of_not_lock (.inl hd), hp]
    | some d =>
      cases hy : s.lock? i with
      | none => rw [lockSensors_of_not_lock (.inr (hax.trans hy)), lockSensors_of_not_lock (.inr hy), hp]
      | some y => rw [tget_lockSensors hd hy, tget_lockSensors (hl ▸ hd) (hax.trans hy), sensed_congr hc, if_pos rfl, if_pos rfl]
  twice i s := by
    have hfix := (State.ActsTo.lockSensors i s).fixed
    cases hd : s.layout.lock? i with
    | none => rw [lockSensors_of_not_lock (.inl hd), lockSensors_of_not_lock (.inl hd)]
    | some d =>
      cases hy : s.lock? i with
      | none => rw [lockSensors_of_not_lock (.inr hy), lockSensors_of_not_lock (.inr hy)]
      | some y =>
        have hd' : (s.lockSensors i).layout.lock? i = some d := by rw [layout_of_fixed hfix]; exact hd
        have hnew : s.sensed d = (if s.sensed d = y.confirmed then y else y.moved (s.sensed d)).confirmed := by
          split
          · assumption
          · rfl
        rw [lockSensors_still hd' (lock?_lockSensors hd hy) ((sensed_congr (isc_of_fixed hfix) d).trans hnew)]

/-! ### Locks, one after another -/

/-- The conditions that name the point are current, and where a motion reserves the lock its unit has been told of the change. -/
def State.LockTold (s : State) (p : Nat) : Prop :=
  s.CevCurrent p ∧ ((s.reservedBy p).isSome → Task.lockMoved p ∈ s.todo)

/-- The lock's sensors give another state than it has. -/
def State.LockDiffers (s : State) (p : Nat) : Prop := ∃ d y, s.layout.lock? p = some d ∧ s.lock? p = some y ∧ s.sensed d ≠ y.confirmed

theorem State.CevCurrent.emit {s : State} {p : Nat} (h : s.CevCurrent p) (t : Task) : (Machine.emit t s).CevCurrent p := h.congr rfl rfl (fun _ => rfl)

/-- A recompute of any conditions leaves current what was so. -/
theorem State.CevCurrent.recompute {s : State} {p : Nat} (h : s.CevCurrent p) (ids : List Nat) : (s.recompute ids).CevCurrent p := by
  intro hs hn
  have hacts := State.ActsTo.recompute ids s
  have hlay := layout_of_fixed hacts.fixed
  have hs' : s.cev.started = true := (started_of_fixed hacts.fixed).symm.trans hs
  have hn' : s.cev.conds.length = 32 := hacts.length.symm.trans hn
  refine ⟨fun i ts h8 hi ht hm => ?_, closure_recompute hs' _⟩
  rw [evalCond_recompute _ _ (by omega) (by omega), cond_recompute]
  split
  · rfl
  · exact (h hs' hn').1 i ts h8 hi (hlay ▸ ht) hm

theorem lockSensors_current {s : State} {i p : Nat} {d : LockDef} {y : LockDyn} (hd : s.layout.lock? i = some d) (hy : s.lock? i = some y)
    (h : s.sensed d ≠ y.confirmed) (hp : p = i ∨ s.CevCurrent p) : (s.lockSensors i).CevCurrent p := by
  have hm := modLock_present hy (fun x => x.moved (s.sensed d))
  have hcur : ((s.modLock i (fun x => x.moved (s.sensed d))).pointToCev i).CevCurrent p := by
    refine State.CevCurrent.handed hp (by rw [hm]) (by rw [hm]) (fun k hk => .of_eq ?_)
    rw [hm]
    exact tget_tput_of_ne _ _ (Ne.symm hk)
  obtain ⟨hpmn, hcev, hlst⟩ := superviseLock_parts i d.role y.confirmed (s.sensed d) ((s.modLock i (fun x => x.moved (s.sensed d))).pointToCev i)
  have hsup := hcur.congr hcev hlst (State.SeesSame.of_pmn hpmn)
  rw [lockSensors_moved hd hy h]
  split
  · exact hsup.emit _
  · exact hsup

/-- A lock that takes another state has its conditions and its unit told; what had been told before stays told. -/
theorem State.LockTold.lockSensors {s : State} {i p : Nat} (h : s.LockTold p ∨ p = i ∧ s.LockDiffers p) : (s.lockSensors i).LockTold p := by
  by_cases hdiff : s.LockDiffers i
  · obtain ⟨d, y, hd, hy, hne⟩ := hdiff
    refine ⟨lockSensors_current hd hy hne (h.symm.imp And.left And.left), fun hr => ?_⟩
    rw [reservedBy_lockSensors] at hr
    by_cases hpi : p = i
    · subst hpi
      have hr' : y.reserved.isSome = true := by simpa [State.reservedBy, lock?_iff.1 hy, PointDyn.reserved] using hr
      rw [lockSensors_moved hd hy hne, if_pos hr']
      exact List.mem_append_right _ (List.mem_singleton_self _)
    · exact (State.ActsTo.lockSensors i s).todo.subset ((h.resolve_right (fun hh => hpi hh.1)).2 hr)
  · have hsame : s.lockSensors i = s := by
      cases hd : s.layout.lock? i with
      | none => exact lockSensors_of_not_lock (.inl hd)
      | some d =>
        cases hy : s.lock? i with
        | none => exact lockSensors_of_not_lock (.inr hy)
        | some y => exact lockSensors_still hd hy (not_not.1 fun hne => hdiff ⟨d, y, hd, hy, hne⟩)
    rw [hsame]
    exact h.resolve_right (fun hh => hdiff (hh.1 ▸ hh.2))

theorem State.LockDiffers.lockSensors {s : State} {i p : Nat} (h : s.LockDiffers p) (hne : p ≠ i) : (s.lockSensors i).LockDiffers p := by
  obtain ⟨d, y, hd, hy, hs⟩ := h
  have hfix := (State.ActsTo.lockSensors i s).fixed
  refine ⟨d, y, by rw [layout_of_fixed hfix]; exact hd, ?_, by rw [sensed_congr (isc_of_fixed hfix)]; exact hs⟩
  rw [lock?_iff, lockSensors_pointAct.others i s p hne]
  exact lock?_iff.1 hy

theorem State.LockTold.foldl {s : State} {p : Nat} (is : List Nat) (h : s.LockTold p ∨ p ∈ is ∧ s.LockDiffers p) :
    (is.foldl (fun x i => x.lockSensors i) s).LockTold p := by
  induction is generalizing s with
  | nil => exact h.resolve_right (by simp)
  | cons i is ih =>
    refine ih ?_
    rcases h with h | ⟨hm, h⟩
    · exact .inl (.lockSensors (.inl h))
    · by_cases hp : p = i
      · exact .inl (.lockSensors (.inr ⟨hp, h⟩))
      · exact .inr ⟨(List.mem_cons.1 hm).resolve_left hp, h.lockSensors hp⟩

/-! ### The changes of one sample instant (R18, R19) -/

/-- A field input's changes are handed over: its debounced value changes, or it has been rescanned. -/
def Isc.Handed (i i' : Isc) (k : Nat) : Prop :=
  (tget i'.field k).any (fun d => d.debounced) ≠ (tget i.field k).any (fun d => d.debounced) ∨
    ∃ x x', tget i.field k = some x ∧ tget i'.field k = some x' ∧ x.rescan = true ∧ x'.rescan = false

/-- The lists of field inputs and of running feedbacks that a sample hands over are those it changes. -/
structure Isc.Hands (i i' : Isc) (field : List Nat) : Prop where
  pending : i'.scanPending = i.scanPending
  kept    : ∀ k, (tget i'.field k).isSome = (tget i.field k).isSome
  all     : ∀ k, i.Handed i' k → k ∈ field
  only    : tsorted i.field = true → ∀ k ∈ field, i.Handed i' k

theorem debounced_eq (s : State) (k : Nat) : s.debounced k = (tget s.isc.field k).any (fun d => d.debounced) := by
  unfold State.debounced
  cases tget s.isc.field k <;> rfl

theorem Isc.Hands.present {i i' : Isc} {field : List Nat} (h : i.Hands i' field) {k : Nat} (hk : i.Handed i' k) : (tget i'.field k).isSome = true := by
  rcases hk with hk | ⟨-, x', -, hx', -⟩
  · cases h1 : tget i'.field k with
    | some x => rfl
    | none =>
      have h2 : tget i.field k = none := by simpa [h1] using (h.kept k).symm
      simp [h1, h2] at hk
  · rw [hx']; rfl

/-- The value of the condition of a present input (R38). -/
theorem inputCondition_present {s : State} {k : Nat} (h : (tget s.isc.field k).isSome = true) : s.inputCondition (some k) = if s.debounced k then .yes else .no := by
  obtain ⟨d, hd⟩ := Option.isSome_iff_exists.1 h
  simp only [State.inputCondition, State.debounced, Option.bind_some, hd]
  rfl

/-- The locks of which an input of the list is a sensor. -/
def Layout.locksUsing (l : Layout) (field : List Nat) : List Nat := (l.points.filter (fun e => (sensorsOf e.2).any field.contains)).map (fun e => e.1)

/-- The conditions c4 and c5, as far as the list names their inputs. -/
def Layout.inputConds (l : Layout) (field : List Nat) : List Nat :=
  (if l.header.any (fun h => h.deckClear.any field.contains) then [4] else []) ++ (if l.header.any (fun h => h.linkspan.any field.contains) then [5] else [])

/-- The locks take the changes of a sample. -/
def State.takeLocks (field : List Nat) (s : State) : State := (Layout.locksUsing s.layout field).foldl (fun x i => x.lockSensors i) s

/-- The locks and the conditions take the changes of a sample. -/
def State.takeField (field : List Nat) (s : State) : State :=
  if (Layout.inputConds s.layout field).isEmpty then s.takeLocks field else (s.takeLocks field).recompute (Layout.inputConds s.layout field)

/-- HPA is told of the running feedbacks of a list. -/
def State.takeFeedback (feedback : List Nat) (s : State) : State :=
  { s with todo := s.todo ++ feedback.map (fun p => .feedback p ((tget s.isc.feedback p).any (fun d => d.debounced))) }

theorem foldl_emit_feedback (feedback : List Nat) (s : State) :
    feedback.foldl (fun x p => emit (.feedback p ((tget x.isc.feedback p).any (fun d => d.debounced))) x) s = s.takeFeedback feedback := by
  induction feedback generalizing s with
  | nil => simp [State.takeFeedback]
  | cons p ps ih => rw [List.foldl_cons, ih]; simp [State.takeFeedback, emit]

theorem handDiscrete_eq (field feedback : List Nat) (s : State) : s.handDiscrete field feedback = (s.takeField field).takeFeedback feedback := by
  have key (a b : Bool) (x y : State) :
      (if a || b then x else y) = if ((if a then [4] else [] : List Nat) ++ (if b then [5] else [])).isEmpty then y else x := by
    cases a <;> cases b <;> rfl
  rw [← foldl_emit_feedback, State.takeField, Layout.inputConds, ← key]
  rfl

theorem State.ActsTo.takeLocks (field : List Nat) (s : State) : s.ActsTo (s.takeLocks field) := .foldl (fun x i => .lockSensors i x) _ s

theorem State.ActsTo.takeField (field : List Nat) (s : State) : s.ActsTo (s.takeField field) := by
  unfold State.takeField
  split
  · exact .takeLocks field s
  · exact (State.ActsTo.takeLocks field s).trans (.recompute _ _)

theorem State.ActsTo.takeFeedback (feedback : List Nat) (s : State) : s.ActsTo (s.takeFeedback feedback) := .of_cev_eq rfl rfl rfl (List.prefix_append _ _)

theorem takeField_pmn (field : List Nat) (s : State) : (s.takeField field).pmn = (s.takeLocks field).pmn := by
  unfold State.takeField
  split
  · rfl
  · exact recompute_pmn _ _

theorem State.CevCurrent.takeField {s : State} {field : List Nat} {p : Nat} (h : (s.takeLocks field).CevCurrent p) : (s.takeField field).CevCurrent p := by
  unfold State.takeField
  split
  · exact h
  · exact h.recompute _

/-- A condition of an input that is handed over takes its debounced value (R37, R38). -/
theorem cond_takeField {s : State} {field : List Nat} {i : Nat} (hi : i ∈ Layout.inputConds s.layout field) (hs : s.cev.started = true)
    (hn : s.cev.conds.length = 32) : (s.takeField field).cond i = (s.takeField field).evalCond i := by
  have hacts := State.ActsTo.takeLocks field s
  have hi' : i = 4 ∨ i = 5 := by
    simp only [Layout.inputConds, List.mem_append] at hi
    rcases hi with hi | hi
    · split at hi <;> simp_all
    · split at hi <;> simp_all
  have hne : (Layout.inputConds s.layout field).isEmpty = false := List.isEmpty_eq_false_iff.2 (List.ne_nil_of_mem hi)
  rw [State.takeField, hne, if_neg (by simp), cond_recompute, evalCond_recompute _ _ (by omega) (by omega),
    if_pos ⟨(started_of_fixed hacts.fixed).trans hs, hi, by rw [hacts.length, hn]; omega⟩]

end Sys2Proof.Machine
end

section
namespace Sys2Proof.Machine

/-! ### What follows a sample instant (R24, R25, R37) -/

/-- The state that a sample leaves whose inputs are `i'`, with the lists of what it hands over. -/
def State.afterSample (s : State) (i' : Isc) (field feedback : List Nat) : State := ((s.withIsc i').handDiscrete field feedback).firstScan

theorem mem_locksUsing {l : Layout} {field : List Nat} {p : Nat} {d : LockDef} (hd : l.lock? p = some d)
    (h : d.engagedIn ∈ field ∨ d.retractedIn ∈ field) : p ∈ Layout.locksUsing l field := by
  refine List.mem_map.2 ⟨(p, .lock d), List.mem_filter.2 ⟨mem_of_tget (layout_lock?_iff.1 hd), ?_⟩, rfl⟩
  simpa [sensorsOf] using h

theorem of_mem_locksUsing {l : Layout} {field : List Nat} {p : Nat} {d : LockDef} (hs : tsorted l.points = true) (hd : l.lock? p = some d)
    (h : p ∈ Layout.locksUsing l field) : d.engagedIn ∈ field ∨ d.retractedIn ∈ field := by
  obtain ⟨⟨q, x⟩, hm, rfl⟩ := List.mem_map.1 h
  obtain ⟨hm, hu⟩ := List.mem_filter.1 hm
  have hx : x = .lock d := by
    have := (tget_of_mem hs hm).symm.trans (layout_lock?_iff.1 hd)
    simpa using this
  simpa [hx, sensorsOf] using hu

section
variable {s : State} {i' : Isc} {field : List Nat} (feedback : List Nat)

theorem State.ActsTo.handDiscrete (field feedback : List Nat) (s : State) : s.ActsTo (s.handDiscrete field feedback) := by
  rw [handDiscrete_eq]
  exact (State.ActsTo.takeField field s).trans (.takeFeedback feedback _)

theorem tget_handDiscrete (q : Nat) : tget ((s.withIsc i').handDiscrete field feedback).pmn.points q =
    if q ∈ Layout.locksUsing s.layout field then tget ((s.withIsc i').lockSensors q).pmn.points q else tget s.pmn.points q := by
  rw [handDiscrete_eq]
  show tget ((s.withIsc i').takeField field).pmn.points q = _
  rw [takeField_pmn]
  exact lockSensors_pointAct.tget_foldl _ (s.withIsc i') q

/-- At a sample PMN and CEV act on the inputs taken, and no axis before the scan. -/
theorem handDiscrete_sampled (h : s.isc.Hands i' field) : s.Sampled ((s.withIsc i').handDiscrete field feedback) := by
  have hacts := State.ActsTo.handDiscrete field feedback (s.withIsc i')
  have hisc := (isc_of_fixed hacts.fixed)
  refine ⟨(State.HandsOn.of_conds rfl (List.prefix_refl _) ⟨rfl, rfl, rfl⟩ : s.HandsOn (s.withIsc i')).trans hacts.toHandsOn, ?_, ?_, fun _ i y hy => ?_⟩
  · rw [hacts.fixed, hisc]
    rfl
  · rw [hisc]
    exact h.pending
  · have hlock : (s.withIsc i').lock? i = none := by
      show s.lock? i = none
      simp [State.lock?, axis?_iff.1 hy]
    have hkeep : ((s.withIsc i').handDiscrete field feedback).axis? i = some y := by
      rw [axis?_iff, tget_handDiscrete, lockSensors_of_not_lock (.inr hlock)]
      exact (ite_self _).trans (axis?_iff.1 hy)
    exact ⟨⟨y.healthyA, y.healthyB, hkeep⟩, fun _ => hkeep⟩

theorem afterSample_rest : (s.afterSample i' field feedback).isc.field = i'.field ∧ (s.afterSample i' field feedback).isc.feedback = i'.feedback ∧
    (s.afterSample i' field feedback).isc.analog = i'.analog ∧ (s.afterSample i' field feedback).amu = s.amu ∧
    (s.afterSample i' field feedback).lst = s.lst ∧ (s.afterSample i' field feedback).sli = s.sli ∧ (s.afterSample i' field feedback).units = s.units := by
  have hacts := State.ActsTo.handDiscrete field feedback (s.withIsc i')
  have hisc : ((s.withIsc i').handDiscrete field feedback).isc = i' := (isc_of_fixed hacts.fixed)
  have hrest := firstScan_rest (s := s) (x := (s.withIsc i').handDiscrete field feedback) (by rw [hacts.fixed, hisc]; rfl) (hacts.units.trans (units_withIsc s i'))
  rwa [hisc] at hrest

/-- The records of the points after the sample and its first scan, where the layout has a lock. -/
theorem tget_afterSample {p : Nat} {d : LockDef} (hd : s.layout.lock? p = some d) : tget (s.afterSample i' field feedback).pmn.points p =
    if p ∈ Layout.locksUsing s.layout field then tget ((s.withIsc i').lockSensors p).pmn.points p else tget s.pmn.points p := by
  rw [← tget_handDiscrete feedback]
  have hlay : ((s.withIsc i').handDiscrete field feedback).layout = s.layout :=
    layout_of_fixed (s := s.withIsc i') (State.ActsTo.handDiscrete field feedback (s.withIsc i')).fixed
  by_cases hsc : ((s.withIsc i').handDiscrete field feedback).scans
  · have hax : (((s.withIsc i').handDiscrete field feedback).layout.axis? p).isSome = false := by
      rw [hlay, Layout.axis?, layout_lock?_iff.1 hd]
      rfl
    rw [State.afterSample, tget_firstScan hsc, hax, if_neg (by simp)]
  · rw [State.afterSample, firstScan_of_not hsc]

/-- A lock of the list whose sensors give another state has its conditions and its unit told. -/
theorem afterSample_told (h : s.isc.Hands i' field) {p : Nat} (hp : p ∈ Layout.locksUsing s.layout field) (hdiff : (s.withIsc i').LockDiffers p) :
    s.CevFollows (s.afterSample i' field feedback) p ∧
      ((s.reservedBy p).isSome → Task.lockMoved p ∈ (s.afterSample i' field feedback).todo) := by
  have hs := handDiscrete_sampled feedback h
  have htold : ((s.withIsc i').takeLocks field).LockTold p := State.LockTold.foldl (s := s.withIsc i') _ (.inr ⟨hp, hdiff⟩)
  have hcur : ((s.withIsc i').handDiscrete field feedback).CevCurrent p := by
    rw [handDiscrete_eq]
    exact htold.1.takeField.congr rfl rfl (fun _ => rfl)
  have hscan := State.HandsOn.firstScan ((s.withIsc i').handDiscrete field feedback)
  refine ⟨?_, fun hr => hscan.todo.subset ?_⟩
  · obtain ⟨-, -, -, -, hlst, -⟩ := afterSample_rest (s := s) (i' := i') (field := field) feedback
    refine (hs.hands.trans hscan).cevFollows (fun hst => ?_) hlst ?_
    · by_cases hsc : ((s.withIsc i').handDiscrete field feedback).scans
      · exact congrArg Fixed.started (firstScan_fixed hsc)
      · rw [firstScan_of_not hsc]
        exact (congrArg Fixed.started hs.fixed).trans hst
    · by_cases hsc : ((s.withIsc i').handDiscrete field feedback).scans
      · exact firstScan_current hsc p
      · rw [firstScan_of_not hsc]
        exact hcur
  · rw [handDiscrete_eq]
    have hsub : ((s.withIsc i').takeLocks field).todo ⊆ (((s.withIsc i').takeField field).takeFeedback feedback).todo := by
      refine List.Subset.trans ?_ (State.ActsTo.takeFeedback feedback _).todo.subset
      unfold State.takeField
      split
      · exact fun _ h => h
      · exact (State.ActsTo.recompute _ _).todo.subset
    exact hsub (htold.2 ((reservedBy_foldl_lockSensors _ (s.withIsc i') p).symm ▸ hr))

theorem debounced_afterSample (k : Nat) : (s.afterSample i' field feedback).debounced k = (s.withIsc i').debounced k := by
  rw [debounced_eq, debounced_eq, (afterSample_rest feedback).1]
  rfl

/-- c4 and c5 follow an input that is handed over. -/
theorem cond_afterSample (h : s.isc.Hands i' field) (hst : s.cev.started = true) (hn : s.cev.conds.length = 32) {i : Nat}
    (hi : i ∈ Layout.inputConds s.layout field) (hi' : i = 4 ∨ i = 5) :
    (s.afterSample i' field feedback).cond i = (s.afterSample i' field feedback).evalCond i := by
  have hs := handDiscrete_sampled feedback h
  by_cases hsc : ((s.withIsc i').handDiscrete field feedback).scans
  · exact (firstScan_conds hsc (hs.hands.length.trans hn)).1 i (by omega) (by omega) (by omega)
  · rw [State.afterSample, firstScan_of_not hsc, handDiscrete_eq]
    exact cond_takeField (s := s.withIsc i') hi hst hn

/-- At a sample the locks follow their sensors, and c4 and c5 their inputs. -/
theorem afterSample_locksFollow (h : s.isc.Hands i' field) : s.LocksFollow (s.afterSample i' field feedback) := by
  obtain ⟨hfield, -, -, -, hlst, -, -⟩ := afterSample_rest (s := s) (i' := i') (field := field) feedback
  have hlay := layout_of_lst hlst
  have hdeb := debounced_afterSample (s := s) (i' := i') (field := field) feedback
  unfold State.LocksFollow
  intro handed
  have hhanded (k : Nat) : handed k ↔ s.isc.Handed i' k := by
    simp only [handed, Isc.Handed, hdeb, hfield, debounced_eq]
    exact Iff.rfl
  refine ⟨fun hst hn x k hh hk => ?_, fun p d y hd hy => ?_⟩
  · have hk' := (hhanded k).1 hk
    have hval : (s.afterSample i' field feedback).inputCondition (some k) = if (s.afterSample i' field feedback).debounced k then .yes else .no :=
      inputCondition_present (by rw [hfield]; exact h.present hk')
    refine ⟨fun hc => ?_, fun hc => ?_⟩
    · rw [cond_afterSample feedback h hst hn (i := 4) (by simp [Layout.inputConds, hh, hc, h.all k hk']) (.inl rfl), ← hval]
      simp only [State.evalCond, hlay, hh, Option.bind_some, hc]
    · rw [cond_afterSample feedback h hst hn (i := 5) (by simp [Layout.inputConds, hh, hc, h.all k hk']) (.inr rfl), ← hval]
      simp only [State.evalCond, hlay, hh, Option.bind_some, hc]
  · intro new
    have hlock := layout_lock?_iff.2 hd
    have hnew : new = (s.withIsc i').sensed d := by simp only [new, hdeb]; rfl
    have hpoint := tget_afterSample (s := s) (i' := i') (field := field) feedback hlock
    have hkeep (hk : p ∉ Layout.locksUsing s.layout field ∨ (s.withIsc i').sensed d = y.confirmed) :
        (s.afterSample i' field feedback).lock? p = some y := by
      rw [lock?_iff, hpoint]
      rcases hk with hk | hk
      · rw [if_neg hk, lock?_iff.1 hy]
      · rw [lockSensors_still (s := s.withIsc i') hlock hy hk]
        exact (ite_self _).trans (lock?_iff.1 hy)
    refine ⟨fun heq => hkeep (.inr (hnew.symm.trans heq)), fun hne hh => ?_, fun hsp hsf he hr => hkeep (.inl fun hp => ?_)⟩
    · have hp : p ∈ Layout.locksUsing s.layout field :=
        mem_locksUsing hlock (hh.imp (fun k => h.all _ ((hhanded _).1 k)) (fun k => h.all _ ((hhanded _).1 k)))
      have hdiff : (s.withIsc i').sensed d ≠ y.confirmed := hnew ▸ hne
      obtain ⟨hcev, htold⟩ := afterSample_told feedback h hp ⟨d, y, hlock, hy, hdiff⟩
      refine ⟨?_, hcev, fun hres => htold (by simpa [State.reservedBy, lock?_iff.1 hy, PointDyn.reserved] using hres)⟩
      rw [lock?_iff, hpoint, if_pos hp, tget_lockSensors (s := s.withIsc i') hlock hy, if_pos rfl, if_neg hdiff, hnew]
      rfl
    · rcases of_mem_locksUsing hsp hlock hp with hk | hk
      · exact he ((hhanded _).2 (h.only hsf _ hk))
      · exact hr ((hhanded _).2 (h.only hsf _ hk))

end

/-! ### The sample of an input (R19, R20) -/

theorem sample_fst (n : Nat) (raw : Bool) (d : Discrete) : (d.sample n raw).1 =
    if d.rescan then { d with debounced := raw, count := 0, rescan := false }
    else if raw = d.debounced then { d with count := 0 }
    else if d.count + 1 < n then { d with count := d.count + 1 }
    else { d with debounced := raw, count := 0 } := by
  unfold Discrete.sample
  repeat' split
  all_goals rfl

/-- A sample hands over an input that it rescans or whose value it changes. -/
theorem sample_snd (n : Nat) (raw : Bool) (d : Discrete) : (d.sample n raw).2 = true ↔
    (d.sample n raw).1.debounced ≠ d.debounced ∨ d.rescan = true ∧ (d.sample n raw).1.rescan = false := by
  unfold Discrete.sample
  repeat' split
  all_goals simp_all

theorem sample_given {n : Nat} {raw : Bool} {d : Discrete} (h : d.rescan = true ∨ (raw ≠ d.debounced ∧ n ≤ d.count + 1)) :
    (d.sample n raw).2 = true ∧ (d.sample n raw).1.debounced = raw := by
  unfold Discrete.sample
  rcases h with h | ⟨h1, h2⟩
  · rw [if_pos h]; exact ⟨rfl, rfl⟩
  · split
    · exact ⟨rfl, rfl⟩
    · rw [if_neg (by omega)]; exact ⟨rfl, rfl⟩

/-- One sample of every input of a table. -/
def sampled (t : Tuning) (on : Nat → Bool) (f : Table Discrete) : Table (Discrete × Bool) := tmap (fun i (d : Discrete) => d.sample (sampleCount t d.cls) (on i)) f

/-- The inputs after a sample. -/
def Isc.sample (t : Tuning) (on : List DiscreteInput) (i : Isc) : Isc :=
  { i with
    field := tmap (fun _ r => r.1) (sampled t (fun k => on.contains (.field k)) i.field)
    feedback := tmap (fun _ r => r.1) (sampled t (fun k => on.contains (.feedback k)) i.feedback) }

/-- The indices of a table that a test names. -/
def namedBy {α : Type} (test : Nat → α → Bool) (t : Table α) : List Nat := (t.filter (fun e => test e.1 e.2)).map (fun e => e.1)

theorem mem_namedBy {α : Type} {test : Nat → α → Bool} {t : Table α} {k : Nat} {a : α} (h : tget t k = some a) (ht : test k a = true) : k ∈ namedBy test t :=
  List.mem_map.2 ⟨(k, a), List.mem_filter.2 ⟨mem_of_tget h, ht⟩, rfl⟩

theorem of_mem_namedBy {α : Type} {test : Nat → α → Bool} {t : Table α} (hs : tsorted t = true) {k : Nat} (h : k ∈ namedBy test t) :
    ∃ a, tget t k = some a ∧ test k a = true := by
  obtain ⟨⟨j, a⟩, hm, rfl⟩ := List.mem_map.1 h
  obtain ⟨hm, ht⟩ := List.mem_filter.1 hm
  exact ⟨a, tget_of_mem hs hm, ht⟩

/-- A table of inputs of which each comes out as a function gives it, with the inputs handed over that a test names: those that change or are rescanned. -/
theorem hands_of_tmap {i i' : Isc} {f : Nat → Discrete → Discrete} {test : Nat → Discrete → Bool} {field : List Nat} (hp : i'.scanPending = i.scanPending)
    (hf : ∀ k, tget i'.field k = (tget i.field k).map (f k))
    (ht : ∀ k d, test k d = true ↔ (f k d).debounced ≠ d.debounced ∨ d.rescan = true ∧ (f k d).rescan = false)
    (hall : ∀ k d, tget i.field k = some d → test k d = true → k ∈ field)
    (honly : tsorted i.field = true → ∀ k ∈ field, ∃ d, tget i.field k = some d ∧ test k d = true) : i.Hands i' field where
  pending := hp
  kept k := by rw [hf, Option.isSome_map]
  all k hk := by
    cases hd : tget i.field k with
    | none => simp [Isc.Handed, hf, hd] at hk
    | some d =>
      refine hall k d hd ((ht k d).2 ?_)
      rw [Isc.Handed, hf, hd] at hk
      rcases hk with hk | ⟨x, x', hx, hx', h1, h2⟩
      · exact .inl hk
      · cases hx; cases hx'; exact .inr ⟨h1, h2⟩
  only hs k hk := by
    obtain ⟨d, hd, htest⟩ := honly hs k hk
    rw [Isc.Handed, hf, hd]
    rcases (ht k d).1 htest with h | ⟨h1, h2⟩
    · exact .inl h
    · exact .inr ⟨d, f k d, rfl, rfl, h1, h2⟩

/-! ### DISCRETE_SAMPLE -/

theorem tget_sampled (t : Tuning) (on : Nat → Bool) (f : Table Discrete) (k : Nat) :
    tget (sampled t on f) k = (tget f k).map (fun d => d.sample (sampleCount t d.cls) (on k)) := tget_tmap _ _ _

theorem discreteSample_eq (on : List DiscreteInput) (s : State) : s.discreteSample on = s.afterSample (s.isc.sample s.tune on)
    (namedBy (fun _ r => r.2) (sampled s.tune (fun k => on.contains (.field k)) s.isc.field))
    (namedBy (fun _ r => r.2) (sampled s.tune (fun k => on.contains (.feedback k)) s.isc.feedback)) := rfl

theorem tsorted_sampled {t : Tuning} {on : Nat → Bool} {f : Table Discrete} (h : tsorted f = true) : tsorted (sampled t on f) = true := tsorted_tmap _ _ h

theorem sample_hands (on : List DiscreteInput) (s : State) : s.isc.Hands (s.isc.sample s.tune on)
    (namedBy (fun _ r => r.2) (sampled s.tune (fun k => on.contains (.field k)) s.isc.field)) := by
  refine hands_of_tmap (f := fun k d => (d.sample (sampleCount s.tune d.cls) (on.contains (.field k))).1)
    (test := fun k d => (d.sample (sampleCount s.tune d.cls) (on.contains (.field k))).2) rfl (fun k => ?_) (fun k d => sample_snd _ _ _)
    (fun k d hd ht => mem_namedBy (by rw [tget_sampled, hd]; rfl) ht) (fun hs k hk => ?_)
  · simp only [Isc.sample, tget_tmap, tget_sampled, Option.map_map]
    rfl
  · obtain ⟨r, hr, ht⟩ := of_mem_namedBy (tsorted_sampled hs) hk
    rw [tget_sampled] at hr
    obtain ⟨d, hd, rfl⟩ := Option.map_eq_some_iff.1 hr
    exact ⟨d, hd, ht⟩

/-- HPA is told of the running feedbacks of the list. -/
theorem feedback_told {s : State} {i' : Isc} {field feedback : List Nat} {k : Nat} {d : Discrete} (hk : k ∈ feedback) (hd : tget i'.feedback k = some d) :
    Task.feedback k d.debounced ∈ (s.afterSample i' field feedback).todo := by
  have hisc : ((s.withIsc i').takeField field).isc = i' := (isc_of_fixed (State.ActsTo.takeField field (s.withIsc i')).fixed)
  refine (State.HandsOn.firstScan _).todo.subset ?_
  rw [handDiscrete_eq]
  refine List.mem_append_right _ (List.mem_map.2 ⟨k, hk, ?_⟩)
  rw [hisc, hd]
  rfl

/-! ### DEBOUNCED_VALUE_CHANGE -/

/-- The level that the changes give an input first, if any. -/
def levelFor (changes : List (DiscreteInput × Bool)) (x : DiscreteInput) : Option Bool := (changes.find? (fun c => c.1 == x)).map (fun c => c.2)

/-- An input at a level that is given or not. -/
def Discrete.given (n : Nat) (r : Option Bool) (d : Discrete) : Discrete := (r.map (fun x => d.change n x)).getD d

theorem levelFor_eq_some {changes : List (DiscreteInput × Bool)} {x : DiscreteInput} {r : Bool} :
    levelFor changes x = some r ↔ changes.find? (fun c => c.1 == x) = some (x, r) := by
  rw [levelFor, Option.map_eq_some_iff]
  constructor
  · rintro ⟨⟨y, r'⟩, hf, rfl⟩
    have hy : y = x := by simpa using List.find?_some hf
    rw [hf, hy]
  · intro hf
    exact ⟨_, hf, rfl⟩

/-- The inputs after the changes given. -/
def Isc.given (t : Tuning) (changes : List (DiscreteInput × Bool)) (i : Isc) : Isc :=
  { i with
    field := tmap (fun k d => d.given (sampleCount t d.cls) (levelFor changes (.field k))) i.field
    feedback := tmap (fun k d => d.given (sampleCount t d.cls) (levelFor changes (.feedback k))) i.feedback }

/-- The input changes at the level given. -/
def flipsAt (t : Tuning) (changes : List (DiscreteInput × Bool)) (mk : Nat → DiscreteInput) (k : Nat) (d : Discrete) : Bool :=
  (levelFor changes (mk k)).any (fun r => d.flips (sampleCount t d.cls) r)

theorem debouncedChange_eq (changes : List (DiscreteInput × Bool)) (s : State) : s.debouncedChange changes = s.afterSample (s.isc.given s.tune changes)
    (namedBy (flipsAt s.tune changes .field) s.isc.field) (namedBy (flipsAt s.tune changes .feedback) s.isc.feedback) := by
  have key (mk : Nat → DiscreteInput) : (fun k (d : Discrete) => d.given (sampleCount s.tune d.cls) (levelFor changes (mk k))) =
      fun k (d : Discrete) => match (changes.find? (fun c => c.1 == mk k)).map (fun c => c.2) with
        | some r => d.change (sampleCount s.tune d.cls) r
        | none => d := by
    funext k d
    simp only [levelFor, Discrete.given]
    cases changes.find? (fun c => c.1 == mk k) <;> rfl
  simp only [Isc.given, key]
  rfl

theorem flips_iff (n : Nat) (r : Bool) (d : Discrete) : d.flips n r = true ↔ d.rescan = true ∨ (r ≠ d.debounced ∧ n ≤ d.count + 1) := by
  simp [Discrete.flips]

theorem change_flips {n : Nat} {r : Bool} {d : Discrete} (h : d.flips n r = true) : d.change n r = { d with debounced := r, count := 0, rescan := false } := by
  simp [Discrete.change, h]

theorem change_still {n : Nat} {r : Bool} {d : Discrete} (h : d.flips n r = false) : d.change n r = d := by
  simp [Discrete.change, h]

theorem given_hands (changes : List (DiscreteInput × Bool)) (s : State) :
    s.isc.Hands (s.isc.given s.tune changes) (namedBy (flipsAt s.tune changes .field) s.isc.field) := by
  refine hands_of_tmap (f := fun k d => d.given (sampleCount s.tune d.cls) (levelFor changes (.field k))) (test := flipsAt s.tune changes .field) rfl
    (fun k => tget_tmap (fun k (d : Discrete) => d.given (sampleCount s.tune d.cls) (levelFor changes (.field k))) s.isc.field k) (fun k d => ?_) (fun k d hd ht => mem_namedBy hd ht) (fun hs k hk => of_mem_namedBy hs hk)
  simp only [flipsAt, Discrete.given]
  cases levelFor changes (.field k) with
  | none => simp
  | some r =>
    simp only [Option.any_some, Option.map_some, Option.getD_some]
    cases hf : d.flips (sampleCount s.tune d.cls) r with
    | true =>
      rw [change_flips hf]
      simp only [true_iff]
      rcases (flips_iff _ _ _).1 hf with h | h
      · exact .inr ⟨h, trivial⟩
      · exact .inl h.1
    | false =>
      rw [change_still hf]
      simp

/-- What a given level does to an input of either table. -/
theorem given_effect (t : Tuning) (changes : List (DiscreteInput × Bool)) (mk : Nat → DiscreteInput) (k : Nat) (d : Discrete) :
    (∀ r, changes.find? (fun c => c.1 == mk k) = some (mk k, r) → d.rescan = true ∨ (r ≠ d.debounced ∧ sampleCount t d.cls ≤ d.count + 1) →
      d.given (sampleCount t d.cls) (levelFor changes (mk k)) = { d with debounced := r, count := 0, rescan := false } ∧
        flipsAt t changes mk k d = true) ∧
    ((∀ r, changes.find? (fun c => c.1 == mk k) = some (mk k, r) → d.rescan = false ∧ (r = d.debounced ∨ d.count + 1 < sampleCount t d.cls)) →
      d.given (sampleCount t d.cls) (levelFor changes (mk k)) = d) := by
  refine ⟨fun r hf hc => ?_, fun h => ?_⟩
  · have hfl := (flips_iff (sampleCount t d.cls) r d).2 hc
    rw [Discrete.given, flipsAt, levelFor_eq_some.2 hf]
    exact ⟨change_flips hfl, hfl⟩
  · cases hl : levelFor changes (mk k) with
    | none => rfl
    | some r =>
      refine change_still (Bool.eq_false_iff.2 fun hfl => ?_)
      obtain ⟨h1, h2⟩ := h r (levelFor_eq_some.1 hl)
      rcases (flips_iff _ _ _).1 hfl with h3 | ⟨h3, h4⟩
      · rw [h1] at h3; cases h3
      · rcases h2 with h2 | h2
        · exact h3 h2
        · omega

/-- The frame of a sample instant. -/
theorem afterSample_frame (s : State) (i' : Isc) (field feedback : List Nat) (ha : i'.analog = s.isc.analog) :
    let e := s.afterSample i' field feedback
    (finish e).isc.field = i'.field ∧ (finish e).isc.feedback = i'.feedback ∧
      (finish e).isc.analog = s.isc.analog ∧ (finish e).amu = s.amu ∧ (finish e).lst = s.lst ∧ (finish e).sli = s.sli ∧
      e.osq = s.osq ∧ e.hpa = s.hpa ∧ e.ldu = s.ldu ∧ e.adu = s.adu ∧ e.ost.coils = s.ost.coils ∧ e.ost.props = s.ost.props := by
  intro e
  obtain ⟨h1, h2, h3, h4, h5, h6, hu⟩ := afterSample_rest (s := s) (i' := i') (field := field) feedback
  obtain ⟨k1, k2, k3, k4⟩ := finish_parts e
  obtain ⟨u1, u2, u3, u4, u5, u6, -⟩ := State.units_eq hu
  rw [k1, k2, k3, k4]
  exact ⟨h1, h2, h3.trans ha, h4, h5, h6, u4, u1, u2, u3, u5, u6⟩

/-- Settles O35. -/
theorem discreteInputsDebounce : Obligations.DiscreteInputsDebounce := by
  refine ⟨fun on s hr => ?_, fun changes s hr => ?_⟩
  · refine ⟨_, exec_act hr _, ?_⟩
    rw [discreteSample_eq]
    obtain ⟨hfield, hfeed, hrest⟩ := afterSample_frame s (s.isc.sample s.tune on)
      (namedBy (fun _ r => r.2) (sampled s.tune (fun k => on.contains (.field k)) s.isc.field))
      (namedBy (fun _ r => r.2) (sampled s.tune (fun k => on.contains (.feedback k)) s.isc.feedback)) rfl
    have hsampled := handDiscrete_sampled (namedBy (fun _ r => r.2) (sampled s.tune (fun k => on.contains (.feedback k)) s.isc.feedback)) (sample_hands on s)
    refine ⟨?_, afterSample_locksFollow _ (sample_hands on s), hsampled.scansFirst, hrest⟩
    rw [hfield, hfeed]
    have hget (f : Table Discrete) (lv : Nat → Bool) (k : Nat) : tget (tmap (fun _ (r : Discrete × Bool) => r.1) (sampled s.tune lv f)) k =
        (tget f k).map (fun d => (d.sample (sampleCount s.tune d.cls) (lv k)).1) := by
      rw [tget_tmap, tget_sampled, Option.map_map]
      rfl
    intro moved
    refine ⟨fun i => ?_, fun i d hd hcls => ?_, fun i d hd hcls hc => ?_, fun i hi => ?_⟩
    · cases hd : tget s.isc.field i with
      | none => exact (hget _ _ i).trans (by rw [hd]; rfl)
      | some d =>
        refine ⟨_, (hget _ _ i).trans (by rw [hd]; rfl), ?_⟩
        refine (sample_fst _ _ d).trans ?_
        cases hc : d.cls <;> rfl
    · refine ⟨_, (hget _ _ i).trans (by rw [hd]; rfl), ?_⟩
      refine (sample_fst _ _ d).trans ?_
      simp only [hcls]
      rfl
    · have hgiven := sample_given (n := sampleCount s.tune d.cls) (raw := on.contains (.feedback i)) (d := d) (by rw [hcls]; exact hc)
      have htold := feedback_told (s := s) (i' := s.isc.sample s.tune on)
        (field := namedBy (fun _ r => r.2) (sampled s.tune (fun k => on.contains (.field k)) s.isc.field))
        (mem_namedBy (test := fun _ r => r.2) (t := sampled s.tune (fun k => on.contains (.feedback k)) s.isc.feedback) (k := i) (by rw [tget_sampled, hd]; rfl) hgiven.1) ((hget _ _ i).trans (by rw [hd]; rfl))
      rw [hgiven.2] at htold
      exact htold
    · exact (hget _ _ i).trans (by rw [hi]; rfl)
  · refine ⟨_, exec_act hr _, ?_⟩
    rw [debouncedChange_eq]
    obtain ⟨hfield, hfeed, hrest⟩ := afterSample_frame s (s.isc.given s.tune changes)
      (namedBy (flipsAt s.tune changes .field) s.isc.field) (namedBy (flipsAt s.tune changes .feedback) s.isc.feedback) rfl
    have hsampled := handDiscrete_sampled (namedBy (flipsAt s.tune changes .feedback) s.isc.feedback) (given_hands changes s)
    rw [hfield, hfeed]
    have hget (f : Table Discrete) (mk : Nat → DiscreteInput) (k : Nat) (d : Discrete) (hd : tget f k = some d) :
        tget (tmap (fun k (d : Discrete) => d.given (sampleCount s.tune d.cls) (levelFor changes (mk k))) f) k =
          some (d.given (sampleCount s.tune d.cls) (levelFor changes (mk k))) := by rw [tget_tmap, hd]; rfl
    have hnone (f : Table Discrete) (mk : Nat → DiscreteInput) (k : Nat) (hd : tget f k = none) :
        tget (tmap (fun k (d : Discrete) => d.given (sampleCount s.tune d.cls) (levelFor changes (mk k))) f) k = none := by rw [tget_tmap, hd]; rfl
    refine ⟨fun i d hd => ⟨fun r hf hc => ?_, fun h => ?_⟩, fun i d hd => ⟨fun r hf hc => ?_, fun h => ?_⟩, fun i hi => ?_, fun i hi => ?_,
      afterSample_locksFollow _ (given_hands changes s), hsampled.scansFirst, hrest⟩
    · exact (hget _ _ i d hd).trans (congrArg some ((given_effect s.tune changes .field i d).1 r hf hc).1)
    · exact (hget _ _ i d hd).trans (congrArg some ((given_effect s.tune changes .field i d).2 h))
    · obtain ⟨heq, hflips⟩ := (given_effect s.tune changes .feedback i d).1 r hf hc
      have hnew := (hget _ .feedback i d hd).trans (congrArg some heq)
      exact ⟨hnew, feedback_told (d := { d with debounced := r, count := 0, rescan := false }) (mem_namedBy hd hflips) hnew⟩
    · exact (hget _ _ i d hd).trans (congrArg some ((given_effect s.tune changes .feedback i d).2 h))
    · exact hnone _ .field i hi
    · exact hnone _ .feedback i hi

end Sys2Proof.Machine
end

section
namespace Sys2Proof.Machine

/-! ### Fault reports in a row (R13, R146) -/

theorem Aeu.Lasting.mono {a b : Prop} {P : Aeu → Prop} (h : Aeu.Lasting a P) (hab : b → a) : Aeu.Lasting b P :=
  ⟨h.plain, fun x k i hb => h.raise x k i (hab hb), h.clear⟩

theorem Aeu.LoggedRaises.logged {a b : Aeu} {n : Nat} (h : a.LoggedRaises n b) : ∃ es, a.Logged b es ∧ es.filterMap Event.faultedPoint? = [] := by
  obtain ⟨es, hl, -, hr⟩ := h
  refine ⟨es, hl, List.filterMap_eq_nil_iff.2 fun e he => ?_⟩
  obtain ⟨k, i, d, rfl⟩ := hr e he
  rfl

theorem faultedPoint?_of_mem {es : List Event} {p : Nat} {c : FaultCode} (h : Event.pointFault p c ∈ es) : p ∈ es.filterMap Event.faultedPoint? :=
  List.mem_filterMap.2 ⟨_, h, rfl⟩

/-- What a recompute logs: losses of the closure alone (R160). -/
theorem recompute_logged (ids : List Nat) (s : State) : s.aeu.LoggedRaises 2 (s.recompute ids).aeu := by
  cases hs : s.cev.started with
  | false => rw [recompute_not_started hs]; exact (Aeu.LoggedRaises.refl _).mono (Nat.zero_le _)
  | true =>
    rcases recompute_started hs ids with ⟨he, -⟩ | he
    · rw [he]; exact (Aeu.LoggedRaises.refl _).mono (Nat.zero_le _)
    · rw [he]; exact (Aeu.LoggedRaises.supervise s.aeu s.amu.mode _).congr rfl rfl rfl

theorem Aeu.EventsOk.remake {a : Aeu} (h : a.EventsOk) : a.remake.EventsOk := h.congr rfl rfl

theorem recompute_eventsOk {s : State} (h : s.aeu.EventsOk) (ids : List Nat) : (s.recompute ids).aeu.EventsOk := by
  cases hs : s.cev.started with
  | false => rw [recompute_not_started hs]; exact h
  | true =>
    rcases recompute_started hs ids with ⟨he, -⟩ | he
    · rw [he]; exact h
    · rw [he]; exact (h.supervise s.amu.mode _).remake

/-- From `s` to `e` reports of COIL_FAULT have been recorded, and OST has changed coils and banks: each new fault is one event, its conditions follow, and at sea
its alarm stands. -/
structure State.CoilFaults (s e : State) : Prop where
  hands   : s.HandsOn e
  fixed   : e.fixed = { s.fixed with banks := e.ost.banks }
  units   : e.units = { s.units with coils := e.ost.coils }
  codes   : ∀ p, e.faultOf p ≠ s.faultOf p → s.faultOf p = none ∧ e.faultOf p = some .coilFault
  present : ∀ p, (tget e.pmn.points p).isSome = (tget s.pmn.points p).isSome
  owned   : ∀ p, e.reservedBy p = s.reservedBy p
  current : ∀ p, s.CevCurrent p ∨ (s.faultOf p = none ∧ (e.faultOf p).isSome) → e.CevCurrent p
  logged  : ∃ es, s.aeu.Logged e.aeu es ∧ (es.filterMap Event.faultedPoint?).Nodup ∧
    ∀ p c, Event.pointFault p c ∈ es ↔ s.faultOf p = none ∧ e.faultOf p = some c
  ok      : s.aeu.EventsOk → e.aeu.EventsOk
  lasting : ∀ P, Aeu.Lasting True P → P s.aeu → P e.aeu
  atSea   : s.amu.mode = .sea → ∀ p, s.faultOf p = none → (e.faultOf p).isSome → s.aeu.NotAcked .pointFault p → e.aeu.Stands .pointFault p

section
variable {s m e : State}

/-- A fault once recorded stays. -/
theorem State.CoilFaults.keeps (h : s.CoilFaults e) {p : Nat} {c : FaultCode} (hp : s.faultOf p = some c) : e.faultOf p = some c := by
  by_contra hne
  have := (h.codes p (by rw [hp]; exact hne)).1
  rw [hp] at this
  cases this

theorem State.CoilFaults.amu (h : s.CoilFaults e) : e.amu = s.amu := congrArg Fixed.amu h.fixed

theorem State.CoilFaults.trans (h : s.CoilFaults m) (k : m.CoilFaults e) : s.CoilFaults e where
  hands := h.hands.trans k.hands
  fixed := by rw [k.fixed, h.fixed]
  units := by rw [k.units, h.units]
  codes p hp := by
    by_cases hm : m.faultOf p = s.faultOf p
    · rw [← hm]; exact k.codes p (by rw [hm]; exact hp)
    · obtain ⟨h1, h2⟩ := h.codes p hm
      exact ⟨h1, k.keeps h2⟩
  present p := (k.present p).trans (h.present p)
  owned p := (k.owned p).trans (h.owned p)
  current p hp := by
    refine k.current p ?_
    rcases hp with hp | ⟨hn, hs⟩
    · exact .inl (h.current p (.inl hp))
    · cases hm : m.faultOf p with
      | none => exact .inr ⟨rfl, hs⟩
      | some c => exact .inl (h.current p (.inr ⟨hn, by simp [hm]⟩))
  logged := by
    obtain ⟨es, hl, hn, hiff⟩ := h.logged
    obtain ⟨fs, hl', hn', hiff'⟩ := k.logged
    refine ⟨es ++ fs, hl.trans hl', ?_, fun p c => ?_⟩
    · rw [List.filterMap_append, List.nodup_append']
      refine ⟨hn, hn', fun p hp hp' => ?_⟩
      obtain ⟨x, hx, hxp⟩ := List.mem_filterMap.1 hp
      obtain ⟨y, hy, hyp⟩ := List.mem_filterMap.1 hp'
      cases x <;> simp only [Event.faultedPoint?, reduceCtorEq, Option.some.injEq] at hxp
      cases y <;> simp only [Event.faultedPoint?, reduceCtorEq, Option.some.injEq] at hyp
      subst hxp; subst hyp
      have h1 := ((hiff _ _).1 hx).2
      have h2 := ((hiff' _ _).1 hy).1
      rw [h1] at h2
      cases h2
    · rw [List.mem_append, hiff, hiff']
      constructor
      · rintro (⟨h1, h2⟩ | ⟨h1, h2⟩)
        · exact ⟨h1, k.keeps h2⟩
        · refine ⟨?_, h2⟩
          cases hs : s.faultOf p with
          | none => rfl
          | some c' => rw [h.keeps hs] at h1; cases h1
      · rintro ⟨h1, h2⟩
        cases hm : m.faultOf p with
        | none => exact .inr ⟨rfl, h2⟩
        | some c' =>
          rw [k.keeps hm] at h2
          exact .inl ⟨h1, h2⟩
  ok hs := k.ok (h.ok hs)
  lasting P hP hs := k.lasting P hP (h.lasting P hP hs)
  atSea hsea p hn hs hna := by
    cases hm : m.faultOf p with
    | none => exact k.atSea (by rw [h.amu]; exact hsea) p hm hs (h.lasting _ (Aeu.notAcked_lasting True _ _) hna)
    | some c => exact k.lasting _ (Aeu.stands_lasting True (by decide) p) (h.atSea hsea p hn (by simp [hm]) hna)

/-- A change of coils and banks alone. -/
theorem State.CoilFaults.ofOst (coils : List Coil) (banks : List Bank) : s.CoilFaults { s with ost := { s.ost with coils := coils, banks := banks } } := by
  have hno (p : Nat) (h1 : s.faultOf p = none) (h2 : (s.faultOf p).isSome) : False := by
    rw [h1] at h2; cases h2
  exact {
    hands := .of_conds rfl (List.prefix_refl _) ⟨rfl, rfl, rfl⟩
    fixed := rfl
    units := rfl
    codes := fun p hp => absurd rfl hp
    present := fun _ => rfl
    owned := fun _ => rfl
    current := fun p hp => hp.elim (fun h => h.congr rfl rfl (fun _ => rfl)) (fun h => (hno p h.1 h.2).elim)
    logged := ⟨[], Aeu.Logged.refl _, List.nodup_nil, fun p c => by
      simp only [List.not_mem_nil, false_iff, not_and]
      exact fun h1 h2 => hno p h1 (Option.isSome_of_eq_some h2)⟩
    ok := fun h => h
    lasting := fun _ _ h => h
    atSea := fun _ p hn hs => (hno p hn hs).elim }

end

theorem raise_eventsOk {s : State} (h : s.aeu.EventsOk) (k : AlarmKind) (i : Nat) : (s.raise k i).aeu.EventsOk := (Aeu.raise_eventsOk h k i).remake

theorem State.CoilFaults.raise (k : AlarmKind) (i : Nat) (s : State) : s.CoilFaults (s.raise k i) where
  hands := (State.ActsTo.raise k i s).toHandsOn
  fixed := (State.ActsTo.raise k i s).fixed
  units := rfl
  codes p hp := absurd rfl hp
  present _ := rfl
  owned _ := rfl
  current p hp := by
    rcases hp with hp | ⟨hn, hs⟩
    · exact hp.congr rfl rfl (fun _ => rfl)
    · change (s.faultOf p).isSome = true at hs
      rw [hn] at hs; cases hs
  logged := by
    obtain ⟨es, hl, he⟩ := (Aeu.LoggedRaises.raise s.aeu k i).logged
    refine ⟨es, hl.remake, by rw [he]; exact List.nodup_nil, fun p c => ?_⟩
    constructor
    · intro hm
      have := faultedPoint?_of_mem hm
      rw [he] at this; cases this
    · rintro ⟨h1, h2⟩
      change s.faultOf p = some c at h2
      rw [h1] at h2; cases h2
  ok h := raise_eventsOk h k i
  lasting P hP hs := hP.remake (hP.raise _ _ _ trivial hs)
  atSea _ p hn hs := by
    change (s.faultOf p).isSome = true at hs
    rw [hn] at hs; cases hs

/-- The events of a first report: losses of the closure, the fault, and at sea how its alarm was taken. -/
theorem newFault_logged (i : Nat) (code : FaultCode) (d : PointDyn) (s : State) :
    (∃ es, s.aeu.Logged (s.newFault i code d).aeu es ∧ es.filterMap Event.faultedPoint? = [i] ∧ ∀ p c, Event.pointFault p c ∈ es ↔ p = i ∧ c = code) ∧
      (s.aeu.EventsOk → (s.newFault i code d).aeu.EventsOk) := by
  let m : State := { s with pmn := { s.pmn with points := tput s.pmn.points i (d.setFault (some code)) } }
  obtain ⟨es, hl, he⟩ := (recompute_logged (Layout.condsNaming m.layout i) m).logged
  have hno (p : Nat) (c : FaultCode) : Event.pointFault p c ∉ es := fun hm => by
    have := faultedPoint?_of_mem hm
    rw [he] at this; cases this
  have hrec := (hl.trans (Aeu.Logged.record (m.pointToCev i).aeu (.pointFault i code))).remake
  have hok (h : s.aeu.EventsOk) : ((m.pointToCev i).event (.pointFault i code)).aeu.EventsOk := ((recompute_eventsOk (s := m) h _).record _).remake
  unfold State.newFault
  simp only
  split
  · obtain ⟨fs, hl', he'⟩ := (Aeu.LoggedRaises.raise ((m.pointToCev i).event (.pointFault i code)).aeu .pointFault i).logged
    refine ⟨⟨es ++ [Event.pointFault i code] ++ fs, (hrec.trans hl').remake, ?_, fun p c => ?_⟩, fun h => raise_eventsOk (hok h) _ _⟩
    · simp [List.filterMap_append, he, he', Event.faultedPoint?]
    · have hno' : Event.pointFault p c ∉ fs := fun hm => by
        have := faultedPoint?_of_mem hm
        rw [he'] at this; cases this
      simp [hno, hno']
  · refine ⟨⟨es ++ [Event.pointFault i code], hrec, ?_, fun p c => ?_⟩, hok⟩
    · simp [List.filterMap_append, he, Event.faultedPoint?]
    · simp [hno]

/-- A report that finds a fault, or no point, changes the reports to the units alone. -/
theorem recordFault_old {s : State} {i : Nat} (h : tget s.pmn.points i = none ∨ (s.faultOf i).isSome) (code : FaultCode) :
    s.recordFault i code = { s with todo := (s.recordFault i code).todo } := by
  have htake : s.takeFault i code = { s with todo := (s.takeFault i code).todo } := by
    cases hd : tget s.pmn.points i with
    | none => rw [takeFault_absent hd]
    | some d =>
      have hf : d.fault.isNone = false := by
        have := h.resolve_left (by simp [hd])
        cases hdf : d.fault <;> simp_all [State.faultOf]
      rw [takeFault_present hd, hf]
      split <;> rfl
  have hsame : (s.takeFault i code).faultOf i = s.faultOf i := by rw [htake]; rfl
  have : s.recordFault i code = s.takeFault i code := by simp [State.recordFault, hsame]
  rw [this]
  exact htake

theorem recordFault_keepsCurrent {s : State} {i p : Nat} {code : FaultCode} (h : s.CevCurrent p) : (s.recordFault i code).CevCurrent p := by
  cases hd : tget s.pmn.points i with
  | none => rw [recordFault_old (.inl hd)]; exact h.congr rfl rfl (fun _ => rfl)
  | some d =>
    cases hf : s.faultOf i with
    | some c => rw [recordFault_old (.inr (by simp [hf]))]; exact h.congr rfl rfl (fun _ => rfl)
    | none =>
      obtain ⟨d, hc, -, hp, hl⟩ := takeFault_newFault (by simp [hd]) hf code
      obtain ⟨kp, -, kc, kl, -⟩ := recordFault_takeFault i code s
      let m : State := { s with pmn := { s.pmn with points := tput s.pmn.points i (d.setFault (some code)) } }
      have hm : (m.pointToCev i).CevCurrent p :=
        State.CevCurrent.handed (s := s) (m := m) (.inr h) rfl rfl (fun k hk => .of_eq (tget_tput_of_ne _ _ (Ne.symm hk)))
      refine hm.congr ((kc.trans hc).trans (newFault_cev i code d s)) ?_ (State.SeesSame.of_pmn ?_)
      · rw [kl.trans hl, (lst_of_fixed (State.ActsTo.newFault i code d s).fixed), (lst_of_fixed (State.ActsTo.pointToCev i m).fixed)]
      · rw [kp.trans hp, newFault_pmn, pointToCev_pmn]

theorem State.CoilFaults.recordFault (i : Nat) (s : State) : s.CoilFaults (s.recordFault i .coilFault) := by
  have hacts := State.ActsTo.recordFault i .coilFault s
  have hfault := faultOf_recordFault i .coilFault s
  have hcode : ∀ p, (s.recordFault i .coilFault).faultOf p ≠ s.faultOf p → p = i ∧ (tget s.pmn.points i).isSome ∧ s.faultOf p = none ∧
      (s.recordFault i .coilFault).faultOf p = some .coilFault := by
    intro p hp
    rw [hfault] at hp ⊢
    split at hp
    · rename_i hc
      obtain ⟨rfl, hc⟩ := hc
      cases hs : s.faultOf p with
      | none => exact ⟨rfl, hc, rfl, by rw [if_pos ⟨rfl, hc⟩]; rfl⟩
      | some c => rw [hs] at hp; exact absurd rfl hp
    · exact absurd rfl hp
  have hnew : ∀ p, s.faultOf p = none → ((s.recordFault i .coilFault).faultOf p).isSome → p = i ∧ (tget s.pmn.points i).isSome := by
    intro p hn hs
    obtain ⟨h1, h2, -⟩ := hcode p (by rw [hn]; exact Option.isSome_iff_ne_none.1 hs)
    exact ⟨h1, h2⟩
  refine ⟨hacts.toHandsOn, ?_, ?_, fun p hp => (hcode p hp).2.2, fun p => ?_, fun p => reservedBy_recordFault i _ s p, fun p hp => ?_, ?_, fun h => ?_,
    fun P hP hs => (hP.mono (fun _ => trivial)).recordFault hs i _, fun hsea p hn hs hna => ?_⟩
  · rw [hacts.fixed, (banks_of_fixed hacts.fixed)]
    rfl
  · rw [hacts.units, (coils_of_units hacts.units)]
    rfl
  · rw [tget_recordFault]
    split
    · rename_i hp; rw [hp, Option.isSome_map]
    · rfl
  · rcases hp with hp | ⟨hn, hs⟩
    · exact recordFault_keepsCurrent hp
    · obtain ⟨rfl, hpres⟩ := hnew p hn hs
      exact (recordFault_newFault hpres hn _).1
  · by_cases hfresh : s.faultOf i = none ∧ (tget s.pmn.points i).isSome
    · obtain ⟨hn, hpres⟩ := hfresh
      obtain ⟨d, -, ha, -, -⟩ := takeFault_newFault hpres hn .coilFault
      obtain ⟨⟨es, hl, he, hiff⟩, -⟩ := newFault_logged i .coilFault d s
      rw [(recordFault_aeu i .coilFault s), ha]
      refine ⟨es, hl, by rw [he]; exact List.nodup_singleton i, fun p c => ?_⟩
      rw [hiff]
      constructor
      · rintro ⟨rfl, rfl⟩
        exact ⟨hn, by rw [hfault, if_pos ⟨rfl, hpres⟩, hn]; rfl⟩
      · rintro ⟨h1, h2⟩
        obtain ⟨rfl, -⟩ := hnew p h1 (by simp [h2])
        obtain ⟨-, -, -, h3⟩ := hcode p (by rw [h1, h2]; simp)
        rw [h2] at h3
        exact ⟨rfl, Option.some.inj h3⟩
    · have hold : tget s.pmn.points i = none ∨ (s.faultOf i).isSome := by
        cases hd : tget s.pmn.points i with
        | none => exact .inl rfl
        | some d =>
          refine .inr ?_
          cases hf : s.faultOf i with
          | some c => rfl
          | none => exact absurd ⟨hf, by simp [hd]⟩ hfresh
      refine ⟨[], by rw [recordFault_old hold]; exact Aeu.Logged.refl _, List.nodup_nil, fun p c => ?_⟩
      simp only [List.not_mem_nil, false_iff, not_and]
      intro h1 h2
      obtain ⟨rfl, hpres⟩ := hnew p h1 (by simp [h2])
      exact hfresh ⟨h1, hpres⟩
  · by_cases hfresh : s.faultOf i = none ∧ (tget s.pmn.points i).isSome
    · obtain ⟨d, -, ha, -, -⟩ := takeFault_newFault hfresh.2 hfresh.1 .coilFault
      rw [(recordFault_aeu i .coilFault s), ha]
      exact (newFault_logged i .coilFault d s).2 h
    · have hold : tget s.pmn.points i = none ∨ (s.faultOf i).isSome := by
        cases hd : tget s.pmn.points i with
        | none => exact .inl rfl
        | some d =>
          refine .inr ?_
          cases hf : s.faultOf i with
          | some c => rfl
          | none => exact absurd ⟨hf, by simp [hd]⟩ hfresh
      rw [recordFault_old hold]
      exact h
  · obtain ⟨rfl, hpres⟩ := hnew p hn hs
    exact ((recordFault_newFault hpres hn _).2.2 hsea).2 hna

theorem State.CoilFaults.refl (s : State) : s.CoilFaults s := .ofOst s.ost.coils s.ost.banks

theorem State.CoilFaults.foldl {α : Type} {f : State → α → State} (h : ∀ x a, State.CoilFaults x (f x a)) (l : List α) (s : State) : s.CoilFaults (l.foldl f s) := by
  induction l generalizing s with
  | nil => exact .refl s
  | cons a l ih => exact (h s a).trans (ih _)

/-- A present point has a fault, and the unit of the motion that reserves it has been told of a COIL_FAULT. -/
structure State.CoilFaultTold (s e : State) (p : Nat) : Prop where
  fault : (tget s.pmn.points p).isSome → (e.faultOf p).isSome
  told  : (s.reservedBy p).isSome → ∃ f, Task.faulted p .coilFault f ∈ e.todo

theorem State.CoilFaultTold.later {s m e : State} {p : Nat} (h : s.CoilFaultTold m p) (k : m.CoilFaults e) : s.CoilFaultTold e p where
  fault hp := by
    obtain ⟨c, hc⟩ := Option.isSome_iff_exists.1 (h.fault hp)
    rw [k.keeps hc]; rfl
  told hr := (h.told hr).imp fun _ hf => k.hands.todo.subset hf

theorem State.CoilFaultTold.of_start {s m e : State} {p : Nat} (h : m.CoilFaultTold e p) (k : s.CoilFaults m) : s.CoilFaultTold e p where
  fault hp := h.fault (by rw [k.present]; exact hp)
  told hr := h.told (by rw [k.owned]; exact hr)

theorem recordFault_coilFaultTold (i : Nat) (s : State) : s.CoilFaultTold (s.recordFault i .coilFault) i where
  fault hp := by rw [faultOf_recordFault, if_pos ⟨rfl, hp⟩]; rfl
  told hr := ⟨_, told_recordFault hr .coilFault⟩

/-- Each point of a list reported in turn is told. -/
theorem foldl_coilFaultTold (ps : List Nat) (s : State) {p : Nat} (hp : p ∈ ps) : s.CoilFaultTold (ps.foldl (fun x p => x.recordFault p .coilFault) s) p := by
  induction ps generalizing s with
  | nil => simp at hp
  | cons q ps ih =>
    have hrest := State.CoilFaults.foldl (fun x p => State.CoilFaults.recordFault p x) ps (s.recordFault q .coilFault)
    rcases List.mem_cons.1 hp with rfl | hp
    · exact (recordFault_coilFaultTold p s).later hrest
    · exact (ih _ hp).of_start (.recordFault q s)

end Sys2Proof.Machine
end

section
namespace Sys2Proof.Machine

/-! ### A stuck output in OST (R143, R146) -/

/-- OST's own act when an output enters FAULT_STUCK: it is latched, and its bank goes OFF for STUCK with every coil of it. -/
def Ost.stick (out : Nat) (o : Ost) : Ost :=
  Ost.modBank (bankOf out) (fun k => { k with stuck := true }) { o with coils := lmod o.coils out (fun c => { c with state := .faultStuck }) }

/-- A coil after the outputs of a list have stuck. -/
def Coil.afterStuck (outs : List Nat) (i : Nat) (c : Coil) : Coil :=
  if i ∈ outs then { c with state := .faultStuck } else if ∃ o ∈ outs, bankOf o = bankOf i then c.follow false else c

/-- A bank after the outputs of a list have stuck. -/
def Bank.afterStuck (outs : List Nat) (b : Nat) (k : Bank) : Bank := if ∃ o ∈ outs, bankOf o = b then { k with stuck := true } else k

theorem follow_twice (c : Coil) : (c.follow false).follow false = c.follow false := by
  obtain ⟨ow, de, st⟩ := c
  cases st <;> simp [Coil.follow, CoilState.latched]

theorem follow_not_on (c : Coil) : (c.follow false).state ≠ .on := by
  obtain ⟨ow, de, st⟩ := c
  cases st <;> simp [Coil.follow, CoilState.latched]

theorem follow_faulted (b : Bool) (c : Coil) : Coil.follow b { c with state := .faultStuck } = { c with state := .faultStuck } := by
  simp [Coil.follow, CoilState.latched]

theorem owner_follow (b : Bool) (c : Coil) : (c.follow b).owner = c.owner := by
  unfold Coil.follow
  split <;> rfl

theorem owner_afterStuck (outs : List Nat) (i : Nat) (c : Coil) : (c.afterStuck outs i).owner = c.owner := by
  unfold Coil.afterStuck
  split
  · rfl
  · split
    · exact owner_follow _ _
    · rfl

theorem faulted_follow (c : Coil) : ({ c.follow false with state := .faultStuck } : Coil) = { c with state := .faultStuck } := by
  unfold Coil.follow
  split <;> rfl

theorem banks_stick (out : Nat) (o : Ost) (b : Nat) : (o.stick out).banks[b]? = o.banks[b]?.map (Bank.afterStuck [out] b) := by
  show (lmod o.banks (bankOf out) _)[b]? = _
  rw [getElem?_lmod]
  unfold Bank.afterStuck
  by_cases h : bankOf out = b
  · simp [h]
  · simp [h]

theorem coils_stick (out : Nat) (o : Ost) (i : Nat) : (o.stick out).coils[i]? = o.coils[i]?.map (Coil.afterStuck [out] i) := by
  have hoff : (match (lmod o.banks (bankOf out) (fun k => { k with stuck := true }))[bankOf out]? with
      | some k => k.on
      | none => false) = false := by
    rw [getElem?_lmod_self]
    cases o.banks[bankOf out]? <;> simp [Bank.on]
  show (List.mapIdx (fun j c => if bankOf j = bankOf out then c.follow (match (lmod o.banks (bankOf out) (fun k => { k with stuck := true }))[bankOf out]? with
      | some k => k.on
      | none => false) else c) (lmod o.coils out (fun c => { c with state := .faultStuck })))[i]? = _
  rw [hoff, List.getElem?_mapIdx, getElem?_lmod]
  cases o.coils[i]? with
  | none => simp
  | some c =>
    by_cases hi : out = i
    · subst hi
      simp [Coil.afterStuck, follow_faulted]
    · by_cases hb : bankOf i = bankOf out
      · simp [Coil.afterStuck, hi, Ne.symm hi, hb]
      · simp [Coil.afterStuck, hi, Ne.symm hi, hb, Ne.symm hb]

theorem Bank.afterStuck_cons (out : Nat) (outs : List Nat) (b : Nat) (k : Bank) :
    (k.afterStuck [out] b).afterStuck outs b = k.afterStuck (out :: outs) b := by
  unfold Bank.afterStuck
  by_cases h1 : bankOf out = b <;> by_cases h2 : ∃ o ∈ outs, bankOf o = b <;> simp_all

theorem Coil.afterStuck_cons (out : Nat) (outs : List Nat) (i : Nat) (c : Coil) :
    (c.afterStuck [out] i).afterStuck outs i = c.afterStuck (out :: outs) i := by
  have hmem : i ∈ out :: outs ↔ i = out ∨ i ∈ outs := List.mem_cons
  have hex : (∃ o ∈ out :: outs, bankOf o = bankOf i) ↔ bankOf out = bankOf i ∨ ∃ o ∈ outs, bankOf o = bankOf i := by simp
  unfold Coil.afterStuck
  simp only [List.mem_singleton, exists_eq_left, hmem, hex]
  by_cases hi : i = out
  · subst hi
    simp only [if_true, true_or]
    split
    · rfl
    · split
      · exact follow_faulted _ _
      · rfl
  · simp only [hi, if_false, false_or]
    by_cases hb : bankOf out = bankOf i
    · simp only [hb, if_true, true_or]
      split
      · exact faulted_follow c
      · split
        · exact follow_twice c
        · rfl
    · simp only [hb, if_false, false_or]

/-- The outputs of a list stick one after another. -/
def Ost.stickAll (outs : List Nat) (o : Ost) : Ost := outs.foldl (fun x out => x.stick out) o

theorem banks_stickAll (outs : List Nat) (o : Ost) (b : Nat) : (o.stickAll outs).banks[b]? = o.banks[b]?.map (Bank.afterStuck outs b) := by
  induction outs generalizing o with
  | nil =>
    show o.banks[b]? = _
    cases o.banks[b]? <;> simp [Bank.afterStuck]
  | cons out outs ih =>
    show ((o.stick out).stickAll outs).banks[b]? = _
    rw [ih, banks_stick, Option.map_map]
    exact congrArg (fun f => Option.map f _) (funext fun k => Bank.afterStuck_cons out outs b k)

theorem coils_stickAll (outs : List Nat) (o : Ost) (i : Nat) : (o.stickAll outs).coils[i]? = o.coils[i]?.map (Coil.afterStuck outs i) := by
  induction outs generalizing o with
  | nil =>
    show o.coils[i]? = _
    cases o.coils[i]? <;> simp [Coil.afterStuck]
  | cons out outs ih =>
    show ((o.stick out).stickAll outs).coils[i]? = _
    rw [ih, coils_stick, Option.map_map]
    exact congrArg (fun f => Option.map f _) (funext fun c => Coil.afterStuck_cons out outs i c)

/-! ### The acts of R146 -/

/-- The reports that follow a stuck output: of its owner, and, where its bank goes off by it, of COIL_BANK_OFF and every owner of the bank. -/
def State.tellStuck (out owner : Nat) (had : Bool) (s : State) : State :=
  let s1 := s.recordFault owner .coilFault
  if had then s1 else (s1.ost.bankOwners (bankOf out)).foldl (fun x p => x.recordFault p .coilFault) (s1.raise .coilBankOff (bankOf out))

/-- The bank is OFF for STUCK. -/
def State.stuckBank (s : State) (b : Nat) : Bool := s.ost.banks[b]?.any (fun k => k.stuck)

theorem coilStuck_eq (out owner : Nat) (s : State) : s.coilStuck out owner = (s.modOst (Ost.stick out)).tellStuck out owner (s.stuckBank (bankOf out)) := rfl

theorem State.CoilFaults.modOst_stick (out : Nat) (s : State) : s.CoilFaults (s.modOst (Ost.stick out)) := .ofOst (s.ost.stick out).coils (s.ost.stick out).banks

theorem State.CoilFaults.tellStuck (out owner : Nat) (had : Bool) (s : State) : s.CoilFaults (s.tellStuck out owner had) := by
  have h1 := State.CoilFaults.recordFault owner s
  unfold State.tellStuck
  simp only
  split
  · exact h1
  · exact (h1.trans (.raise _ _ _)).trans (.foldl (fun x p => .recordFault p x) _ _)

theorem State.CoilFaults.coilStuck (out owner : Nat) (s : State) : s.CoilFaults (s.coilStuck out owner) := by
  rw [coilStuck_eq]
  exact (State.CoilFaults.modOst_stick out s).trans (.tellStuck _ _ _ _)

/-- The reports leave OST's coils and banks. -/
structure State.SameBanks (s e : State) : Prop where
  coils : e.ost.coils = s.ost.coils
  banks : e.ost.banks = s.ost.banks

theorem State.ActsTo.sameBanks {s e : State} (h : s.ActsTo e) : s.SameBanks e := ⟨(coils_of_units h.units), (banks_of_fixed h.fixed)⟩

theorem tellStuck_sameBanks (out owner : Nat) (had : Bool) (s : State) : s.SameBanks (s.tellStuck out owner had) := by
  refine State.ActsTo.sameBanks ?_
  have h1 := State.ActsTo.recordFault owner .coilFault s
  unfold State.tellStuck
  simp only
  split
  · exact h1
  · exact (h1.trans (.raise _ _ _)).trans (.foldl (fun x p => .recordFault p _ x) _ _)

theorem coilStuck_banks (out owner : Nat) (s : State) :
    (s.coilStuck out owner).ost.coils = (s.ost.stick out).coils ∧ (s.coilStuck out owner).ost.banks = (s.ost.stick out).banks := by
  have h := tellStuck_sameBanks out owner (s.stuckBank (bankOf out)) (s.modOst (Ost.stick out))
  rw [coilStuck_eq]
  exact ⟨h.coils, h.banks⟩

/-- The outputs found stuck enter FAULT_STUCK one after another. -/
def State.stickFound (found : List (Nat × Nat)) (s : State) : State := found.foldl (fun x e => x.coilStuck e.1 e.2) s

theorem State.CoilFaults.stickFound (found : List (Nat × Nat)) (s : State) : s.CoilFaults (s.stickFound found) :=
  State.CoilFaults.foldl (f := fun (x : State) (e : Nat × Nat) => x.coilStuck e.1 e.2) (fun x e => State.CoilFaults.coilStuck e.1 e.2 x) found s

theorem Ost.stick_congr {o o' : Ost} (out : Nat) (hc : o'.coils = o.coils) (hb : o'.banks = o.banks) :
    (o'.stick out).coils = (o.stick out).coils ∧ (o'.stick out).banks = (o.stick out).banks := by
  simp only [Ost.stick, Ost.modBank, Ost.followBank, hc, hb, and_self]

theorem stickFound_banks (found : List (Nat × Nat)) (s : State) :
    (s.stickFound found).ost.coils = (s.ost.stickAll (found.map Prod.fst)).coils ∧
      (s.stickFound found).ost.banks = (s.ost.stickAll (found.map Prod.fst)).banks := by
  have key (found : List (Nat × Nat)) : ∀ (s : State) (o : Ost), s.ost.coils = o.coils → s.ost.banks = o.banks →
      (s.stickFound found).ost.coils = (o.stickAll (found.map Prod.fst)).coils ∧
        (s.stickFound found).ost.banks = (o.stickAll (found.map Prod.fst)).banks := by
    induction found with
    | nil => exact fun s o hc hb => ⟨hc, hb⟩
    | cons x found ih =>
      intro s o hc hb
      obtain ⟨h1, h2⟩ := coilStuck_banks x.1 x.2 s
      obtain ⟨k1, k2⟩ := Ost.stick_congr x.1 hc hb
      exact ih _ _ (h1.trans k1) (h2.trans k2)
  exact key found s s.ost rfl rfl

theorem mem_bankOwners {o : Ost} {b p : Nat} : p ∈ o.bankOwners b ↔ p < 48 ∧ ∃ i c, i < 48 ∧ bankOf i = b ∧ o.coils[i]? = some c ∧ c.owner = some p := by
  simp only [Ost.bankOwners, List.mem_filter, List.mem_range, List.any_eq_true, Bool.and_eq_true, beq_iff_eq, Option.any_eq_true]
  constructor
  · rintro ⟨hp, i, hi, hb, c, hc, ho⟩
    exact ⟨hp, i, c, hi, hb, hc, ho⟩
  · rintro ⟨hp, i, c, hi, hb, hc, ho⟩
    exact ⟨hp, i, hi, hb, c, hc, ho⟩

/-- The points that own an output of a bank are the same once outputs have stuck. -/
theorem bankOwners_of_stick {s e : State} {out b p : Nat} (hc : e.ost.coils = (s.ost.stick out).coils) (hp : p ∈ s.ost.bankOwners b) : p ∈ e.ost.bankOwners b := by
  obtain ⟨hp, i, c, hi, hb, hci, ho⟩ := mem_bankOwners.1 hp
  refine mem_bankOwners.2 ⟨hp, i, c.afterStuck [out] i, hi, hb, ?_, by rw [owner_afterStuck, ho]⟩
  rw [hc, coils_stick, hci]
  rfl

theorem tellStuck_owner (out owner : Nat) (had : Bool) (s : State) : s.CoilFaultTold (s.tellStuck out owner had) owner := by
  have h := recordFault_coilFaultTold owner s
  unfold State.tellStuck
  simp only
  split
  · exact h
  · exact h.later ((State.CoilFaults.raise _ _ _).trans (.foldl (fun x p => .recordFault p x) _ _))

/-- With the first stuck output of a bank every owner of the bank is told, and COIL_BANK_OFF stands. -/
theorem tellStuck_first (out owner : Nat) (s : State) :
    (∀ p ∈ s.ost.bankOwners (bankOf out), s.CoilFaultTold (s.tellStuck out owner false) p) ∧
      (s.aeu.NotAcked .coilBankOff (bankOf out) → (s.tellStuck out owner false).aeu.Stands .coilBankOff (bankOf out)) := by
  have h1 := State.CoilFaults.recordFault owner s
  have hcoils := (State.ActsTo.recordFault owner .coilFault s).sameBanks.coils
  have hr := State.CoilFaults.raise .coilBankOff (bankOf out) (s.recordFault owner .coilFault)
  refine ⟨fun p hp => ?_, fun hna => ?_⟩
  · have hp' : p ∈ (s.recordFault owner .coilFault).ost.bankOwners (bankOf out) := by
      rw [Ost.bankOwners, hcoils]
      exact hp
    exact (foldl_coilFaultTold _ _ hp').of_start (h1.trans hr)
  · refine (State.CoilFaults.foldl (fun x p => State.CoilFaults.recordFault p x) _ _).lasting _ (Aeu.stands_lasting True (by decide) _) ?_
    have hl := Aeu.stands_lasting True (k := .coilBankOff) (by decide) (bankOf out)
    exact hl.remake (Aeu.raise_stands (h1.lasting _ (Aeu.notAcked_lasting True _ _) hna))

theorem coilStuck_owner (out owner : Nat) (s : State) : s.CoilFaultTold (s.coilStuck out owner) owner := by
  rw [coilStuck_eq]
  exact (tellStuck_owner _ _ _ _).of_start (.modOst_stick out s)

theorem coilStuck_first {out : Nat} {s : State} (h : s.stuckBank (bankOf out) = false) (owner : Nat) :
    (∀ p ∈ s.ost.bankOwners (bankOf out), s.CoilFaultTold (s.coilStuck out owner) p) ∧
      (s.aeu.NotAcked .coilBankOff (bankOf out) → (s.coilStuck out owner).aeu.Stands .coilBankOff (bankOf out)) := by
  obtain ⟨h1, h2⟩ := tellStuck_first out owner (s.modOst (Ost.stick out))
  rw [coilStuck_eq, h]
  exact ⟨fun p hp => (h1 p (bankOwners_of_stick (s := s) (e := s.modOst (Ost.stick out)) rfl hp)).of_start (.modOst_stick out s), h2⟩

theorem stickFound_owner (found : List (Nat × Nat)) (s : State) {x : Nat × Nat} (hx : x ∈ found) : s.CoilFaultTold (s.stickFound found) x.2 := by
  induction found generalizing s with
  | nil => simp at hx
  | cons y found ih =>
    have hrest := State.CoilFaults.stickFound found (s.coilStuck y.1 y.2)
    rcases List.mem_cons.1 hx with rfl | hx
    · exact (coilStuck_owner _ _ s).later hrest
    · exact (ih _ hx).of_start (.coilStuck y.1 y.2 s)

/-- Every bank that goes OFF for STUCK has its owners told, and COIL_BANK_OFF stands for it (R143). -/
theorem stickFound_bank (found : List (Nat × Nat)) (s : State) {x : Nat × Nat} (hx : x ∈ found) (hb : s.stuckBank (bankOf x.1) = false) :
    (∀ p ∈ s.ost.bankOwners (bankOf x.1), s.CoilFaultTold (s.stickFound found) p) ∧
      (s.aeu.NotAcked .coilBankOff (bankOf x.1) → (s.stickFound found).aeu.Stands .coilBankOff (bankOf x.1)) := by
  induction found generalizing s with
  | nil => simp at hx
  | cons y found ih =>
    have hstep := State.CoilFaults.coilStuck y.1 y.2 s
    have hrest := State.CoilFaults.stickFound found (s.coilStuck y.1 y.2)
    by_cases hsame : bankOf y.1 = bankOf x.1
    · obtain ⟨h1, h2⟩ := coilStuck_first (out := y.1) (s := s) (hsame ▸ hb) y.2
      rw [hsame] at h1 h2
      exact ⟨fun p hp => (h1 p hp).later hrest, fun hna => hrest.lasting _ (Aeu.stands_lasting True (by decide) _) (h2 hna)⟩
    · have hx' : x ∈ found := (List.mem_cons.1 hx).resolve_left (fun he => hsame (he ▸ rfl))
      have hb' : (s.coilStuck y.1 y.2).stuckBank (bankOf x.1) = false := by
        rw [State.stuckBank, (coilStuck_banks y.1 y.2 s).2, banks_stick]
        have : Bank.afterStuck [y.1] (bankOf x.1) = id := funext fun k => by simp [Bank.afterStuck, hsame]
        rw [this, Option.map_id]
        exact hb
      obtain ⟨h1, h2⟩ := ih (s.coilStuck y.1 y.2) hx' hb'
      exact ⟨fun p hp => (h1 p (bankOwners_of_stick (coilStuck_banks y.1 y.2 s).1 hp)).of_start hstep,
        fun hna => h2 (hstep.lasting _ (Aeu.notAcked_lasting True _ _) hna)⟩

/-- Outputs with their owners, in banks that have supply. -/
def State.Supplied (s : State) (found : List (Nat × Nat)) : Prop :=
  ∀ x ∈ found, (∃ c, s.ost.coils[x.1]? = some c ∧ c.owner = some x.2) ∧ ∃ k, s.ost.banks[bankOf x.1]? = some k ∧ k.stuck = false

theorem supervised_supplied {s : State} {out p : Nat} {st : CoilState} (h : s.supervised out st = some p) :
    (∃ c, s.ost.coils[out]? = some c ∧ c.owner = some p) ∧ ∃ k, s.ost.banks[bankOf out]? = some k ∧ k.stuck = false := by
  unfold State.supervised at h
  split at h
  · rename_i c hc
    split at h
    · rename_i hon
      refine ⟨⟨c, hc, h⟩, ?_⟩
      simp only [Bool.and_eq_true, State.bankOn] at hon
      cases hk : s.ost.banks[bankOf out]? with
      | none => simp [hk] at hon
      | some k => exact ⟨k, rfl, by simp [hk, Bank.on] at hon; exact hon.2.2⟩
    · cases h
  · cases h

/-- Outputs found stuck leave what R143, R144 and R146 say. -/
theorem stickFound_stuckAt {s : State} {found : List (Nat × Nat)} (h : s.Supplied found) : s.StuckAt (s.stickFound found) found := by
  have hall := State.CoilFaults.stickFound found s
  obtain ⟨hcoils, hbanks⟩ := stickFound_banks found s
  have hcoil (i : Nat) : (s.stickFound found).ost.coils[i]? = s.ost.coils[i]?.map (Coil.afterStuck (found.map Prod.fst) i) := by
    rw [hcoils, coils_stickAll]
  have hbank (b : Nat) : (s.stickFound found).ost.banks[b]? = s.ost.banks[b]?.map (Bank.afterStuck (found.map Prod.fst) b) := by
    rw [hbanks, banks_stickAll]
  have hmem {x : Nat × Nat} (hx : x ∈ found) : x.1 ∈ found.map Prod.fst := List.mem_map_of_mem hx
  have hfree {x : Nat × Nat} (hx : x ∈ found) : s.stuckBank (bankOf x.1) = false := by
    obtain ⟨k, hk, hs⟩ := (h x hx).2
    simp [State.stuckBank, hk, hs]
  have htold {x : Nat × Nat} (hx : x ∈ found) {p : Nat}
      (hp : p = x.2 ∨ p < 48 ∧ ∃ i c, i < 48 ∧ bankOf i = bankOf x.1 ∧ s.ost.coils[i]? = some c ∧ c.owner = some p) :
      s.CoilFaultTold (s.stickFound found) p := by
    rcases hp with rfl | hp
    · exact stickFound_owner found s hx
    · exact (stickFound_bank found s hx (hfree hx)).1 p (mem_bankOwners.2 hp)
  refine ⟨fun x hx => ?_, fun x hx => ?_, fun x hx i c hi hc => ?_, fun b hb => ⟨?_, fun i hi => ?_⟩, fun x hx p hpres hp => (htold hx hp).fault hpres,
    fun x hx hna => ((stickFound_bank found s hx (hfree hx)).2 hna).raised, fun x hx p hres hp => (htold hx hp).told hres,
    fun p hn hs => ?_, hall.codes, fun hok => ?_, fun hsea p hn hs hna => (hall.atSea hsea p hn hs hna).raised, ?_⟩
  · obtain ⟨c, hc, -⟩ := (h x hx).1
    exact ⟨c, hc, by rw [hcoil, hc, Option.map_some, Coil.afterStuck, if_pos (hmem hx)]⟩
  · obtain ⟨k, hk, -⟩ := (h x hx).2
    exact ⟨k, hk, by rw [hbank, hk, Option.map_some, Bank.afterStuck, if_pos ⟨x.1, hmem hx, rfl⟩]⟩
  · rw [hcoil] at hc
    obtain ⟨c', -, rfl⟩ := Option.map_eq_some_iff.1 hc
    unfold Coil.afterStuck
    split
    · simp
    · rw [if_pos ⟨x.1, hmem hx, hi.symm⟩]
      exact follow_not_on _
  · have : Bank.afterStuck (found.map Prod.fst) b = id := funext fun k => by
      rw [Bank.afterStuck, if_neg]
      · rfl
      · rintro ⟨o, ho, hob⟩
        obtain ⟨x, hx, rfl⟩ := List.mem_map.1 ho
        exact hb x hx hob
    rw [hbank, this, Option.map_id]
    rfl
  · have : Coil.afterStuck (found.map Prod.fst) i = id := funext fun c => by
      have hno : ¬ ∃ o ∈ found.map Prod.fst, bankOf o = bankOf i := by
        rintro ⟨o, ho, hob⟩
        obtain ⟨x, hx, rfl⟩ := List.mem_map.1 ho
        exact hb x hx (hob.trans hi)
      rw [Coil.afterStuck, if_neg (fun hm => hno ⟨i, hm, rfl⟩), if_neg hno]
      rfl
    rw [hcoil, this, Option.map_id]
    rfl
  · exact hall.hands.cevFollows (fun hst => (congrArg Fixed.started hall.fixed).trans hst) (congrArg Fixed.lst hall.fixed) (hall.current p (.inr ⟨hn, hs⟩))
  · obtain ⟨es, hl, hnd, hiff⟩ := hall.logged
    exact ⟨es, hl.events_eq (hall.ok hok), hnd, hiff⟩
  · have hu := hall.units
    simp only [State.units, Units.mk.injEq] at hu
    obtain ⟨h1, h2, h3, h4, -, h5, h6⟩ := hu
    exact ⟨h5, h6, h1, h2, h3, h4, by rw [fixed_finish, hall.fixed]⟩

/-! ### The commands -/

theorem darkPulse_stuck {s : State} {out p current : Nat} (h : s.supervised out .on = some p) (hc : 40 < current) :
    s.darkPulse out current = s.stickFound [(out, p)] := by
  have : current > Config.stuckThreshold := hc
  simp only [State.darkPulse, h, if_pos this]
  rfl

theorem darkPulse_same {s : State} {out current : Nat} (h : s.supervised out .on = none ∨ current ≤ 40) : s.darkPulse out current = s := by
  unfold State.darkPulse
  split
  · rename_i p hp
    have : ¬ current > Config.stuckThreshold := by
      have := h.resolve_left (by simp [hp])
      have ht : Config.stuckThreshold = 40 := rfl
      omega
    rw [if_neg this]
  · rfl

/-- A run of point records is taken before anything that the first of them gives rise to (R146; assumption 2). -/
theorem settle_records (n : Nat) (record : Task) (records rest : List Task) (hr : record.ofRecord = true) (hrs : ∀ t ∈ records, t.ofRecord = true)
    (s : State) : ∃ later, settle (n + 1) (record :: (records ++ rest)) s = settle n (records ++ later) { runTask record s with todo := [] } ∧
      later.Perm ((runTask record s).todo ++ rest) := by
  have htake : (records ++ rest).takeWhile Task.ofRecord = records ++ rest.takeWhile Task.ofRecord := List.takeWhile_append_of_pos hrs
  refine ⟨rest.takeWhile Task.ofRecord ++ ((runTask record s).todo ++ rest.drop (rest.takeWhile Task.ofRecord).length), ?_, ?_⟩
  · simp only [settle, hr, if_true, htake, List.append_assoc, List.length_append, List.drop_append]
    congr 1
    simp
  · have hsplit : rest.takeWhile Task.ofRecord ++ rest.drop (rest.takeWhile Task.ofRecord).length = rest :=
      List.prefix_iff_eq_append.1 (List.takeWhile_prefix Task.ofRecord)
    rw [← List.append_assoc]
    refine (List.perm_append_comm.append_right _).trans ?_
    rw [List.append_assoc, hsplit]

/-- Settles O34. -/
theorem stuckOutputTakesItsBankOff : Obligations.StuckOutputTakesItsBankOff := by
  refine fun s hr => ⟨fun outs => ⟨_, exec_act hr _, stickFound_stuckAt ?_⟩, fun out current => ⟨fun p hp hc => ⟨_, exec_act hr _, ?_⟩,
    fun h => exec_act_same hr (darkPulse_same h)⟩, fun n record records rest h1 h2 => settle_records n record records rest h1 h2 s⟩
  · intro x hx
    obtain ⟨o, -, ho⟩ := List.mem_filterMap.1 hx
    obtain ⟨p, hp, rfl⟩ := Option.map_eq_some_iff.1 ho
    exact supervised_supplied hp
  · rw [darkPulse_stuck hp hc]
    refine stickFound_stuckAt fun x hx => ?_
    rw [List.mem_singleton.1 hx]
    exact supervised_supplied hp

end Sys2Proof.Machine
end

section
namespace Sys2Proof.Machine

/-! ### Records that are answered (R175) -/

/-- A record whose rule changes nothing is answered with its result. -/
theorem serve_answered {s : State} (hs : s.Serving) {st : Station} {run : Bool} {k : Nat} {v : Service} {rule : State → Answer} {r : Result} {f : List Byte}
    (h : rule (s.takeRun st run) = (s.takeRun st run, r, f)) : s.serve st run k v rule = s.answered st run k r f := by
  have ht : (s.takeRun st run).todo = [] := by simpa using hs.1.2
  rw [serve_full hs, h]
  simp only [State.answered]
  rw [finish_of_todo_nil ht]

/-- A record that its rule accepts is answered OK once its effect has settled. -/
theorem serve_accepted {s e : State} (hs : s.Serving) {st : Station} {run : Bool} {k : Nat} {v : Service} {rule : State → Answer}
    (h : rule (s.takeRun st run) = e.accept) : s.serve st run k v rule = e.acceptedAs st k := by
  rw [serve_full hs, h]
  rfl

theorem holds_iff {s : State} {st : Station} : s.holds st = true ↔ s.amu.holder = holderOf st := by simp [State.holds]

theorem holds_takeRun {s : State} {st : Station} (run : Bool) : (s.takeRun st run).holds st = true ↔ s.amu.holder = holderOf st := by
  rw [takeRun_holds]; exact holds_iff

/-! ### Cleared alarms (R165) -/

theorem Aeu.mem_raise {a : Aeu} {k : AlarmKind} {i : Nat} {x : Alarm} (hx : x ∈ (a.raise k i).alarms) : x ∈ a.alarms ∨ Alarm.is k i x = true := by
  have hnew (st : Word32) : Alarm.is k i { kind := k, subject := i, state := .unackActive, stamp := st } = true := by simp [Alarm.is]
  rcases Aeu.raise_cases a k i with ⟨h, -⟩ | ⟨b, d, h, -, -, -, ⟨-, -, hb⟩ | ⟨-, hb⟩ | ⟨-, hb⟩ | ⟨-, hb, -⟩⟩
  · exact .inl (h ▸ hx)
  all_goals rw [h, Aeu.record_alarms, hb] at hx
  · obtain ⟨y, hy, rfl⟩ := List.mem_map.1 hx
    split
    · exact .inr (hnew _)
    · exact .inl hy
  · rcases List.mem_append.1 hx with hx | hx
    · exact .inl hx
    · exact .inr (List.mem_singleton.1 hx ▸ hnew _)
  · rcases List.mem_append.1 hx with hx | hx
    · exact .inl (List.mem_of_mem_eraseP hx)
    · exact .inr (List.mem_singleton.1 hx ▸ hnew _)
  · exact .inl hx

/-- An entry is the only one of its pair. -/
theorem Aeu.AlarmsOk.unique {a : Aeu} (h : a.AlarmsOk) {x y : Alarm} (hx : x ∈ a.alarms) (hy : y ∈ a.alarms) (hp : x.pair = y.pair) : x = y :=
  List.inj_on_of_nodup_map ((Aeu.alarmsOk_iff a).1 h).2 hx hy hp

/-- A clear leaves no entry of its pair active (R165). -/
theorem Aeu.clear_cleared {a : Aeu} (h : a.AlarmsOk) (k : AlarmKind) (i : Nat) : (a.clear k i).Cleared k i := by
  intro x hx hk hi
  have hp : Alarm.is k i x = true := by simp [Alarm.is, hk, hi]
  simp only [Aeu.clear] at hx
  split at hx
  · rename_i e he
    have hem := List.mem_of_find?_eq_some he
    have hep := (Alarm.is_iff k i e).1 (List.find?_some he)
    split at hx
    · obtain ⟨y, -, rfl⟩ := List.mem_map.1 hx
      split
      · rfl
      · rename_i hn
        rw [if_neg hn] at hp
        exact absurd hp hn
    · rename_i hs
      have hxa : x ∈ a.alarms.eraseP (Alarm.is k i) := hx
      have hxe : x = e := h.unique (List.mem_of_mem_eraseP hxa) hem (((Alarm.is_iff k i x).1 hp).trans hep.symm)
      obtain ⟨l, r, -, hl, hsplit⟩ : ∃ l r, (∀ y ∈ l, ¬ Alarm.is k i y = true) ∧ a.alarms = l ++ e :: r ∧ a.alarms.eraseP (Alarm.is k i) = l ++ r := by
        obtain ⟨y, l, r, hl, hy, h1, h2⟩ := List.exists_of_eraseP hem (List.find?_some he)
        have hye : y = e := h.unique (by rw [h1]; simp) hem (((Alarm.is_iff k i y).1 hy).trans hep.symm)
        exact ⟨l, r, hl, hye ▸ h1, h2⟩
      have hnd : a.alarms.Nodup := List.Nodup.of_map _ ((Aeu.alarmsOk_iff a).1 h).2
      rw [hsplit, hxe] at hxa
      rw [hl] at hnd
      exact absurd hxa (List.nodup_middle.1 hnd |> List.nodup_cons.1).1
    · rename_i hs
      rw [h.unique hx hem (((Alarm.is_iff k i x).1 hp).trans hep.symm), hs]
  · rename_i hn
    exact absurd hp (List.find?_eq_none.1 hn x hx)

section
variable {a b : Aeu} {k : AlarmKind} {i : Nat}

theorem Aeu.Cleared.congr (h : a.Cleared k i) (hb : b.alarms = a.alarms) : b.Cleared k i := by rw [Aeu.Cleared, hb]; exact h

theorem Aeu.Cleared.clear (h : a.Cleared k i) (k' : AlarmKind) (j : Nat) : (a.clear k' j).Cleared k i := fun x hx hk hi =>
  (Aeu.mem_clear hx).elim (fun hx => h x hx hk hi) (fun hc => hc.1)

/-- A raise of another pair. -/
theorem Aeu.Cleared.raise (h : a.Cleared k i) {k' : AlarmKind} {j : Nat} (hne : k' = k → j ≠ i) : (a.raise k' j).Cleared k i := fun x hx hk hi =>
  (Aeu.mem_raise hx).elim (fun hx => h x hx hk hi) fun hp => absurd ((Alarm.is_kind hp).2.symm.trans hi) (hne ((Alarm.is_kind hp).1.symm.trans hk))

theorem Aeu.Cleared.element (h : a.Cleared k i) (hk : k ≠ .closureLost) (w n : Bool) (j : Nat) : (a.element w n j).Cleared k i := by
  simp only [Aeu.element]
  repeat' split
  · exact h.raise (fun he => absurd he.symm hk)
  · exact h.clear _ _
  · exact h

theorem Aeu.Cleared.recompute {s : State} (h : s.aeu.Cleared k i) (hk : k ≠ .closureLost) (ids : List Nat) : (s.recompute ids).aeu.Cleared k i := by
  cases hs : s.cev.started with
  | false => rw [recompute_not_started hs]; exact h
  | true =>
    rcases recompute_started hs ids with ⟨he, -⟩ | he
    · rw [he]; exact h
    · rw [he]
      exact ((h.element hk _ _ _).element hk _ _ _).congr rfl

end

theorem recompute_alarmsOk {s : State} (h : s.aeu.AlarmsOk) (ids : List Nat) : (s.recompute ids).aeu.AlarmsOk := by
  cases hs : s.cev.started with
  | false => rw [recompute_not_started hs]; exact h
  | true =>
    rcases recompute_started hs ids with ⟨he, -⟩ | he
    · rw [he]; exact h
    · rw [he]; exact (h.supervise s.amu.mode _).congr rfl

theorem Aeu.AlarmsOk.remake {a : Aeu} (h : a.AlarmsOk) : a.remake.AlarmsOk := h.congr rfl

theorem clearAlarm_alarmsOk {s : State} (h : s.aeu.AlarmsOk) (k : AlarmKind) (i : Nat) : (s.clearAlarm k i).aeu.AlarmsOk := (h.clear k i).remake

theorem clearAlarm_cleared {s : State} (h : s.aeu.AlarmsOk) (k : AlarmKind) (i : Nat) : (s.clearAlarm k i).aeu.Cleared k i :=
  (Aeu.clear_cleared h k i).congr (b := (s.aeu.clear k i).remake) rfl

theorem event_alarmsOk {s : State} (h : s.aeu.AlarmsOk) (e : Event) : (s.event e).aeu.AlarmsOk := by
  have hr : (s.aeu.record e).AlarmsOk := h.congr (Aeu.record_alarms e s.aeu)
  rw [event_aeu]
  exact hr.remake

theorem Aeu.Cleared.remake {a : Aeu} {k : AlarmKind} {i : Nat} (h : a.Cleared k i) : a.remake.Cleared k i := h.congr rfl

theorem Aeu.Cleared.event {s : State} {k : AlarmKind} {i : Nat} (h : s.aeu.Cleared k i) (e : Event) : (s.event e).aeu.Cleared k i := by
  have hr : (s.aeu.record e).Cleared k i := h.congr (Aeu.record_alarms e s.aeu)
  rw [event_aeu]
  exact hr.remake

theorem Aeu.Cleared.clearAlarm {s : State} {k : AlarmKind} {i : Nat} (h : s.aeu.Cleared k i) (k' : AlarmKind) (j : Nat) :
    (s.clearAlarm k' j).aeu.Cleared k i := (h.clear k' j).remake

theorem Aeu.clear_newest (k : AlarmKind) (i : Nat) (a : Aeu) : (a.clear k i).newest = a.newest := by rw [Aeu.newest, Aeu.clear_events]; rfl

theorem event_newest (e : Event) (s : State) : (s.event e).aeu.newest = some e := by rw [event_aeu, Aeu.newest_remake, Aeu.record_newest]

theorem clearAlarm_newest (k : AlarmKind) (i : Nat) (s : State) : (s.clearAlarm k i).aeu.newest = s.aeu.newest := by
  rw [clearAlarm_aeu, Aeu.newest_remake, Aeu.clear_newest]

end Sys2Proof.Machine
end

section
namespace Sys2Proof.Machine

/-! ### Latches released (R143, R147) -/

/-- What a coil is latched with, if anything. -/
def Coil.latch (c : Coil) : Option CoilState := if c.state.latched then some c.state else none

theorem latch_follow (b : Bool) (c : Coil) : (c.follow b).latch = c.latch := by
  obtain ⟨o, d, st⟩ := c
  cases st <;> cases d <;> cases b <;> rfl

theorem faultStuck_iff_latch (c : Coil) : c.state = .faultStuck ↔ c.latch = some .faultStuck := by
  obtain ⟨o, d, st⟩ := c
  cases st <;> simp [Coil.latch, CoilState.latched]

theorem latched_iff_latch (c : Coil) : c.state.latched = false ↔ c.latch = none := by
  obtain ⟨o, d, st⟩ := c
  cases st <;> simp [Coil.latch, CoilState.latched]

/-- The latches of all coils. -/
def Ost.latches (o : Ost) : List (Option CoilState) := o.coils.map Coil.latch

theorem latches_getElem? (o : Ost) (i : Nat) : o.latches[i]? = o.coils[i]?.map Coil.latch := List.getElem?_map

/-- An output of the bank is FAULT_STUCK, as the latches say it. -/
theorem bankStuck_latches (o : Ost) (b : Nat) : o.bankStuck b = (List.range 48).any (fun i => bankOf i == b && o.latches[i]?.any (fun l => l == some .faultStuck)) := by
  have (i : Nat) : o.coils[i]?.any (fun c => c.state == .faultStuck) = o.latches[i]?.any (fun l => l == some .faultStuck) := by
    rw [latches_getElem?]
    cases o.coils[i]? with
    | none => rfl
    | some c => rw [Bool.eq_iff_iff]; simp [faultStuck_iff_latch]
  simp only [Ost.bankStuck, this]

/-- A coil output of bank 0 to 5 that stands FAULT_STUCK. -/
theorem bankStuck_iff {o : Ost} {b : Nat} (hb : b < 6) : o.bankStuck b = true ↔ ∃ i c, i / 8 = b ∧ o.coils[i]? = some c ∧ c.state = .faultStuck := by
  simp only [Ost.bankStuck, List.any_eq_true, List.mem_range, Bool.and_eq_true, beq_iff_eq, Option.any_eq_true]
  constructor
  · rintro ⟨i, -, hi, c, hc, hs⟩
    exact ⟨i, c, hi, hc, hs⟩
  · rintro ⟨i, c, hi, hc, hs⟩
    exact ⟨i, by omega, hi, c, hc, hs⟩

theorem latches_modBank (b : Nat) (f : Bank → Bank) (o : Ost) : (o.modBank b f).latches = o.latches := by
  refine List.ext_getElem? fun i => ?_
  rw [latches_getElem?, latches_getElem?]
  simp only [Ost.modBank, Ost.followBank, List.getElem?_mapIdx, Option.map_map]
  congr 1
  funext c
  simp only [Function.comp]
  split
  · exact latch_follow _ _
  · rfl

theorem banks_modBank (b : Nat) (f : Bank → Bank) (o : Ost) : (o.modBank b f).banks = lmod o.banks b f := rfl

/-- The bank has an output FAULT_STUCK, or its STUCK cause is gone. -/
def Ost.unstuck (o : Ost) (b : Nat) (k : Bank) : Bank := if o.bankStuck b then k else { k with stuck := false }

/-- OST and AEU alone have acted, each latch is as it was, and the alarm list is in order. -/
structure State.Unsticks (s e : State) : Prop where
  frame   : e = { s with ost := e.ost, aeu := e.aeu }
  fixed   : e.fixed = { s.fixed with banks := e.ost.banks }
  latches : e.ost.latches = s.ost.latches
  props   : e.ost.props = s.ost.props
  alarms  : s.aeu.AlarmsOk → e.aeu.AlarmsOk
  cleared : ∀ k i, s.aeu.Cleared k i → e.aeu.Cleared k i

theorem State.Unsticks.refl (s : State) : s.Unsticks s := ⟨rfl, rfl, rfl, rfl, id, fun _ _ => id⟩

theorem State.Unsticks.trans {s m e : State} (h : s.Unsticks m) (k : m.Unsticks e) : s.Unsticks e where
  frame := by
    have hk := k.frame
    rw [h.frame] at hk
    exact hk
  fixed := by rw [k.fixed, h.fixed]
  latches := k.latches.trans h.latches
  props := k.props.trans h.props
  alarms ha := k.alarms (h.alarms ha)
  cleared a i hc := k.cleared a i (h.cleared a i hc)

theorem State.Unsticks.bankStuck {s e : State} (h : s.Unsticks e) (b : Nat) : e.ost.bankStuck b = s.ost.bankStuck b := by
  rw [bankStuck_latches, bankStuck_latches, h.latches]

/-- The bank is to lose its STUCK cause. -/
def State.losesStuck (s : State) (b : Nat) : Bool := s.ost.banks[b]?.any (fun k => k.stuck) && !s.ost.bankStuck b

theorem unstick_of {s : State} {b : Nat} (h : s.losesStuck b = true) :
    s.unstick b = (s.modOst (Ost.modBank b (fun k => { k with stuck := false }))).clearAlarm .coilBankOff b := if_pos h

theorem unstick_of_not {s : State} {b : Nat} (h : s.losesStuck b = false) : s.unstick b = s := if_neg (by simpa [State.losesStuck] using h)

theorem State.Unsticks.unstick (b : Nat) (s : State) : s.Unsticks (s.unstick b) := by
  cases h : s.losesStuck b with
  | false => rw [unstick_of_not h]; exact .refl s
  | true =>
    rw [unstick_of h]
    refine ⟨rfl, ?_, latches_modBank _ _ _, rfl, fun ha => clearAlarm_alarmsOk ha _ _, fun k i hc => (hc.clear _ _).congr rfl⟩
    rw [fixed_clearAlarm]
    rfl

/-- The banks after one is looked at. -/
theorem banks_unstick (b : Nat) (s : State) (j : Nat) : (s.unstick b).ost.banks[j]? = if b = j then s.ost.banks[j]?.map (s.ost.unstuck j) else s.ost.banks[j]? := by
  cases h : s.losesStuck b with
  | true =>
    have hb : s.ost.bankStuck b = false := by
      simp only [State.losesStuck, Bool.and_eq_true, Bool.not_eq_eq_eq_not, Bool.not_true] at h
      exact h.2
    rw [unstick_of h]
    change (lmod s.ost.banks b _)[j]? = _
    rw [getElem?_lmod]
    split
    · rename_i hj
      subst hj
      have : s.ost.unstuck b = fun k => { k with stuck := false } := funext fun k => if_neg (by simp [hb])
      rw [this]
    · rfl
  | false =>
    rw [unstick_of_not h]
    split
    · rename_i hj
      subst hj
      cases hk : s.ost.banks[b]? with
      | none => rfl
      | some k =>
        simp only [State.losesStuck, hk, Option.any_some, Bool.and_eq_false_iff, Bool.not_eq_eq_eq_not, Bool.not_false] at h
        rw [Option.map_some, Ost.unstuck]
        split
        · rfl
        · rename_i hn
          obtain ⟨s1, s2, st⟩ := k
          simp only [hn, or_false, Bool.false_eq_true] at h
          rw [← h]
    · rfl

/-- Banks of a list are looked at in turn. -/
def State.unstickAll (bs : List Nat) (s : State) : State := bs.foldl (fun x b => x.unstick b) s

theorem State.Unsticks.all (bs : List Nat) (s : State) : s.Unsticks (s.unstickAll bs) := by
  induction bs generalizing s with
  | nil => exact .refl s
  | cons b bs ih => exact (State.Unsticks.unstick b s).trans (ih _)

theorem unstuck_twice (o : Ost) (b : Nat) (k : Bank) : o.unstuck b (o.unstuck b k) = o.unstuck b k := by
  unfold Ost.unstuck
  split <;> rfl

theorem banks_unstickAll (bs : List Nat) (s : State) (j : Nat) :
    (s.unstickAll bs).ost.banks[j]? = if j ∈ bs then s.ost.banks[j]?.map (s.ost.unstuck j) else s.ost.banks[j]? := by
  induction bs generalizing s with
  | nil => rfl
  | cons b bs ih =>
    have hsame : (s.unstick b).ost.unstuck j = s.ost.unstuck j := by
      funext k
      simp only [Ost.unstuck, (State.Unsticks.unstick b s).bankStuck]
    show ((s.unstick b).unstickAll bs).ost.banks[j]? = _
    rw [ih, hsame, banks_unstick]
    by_cases hj : b = j
    · subst hj
      simp only [if_true, List.mem_cons, true_or, Option.map_map]
      split
      · congr 1
        exact funext (unstuck_twice s.ost b)
      · rfl
    · simp only [hj, Ne.symm hj, if_false, List.mem_cons, false_or]

/-- A bank that loses its STUCK cause loses its alarm condition (R143, R147). -/
theorem unstickAll_cleared (bs : List Nat) (s : State) (ha : s.aeu.AlarmsOk) {j : Nat} (hj : j ∈ bs) {k : Bank} (hk : s.ost.banks[j]? = some k)
    (hs : k.stuck = true) (hn : s.ost.bankStuck j = false) : (s.unstickAll bs).aeu.Cleared .coilBankOff j := by
  induction bs generalizing s with
  | nil => simp at hj
  | cons b bs ih =>
    have hstep := State.Unsticks.unstick b s
    by_cases hb : b = j
    · subst hb
      refine (State.Unsticks.all bs (s.unstick b)).cleared _ _ ?_
      rw [unstick_of (by simp [State.losesStuck, hk, hs, hn])]
      exact clearAlarm_cleared (s := s.modOst (Ost.modBank b (fun k => { k with stuck := false }))) ha _ _
    · refine ih (s.unstick b) (hstep.alarms ha) ((List.mem_cons.1 hj).resolve_left (Ne.symm hb)) ?_ ((hstep.bankStuck j).trans hn)
      rw [banks_unstick, if_neg hb, hk]

/-- The named outputs are unlatched; the banks follow later. -/
def State.unlatch (coil prop : Nat → Bool) (s : State) : State :=
  s.modOst (fun o =>
    { o with
      coils := o.coils.mapIdx (fun i c => if coil i && c.state.latched then ({ c with state := .off }).follow (s.bankOn (bankOf i)) else c)
      props := o.props.mapIdx (fun i p => if prop i && p.state != .active then { p with state := .active, command := 0 } else p) })

theorem releaseLatches_eq (coil prop : Nat → Bool) (s : State) : s.releaseLatches coil prop = (s.unlatch coil prop).unstickAll (List.range 6) := rfl

theorem latches_unlatch {coil prop : Nat → Bool} {s : State} {i : Nat} (h : coil i = true) {l : Option CoilState}
    (hl : (s.unlatch coil prop).ost.latches[i]? = some l) : l = none := by
  rw [latches_getElem?] at hl
  obtain ⟨c, hc, rfl⟩ := Option.map_eq_some_iff.1 hl
  simp only [State.unlatch, State.modOst, List.getElem?_mapIdx, Option.map_eq_some_iff, h, Bool.true_and] at hc
  obtain ⟨c', -, rfl⟩ := hc
  split
  · rw [latch_follow]
    rfl
  · rename_i hn
    exact (latched_iff_latch c').1 (by simpa using hn)

theorem props_unlatch {coil prop : Nat → Bool} {s : State} {i : Nat} (h : prop i = true) {p : PropOut} (hp : (s.unlatch coil prop).ost.props[i]? = some p) :
    p.state = .active := by
  simp only [State.unlatch, State.modOst, List.getElem?_mapIdx, Option.map_eq_some_iff, h, Bool.true_and] at hp
  obtain ⟨p', -, rfl⟩ := hp
  split
  · rfl
  · rename_i hn
    simpa using hn

/-- What the release of a point's latches leaves (R143, R147). -/
structure State.Releases (s e : State) (coil prop : Nat → Bool) : Prop where
  frame  : e = { s with ost := e.ost, aeu := e.aeu }
  fixed  : e.fixed = { s.fixed with banks := e.ost.banks }
  coils  : ∀ i, coil i = true → ∀ c, e.ost.coils[i]? = some c → c.state.latched = false
  props  : ∀ i, prop i = true → ∀ c, e.ost.props[i]? = some c → c.state = .active
  banks  : ∀ b < 6, ∀ k, s.ost.banks[b]? = some k → e.ost.banks[b]? = some (e.ost.unstuck b k)
  alarms : s.aeu.AlarmsOk → e.aeu.AlarmsOk
  alarm  : s.aeu.AlarmsOk → ∀ b < 6, ∀ k, s.ost.banks[b]? = some k → k.stuck = true → e.ost.bankStuck b = false → e.aeu.Cleared .coilBankOff b

/-- What the release leaves alone. -/
theorem State.Releases.kept {s e : State} {coil prop : Nat → Bool} (h : s.Releases e coil prop) : e.pmn = s.pmn ∧ e.cev = s.cev ∧ e.lst = s.lst ∧
    e.hpa = s.hpa ∧ e.ldu = s.ldu ∧ e.adu = s.adu ∧ e.osq = s.osq :=
  have h := h.frame
  ⟨by rw [h], by rw [h], by rw [h], by rw [h], by rw [h], by rw [h], by rw [h]⟩

theorem releaseLatches_releases (coil prop : Nat → Bool) (s : State) : s.Releases (s.releaseLatches coil prop) coil prop := by
  have h := State.Unsticks.all (List.range 6) (s.unlatch coil prop)
  rw [releaseLatches_eq]
  refine ⟨h.frame, h.fixed, fun i hi c hc => ?_, fun i hi c hc => ?_, fun b hb k hk => ?_, h.alarms, fun ha b hb k hk hs hn => ?_⟩
  · refine (latched_iff_latch c).2 (latches_unlatch (prop := prop) (s := s) hi ?_)
    rw [← h.latches, latches_getElem?, hc]
    rfl
  · rw [h.props] at hc
    exact props_unlatch hi hc
  · have hsame : ((s.unlatch coil prop).unstickAll (List.range 6)).ost.unstuck b = (s.unlatch coil prop).ost.unstuck b := by
      funext x
      simp only [Ost.unstuck, h.bankStuck]
    rw [banks_unstickAll, if_pos (List.mem_range.2 hb), hsame]
    exact congrArg (Option.map _) hk
  · exact unstickAll_cleared _ (s.unlatch coil prop) ha (List.mem_range.2 hb) hk hs ((h.bankStuck b).symm.trans hn)

/-! ### CLEAR_FAULT of a point (R14, R15) -/

/-- A record without its fault and its DEGRADED flag. -/
def PointDyn.cleared : PointDyn → PointDyn
  | .lock y => .lock { y with fault := none }
  | .axis y => .axis { y with fault := none, degraded := false }

/-- The state with a point's fault and DEGRADED flag cleared. -/
def State.unfault (p : Nat) (s : State) : State := { s with pmn := { s.pmn with points := tmod s.pmn.points p PointDyn.cleared } }

/-- The outputs of a point of the layout. -/
def State.ownsCoil (s : State) (p o : Nat) : Bool := (tget s.layout.points p).any (fun d => (coilsOf d).contains o)

/-- The proportional outputs of a point of the layout. -/
def State.ownsProp (s : State) (p o : Nat) : Bool := (tget s.layout.points p).any (fun d => (propsOf d).contains o)

/-- The state with the fault of a point cleared and its latches released. -/
def State.released (p : Nat) (s : State) : State := (s.unfault p).releaseLatches (s.ownsCoil p) (s.ownsProp p)

theorem released_releases (p : Nat) (s : State) : (s.unfault p).Releases (s.released p) (s.ownsCoil p) (s.ownsProp p) := releaseLatches_releases _ _ _

/-- CEV, AEU and, of a floating axis, ADU are told of a cleared fault. -/
def State.tellCleared (p : Nat) (was : Bool) (s : State) : State :=
  let s1 := ((s.pointToCev p).event (.faultCleared p)).clearAlarm .pointFault p
  (if was then s1.clearAlarm .transducerLost p else s1).handFloat p

theorem clearPoint_eq (p : Nat) (s : State) : s.clearPoint p = (s.released p).tellCleared p (s.degraded p) := by
  have : s.unfault p = { s with pmn := { s.pmn with points := tmod s.pmn.points p (fun d =>
    match d with
    | .lock y => .lock { y with fault := none }
    | .axis y => .axis { y with fault := none, degraded := false }) } } := by
    have hf : PointDyn.cleared = (fun d => match d with
      | .lock y => .lock { y with fault := none }
      | .axis y => .axis { y with fault := none, degraded := false }) := by
      funext d
      cases d <;> rfl
    rw [State.unfault, hf]
  unfold State.released
  rw [this]
  rfl

theorem tellCleared_cev (p : Nat) (was : Bool) (s : State) : (s.tellCleared p was).cev = (s.pointToCev p).cev := by
  unfold State.tellCleared
  simp only
  rw [handFloat_cev]
  split
  · rw [clearAlarm_cev, clearAlarm_cev, event_cev]
  · rw [clearAlarm_cev, event_cev]

theorem State.ActsTo.tellCleared (p : Nat) (was : Bool) (s : State) : s.ActsTo (s.tellCleared p was) := by
  have h := ((State.ActsTo.pointToCev p s).trans (.event (.faultCleared p) _)).trans (.clearAlarm .pointFault p _)
  unfold State.tellCleared
  simp only
  split
  · exact (h.trans (.clearAlarm _ _ _)).trans (.handFloat _ _)
  · exact h.trans (.handFloat _ _)

theorem tellCleared_pmn (p : Nat) (was : Bool) (s : State) : (s.tellCleared p was).pmn = s.pmn := by
  unfold State.tellCleared
  simp only
  split <;> simp

/-- What AEU holds once it is told. -/
theorem tellCleared_aeu {p : Nat} {was : Bool} {s : State} (ha : s.aeu.AlarmsOk) : (s.tellCleared p was).aeu.newest = some (.faultCleared p) ∧
    (s.tellCleared p was).aeu.Cleared .pointFault p ∧ (was = true → (s.tellCleared p was).aeu.Cleared .transducerLost p) ∧
    ∀ b, s.aeu.Cleared .coilBankOff b → (s.tellCleared p was).aeu.Cleared .coilBankOff b := by
  have hok : ((s.pointToCev p).event (.faultCleared p)).aeu.AlarmsOk := event_alarmsOk (recompute_alarmsOk ha _) _
  have hpf := clearAlarm_cleared hok .pointFault p
  have hnew := (clearAlarm_newest .pointFault p _).trans (event_newest (.faultCleared p) (s.pointToCev p))
  have hbank (b : Nat) (h : s.aeu.Cleared .coilBankOff b) := ((h.recompute (s := s) (by decide) (Layout.condsNaming s.layout p)).event (.faultCleared p)).clearAlarm .pointFault p
  unfold State.tellCleared
  simp only
  rw [handFloat_aeu]
  cases was with
  | true =>
    exact ⟨(clearAlarm_newest _ _ _).trans hnew, hpf.clearAlarm _ _, fun _ => clearAlarm_cleared (clearAlarm_alarmsOk hok _ _) _ _,
      fun b h => (hbank b h).clearAlarm _ _⟩
  | false => exact ⟨hnew, hpf, fun h => absurd h Bool.false_ne_true, hbank⟩

theorem tellCleared_float {p : Nat} {was : Bool} {s : State} (h : s.floats p = true) : Task.floatRecord p ∈ (s.tellCleared p was).todo := by
  have key (m : State) (hm : m.units = s.units) : Task.floatRecord p ∈ (m.handFloat p).todo := by
    have hf : (tget m.adu.floats p).isSome := by rw [(adu_of_units hm)]; exact h
    rw [State.handFloat, if_pos hf]
    exact List.mem_append_right _ (List.mem_singleton_self _)
  unfold State.tellCleared
  simp only
  refine key _ ?_
  split <;> simp [State.pointToCev]

/-- The record of a point once its fault is cleared. -/
theorem tget_unfault (p q : Nat) (s : State) : tget (s.unfault p).pmn.points q = if p = q then (tget s.pmn.points q).map PointDyn.cleared else tget s.pmn.points q :=
  tget_tmod _ _ _ _

/-- CEV has been told of a point since the state in which its fault stood (R37). -/
theorem clearPoint_cevFollows (p : Nat) (s : State) : s.CevFollows (s.clearPoint p) p := by
  obtain ⟨-, hcev, hlst, -⟩ := (released_releases p s).kept
  have hacts := State.ActsTo.tellCleared p (s.degraded p) (s.released p)
  have hpoint := State.ActsTo.pointToCev p (s.released p)
  have hlst' : ((s.released p).tellCleared p (s.degraded p)).lst = ((s.released p).pointToCev p).lst :=
    (lst_of_fixed hacts.fixed).trans (lst_of_fixed hpoint.fixed).symm
  have hpmn : ((s.released p).tellCleared p (s.degraded p)).pmn = ((s.released p).pointToCev p).pmn :=
    (tellCleared_pmn _ _ _).trans (pointToCev_pmn _ _).symm
  have hcur := (pointToCev_current p (s.released p)).congr (tellCleared_cev _ _ _) hlst' (State.SeesSame.of_pmn hpmn)
  rw [clearPoint_eq]
  exact (hacts.cevFollows hcur).of_start hcev hlst

/-- An accepted CLEAR_FAULT leaves the point without fault and tells its units (R14). -/
structure State.PointCleared (s e : State) (p : Nat) : Prop where
  fault    : e.faultOf p = none
  degraded : e.degraded p = false
  others   : ∀ q, q ≠ p → tget e.pmn.points q = tget s.pmn.points q
  newest   : e.aeu.newest = some (.faultCleared p)
  alarm    : e.aeu.Cleared .pointFault p
  lost     : s.degraded p = true → e.aeu.Cleared .transducerLost p
  float    : s.floats p = true → Task.floatRecord p ∈ e.todo
  units    : e.hpa = s.hpa ∧ e.ldu = s.ldu ∧ e.adu = s.adu ∧ e.osq = s.osq
  fixed    : e.fixed = { s.fixed with banks := e.ost.banks }

theorem clearPoint_cleared (p : Nat) {s : State} (ha : s.aeu.AlarmsOk) : s.PointCleared (s.clearPoint p) p := by
  have hrel := released_releases p s
  obtain ⟨hpmn, -, -, h1, h2, h3, h4⟩ := hrel.kept
  have hacts := State.ActsTo.tellCleared p (s.degraded p) (s.released p)
  obtain ⟨k1, k2, k3, k4, -⟩ := State.units_eq hacts.units
  obtain ⟨hnew, halarm, hlost, -⟩ := tellCleared_aeu (p := p) (was := s.degraded p) (hrel.alarms ha)
  have hget (q : Nat) : tget ((s.released p).tellCleared p (s.degraded p)).pmn.points q =
      if p = q then (tget s.pmn.points q).map PointDyn.cleared else tget s.pmn.points q := by
    rw [tellCleared_pmn, hpmn, tget_unfault]
  rw [clearPoint_eq]
  refine ⟨?_, ?_, fun q hq => by rw [hget, if_neg (Ne.symm hq)], hnew, halarm, hlost, fun hf => tellCleared_float ?_,
    ⟨k1.trans h1, k2.trans h2, k3.trans h3, k4.trans h4⟩, ?_⟩
  · rw [State.faultOf, hget, if_pos rfl]
    cases tget s.pmn.points p with
    | none => rfl
    | some d => cases d <;> rfl
  · rw [State.degraded, State.axis?, hget, if_pos rfl]
    cases tget s.pmn.points p with
    | none => rfl
    | some d => cases d <;> rfl
  · rw [State.floats, h3]
    exact hf
  · rw [hacts.fixed, hrel.fixed, (banks_of_fixed hacts.fixed)]
    rfl

/-- The outputs of the point are unlatched, and each bank without an output FAULT_STUCK has lost its STUCK cause with its alarm condition (R143, R147). -/
theorem clearPoint_outputs (p : Nat) {s : State} (ha : s.aeu.AlarmsOk) :
    (∀ t, tget s.layout.points p = some t →
      (∀ o ∈ coilsOf t, ∀ c, (s.clearPoint p).ost.coils[o]? = some c → c.state.latched = false) ∧
      (∀ o ∈ propsOf t, ∀ c, (s.clearPoint p).ost.props[o]? = some c → c.state = .active)) ∧
    (∀ b < 6, ∀ k, s.ost.banks[b]? = some k →
      let stuckStill := ∃ i c, i / 8 = b ∧ (s.clearPoint p).ost.coils[i]? = some c ∧ c.state = .faultStuck
      (stuckStill → (s.clearPoint p).ost.banks[b]? = some k) ∧
        (¬ stuckStill → (s.clearPoint p).ost.banks[b]? = some { k with stuck := false } ∧
          (k.stuck = true → (s.clearPoint p).aeu.Cleared .coilBankOff b))) := by
  have hrel := released_releases p s
  have hacts := State.ActsTo.tellCleared p (s.degraded p) (s.released p)
  obtain ⟨-, -, -, -, hcoils, hprops, -⟩ := State.units_eq hacts.units
  have hbanks := (banks_of_fixed hacts.fixed)
  obtain ⟨-, -, -, hoff⟩ := tellCleared_aeu (p := p) (was := s.degraded p) (hrel.alarms ha)
  rw [clearPoint_eq, hcoils, hprops, hbanks]
  refine ⟨fun t ht => ⟨fun o ho c hc => hrel.coils o ?_ c hc, fun o ho c hc => hrel.props o ?_ c hc⟩, fun b hb k hk => ?_⟩
  · simp [State.ownsCoil, ht, ho]
  · simp [State.ownsProp, ht, ho]
  · have hbank := hrel.banks b hb k hk
    refine ⟨fun hstill => ?_, fun hstill => ?_⟩
    · rw [hbank, Ost.unstuck, if_pos ((bankStuck_iff hb).2 hstill)]
    · have hno : (s.released p).ost.bankStuck b = false := by
        rw [← Bool.not_eq_true, bankStuck_iff hb]
        exact hstill
      exact ⟨by rw [hbank, Ost.unstuck, if_neg (by simp [hno])], fun hs => hoff b (hrel.alarm ha b hb k hk hs hno)⟩

/-! ### What stays of a fault (R15) -/

section
variable {s : State} {p : Nat}

theorem underlying_present {c : FaultCode} (h : s.underlying p c = true) : (tget s.layout.points p).isSome := by
  unfold State.underlying at h
  cases hp : tget s.layout.points p with
  | none => simp [hp] at h
  | some t => rfl

theorem underlying_sensorConflict : s.underlying p .sensorConflict = true ↔
    (tget s.layout.points p).isSome ∧ ∃ y, s.lock? p = some y ∧ y.confirmed = .conflict := by
  unfold State.underlying
  cases tget s.layout.points p with
  | none => simp
  | some t => simp [Option.any_eq_true]

theorem showsCurrent_iff (o : Nat) : s.showsCurrent o = true ↔ ∃ k, s.ost.coils[o]? = some k ∧ k.state = .faultStuck ∧ s.bankOn (o / 8) = true := by
  unfold State.showsCurrent
  cases s.ost.coils[o]? with
  | none => simp
  | some k => simp [bankOf]

theorem underlying_coilFault : s.underlying p .coilFault = true ↔ ∃ x, tget s.layout.points p = some x ∧
    ∃ o ∈ coilsOf x, ∃ k, s.ost.coils[o]? = some k ∧ k.state = .faultStuck ∧ s.bankOn (o / 8) = true := by
  unfold State.underlying
  cases tget s.layout.points p with
  | none => simp
  | some t => simp [showsCurrent_iff]

/-- An axis stands in the layout where its point does. -/
theorem point_of_axis {a : AxisDef} (h : s.layout.axis? p = some a) : ∃ x, tget s.layout.points p = some x := by
  unfold Layout.axis? at h
  cases hp : tget s.layout.points p with
  | none => simp [hp] at h
  | some x => exact ⟨x, rfl⟩

theorem allChannelsOk_eq_false (a : AxisDef) :
    s.allChannelsOk a = false ↔ s.channelOk a.transA.input = false ∨ ∃ b, a.transB = some b ∧ s.channelOk b.input = false := by
  unfold State.allChannelsOk
  cases a.transB <;> simp [imp_iff_not_or]

theorem underlying_channelFault : s.underlying p .channelFault = true ↔ ∃ a, s.layout.axis? p = some a ∧
    (s.channelOk a.transA.input = false ∨ ∃ b, a.transB = some b ∧ s.channelOk b.input = false) := by
  constructor
  · intro h
    obtain ⟨x, hx⟩ := Option.isSome_iff_exists.1 (underlying_present h)
    simpa [State.underlying, hx, Option.any_eq_true, allChannelsOk_eq_false] using h
  · rintro ⟨a, ha, h⟩
    obtain ⟨x, hx⟩ := point_of_axis ha
    simpa [State.underlying, hx, ha, allChannelsOk_eq_false] using h

theorem underlying_overtravel : s.underlying p .overtravel = true ↔ ∃ a, s.layout.axis? p = some a ∧
    ∃ u ∈ s.unclampedAll a, u < -50 ∨ u > a.travel + 50 := by
  constructor
  · intro h
    obtain ⟨x, hx⟩ := Option.isSome_iff_exists.1 (underlying_present h)
    simp only [State.underlying, hx, Option.any_eq_true, beyond_iff] at h
    exact h
  · rintro ⟨a, ha, h⟩
    obtain ⟨x, hx⟩ := point_of_axis ha
    simp only [State.underlying, hx, ha, Option.any_some, beyond_iff]
    exact h

theorem skewStays_iff (n : Nat) (k : Option Int) : (k.isNone || skewExceeds n k) = true ↔ ∀ v, k = some v → n < v.natAbs := by
  cases k <;> simp [skewExceeds]

theorem underlying_skew : s.underlying p .skew = true ↔ ∃ a y, s.layout.axis? p = some a ∧ s.axis? p = some y ∧ ∀ k, y.skew = some k → a.skewLimit < k.natAbs := by
  constructor
  · intro h
    obtain ⟨x, hx⟩ := Option.isSome_iff_exists.1 (underlying_present h)
    simp only [State.underlying, hx] at h
    split at h
    · rename_i a y ha hy
      exact ⟨a, y, ha, hy, (skewStays_iff _ _).1 h⟩
    · cases h
  · rintro ⟨a, y, ha, hy, h⟩
    obtain ⟨x, hx⟩ := point_of_axis ha
    simp only [State.underlying, hx, ha, hy]
    exact (skewStays_iff _ _).2 h

theorem underlying_never {c : FaultCode} (h : c = .travelTimeout ∨ c = .stall ∨ c = .inposFailed) : s.underlying p c = false := by
  unfold State.underlying
  rcases h with rfl | rfl | rfl
  all_goals cases tget s.layout.points p <;> rfl

theorem degradedStays_iff : s.degradedStays p = true ↔ s.degraded p = true ∧ ∀ a, s.layout.axis? p = some a → s.allChannelsOk a = false := by
  rw [State.degradedStays, Bool.and_eq_true]
  refine and_congr_right fun _ => ?_
  cases s.layout.axis? p <;> simp

end

/-! ### The answers of CLEAR_FAULT naming a point (R14) -/

section
variable {s : State} {st : Station} {run : Bool} {p : Nat}

theorem ruleClearPoint_absent (h : tget s.pmn.points p = none) : ruleClearPoint st p s = s.refuse .notFound := by
  simp [ruleClearPoint, h]

theorem ruleClearPoint_foreign {d : PointDyn} (h : tget s.pmn.points p = some d) (hh : s.amu.holder ≠ holderOf st) :
    ruleClearPoint st p s = s.refuse .refusedAuthority := by
  simp [ruleClearPoint, h, State.holds, hh]

theorem ruleClearPoint_sea {d : PointDyn} (h : tget s.pmn.points p = some d) (hh : s.amu.holder = holderOf st) (hm : s.amu.mode = .sea) :
    ruleClearPoint st p s = s.refuse .refusedMode := by
  simp [ruleClearPoint, h, State.holds, hh, hm]

theorem ruleClearPoint_sound {d : PointDyn} (h : tget s.pmn.points p = some d) (hh : s.amu.holder = holderOf st) (hm : s.amu.mode ≠ .sea)
    (hf : d.fault = none) (hd : s.degraded p = false) : ruleClearPoint st p s = s.accept := by
  simp [ruleClearPoint, h, State.holds, hh, hm, State.faultOf, hf, hd]

/-- The answer where there is something to clear. -/
theorem ruleClearPoint_faulted {d : PointDyn} (h : tget s.pmn.points p = some d) (hh : s.amu.holder = holderOf st) (hm : s.amu.mode ≠ .sea)
    (hf : d.fault ≠ none ∨ s.degraded p = true) : ruleClearPoint st p s =
      if d.fault.any (s.underlying p) || s.degradedStays p then s.refuse .refusedState else (s.clearPoint p).accept := by
  have hsome : (d.fault.isNone && !s.degraded p) = false := by
    rcases hf with hf | hf
    · simp [hf]
    · simp [hf]
  simp [ruleClearPoint, h, State.holds, hh, hm, State.faultOf, hsome]

end

/-! ### CLEAR_FAULT of a pump (R56, R59) -/

/-- Records that a test does not take can be written without changing what it takes. -/
theorem filter_tput {α : Type} (f : Nat × α → Bool) (t : Table α) {i : Nat} {a b : α} (h : tget t i = some b) (ha : f (i, a) = false) (hb : f (i, b) = false) :
    (tput t i a).filter f = t.filter f := by
  induction t with
  | nil => simp at h
  | cons e r ih =>
    obtain ⟨k, x⟩ := e
    rw [tget_cons] at h
    rw [tput]
    split
    · rw [List.filter_cons, if_neg (by simp [ha])]
    · split
      · rename_i hk
        rw [if_pos hk.symm] at h
        cases h
        subst hk
        rw [List.filter_cons, List.filter_cons, if_neg (by simp [ha]), if_neg (by simp [hb])]
      · rename_i hk
        rw [if_neg (fun he => hk he.symm)] at h
        rw [List.filter_cons, List.filter_cons, ih h]

/-- A pump that does not run before and after leaves the capacity (R63). -/
theorem capacity_tput {h : Hpa} {i : Nat} {p q : Pump} (hp : tget h.pumps i = some p) (h1 : p.state ≠ .running) (h2 : q.state ≠ .running) :
    ({ h with pumps := tput h.pumps i q } : Hpa).capacity = h.capacity := by
  unfold Hpa.capacity
  rw [filter_tput _ _ hp (by simpa using h2) (by simpa using h1)]

theorem reduceGrants_zero (gs : List Grant) : reduceGrants 0 gs = (gs, []) := by cases gs <;> simp [reduceGrants]

theorem revokeGrants_zero (gs : List Grant) : revokeGrants 0 gs = (gs, []) := by cases gs <;> simp [revokeGrants]

/-- Within the capacity nothing is dropped (R68). -/
theorem drop_of_within {h : Hpa} (hw : h.Within) (w : Nat) : h.drop w = (h, [], []) := by
  have h0 : h.allocation - h.capacity = 0 := Nat.sub_eq_zero_of_le hw
  have hsum : (h.grants.map (fun g => g.flow)).sum - h.capacity = 0 := h0
  simp [Hpa.drop, h0, reduceGrants_zero, hsum, revokeGrants_zero]

theorem foldl_emit_eq {α : Type} (f : α → Task) (l : List α) (s : State) : l.foldl (fun x a => emit (f a) x) s = { s with todo := s.todo ++ l.map f } := by
  induction l generalizing s with
  | nil => simp
  | cons a l ih => rw [List.foldl_cons, ih]; simp [emit]

/-- A capacity drop writes HPA and hands on reports. -/
theorem capacityDrop_eq (s : State) : ∃ ts, s.capacityDrop = { s with hpa := (s.hpa.drop s.tune.flowWait).1.tidy s.tune.idleTime, todo := s.todo ++ ts } := by
  refine ⟨(s.hpa.drop s.tune.flowWait).2.1.map Task.reduced ++ (s.hpa.drop s.tune.flowWait).2.2.map Task.revoked, ?_⟩
  simp only [State.capacityDrop, foldl_emit_eq, State.modHpa, List.append_assoc]

/-- HPA's state with a stopped pump, before the drop. -/
def State.stopped (i : Nat) (p : Pump) (s : State) : State :=
  State.contactor i false { s with hpa := { s.hpa with pumps := tput s.hpa.pumps i { p with state := .stopped, cause := none, runDown := none, start := none } } }

/-- AEU, CEV and HPA are told that a faulted pump has stopped (R56). -/
def State.tellStopped (i : Nat) (s : State) : State := emit .pass (((s.event (.pumpState i .stopped none)).clearAlarm .pumpFault i).recompute [6])

theorem setPump_stopped {s : State} {i : Nat} {p : Pump} (h : tget s.hpa.pumps i = some p) (hf : p.state = .faulted) :
    s.setPump i .stopped none none = (s.stopped i p).capacityDrop.tellStopped i := by
  simp only [State.setPump, h, hf]
  rfl

theorem State.ActsTo.tellStopped (i : Nat) (s : State) : s.ActsTo (s.tellStopped i) :=
  (((State.ActsTo.event _ s).trans (.clearAlarm _ _ _)).trans (.recompute _ _)).trans (.emit _ _)

theorem tellStopped_pmn (i : Nat) (s : State) : (s.tellStopped i).pmn = s.pmn := recompute_pmn _ _

/-- The events of a pump that has stopped. -/
theorem tellStopped_event (i : Nat) (s : State) : ∃ r ∈ (s.tellStopped i).aeu.events, r.event = .pumpState i .stopped none := by
  let m := (s.event (.pumpState i .stopped none)).clearAlarm .pumpFault i
  obtain ⟨es, hl, hn, -⟩ := recompute_logged [6] m
  have hrec : s.aeu.Logged m.aeu [.pumpState i .stopped none] :=
    ((Aeu.Logged.record s.aeu _).remake.trans (Aeu.Logged.clear _ .pumpFault i)).remake
  exact (hrec.trans hl).mem_events (by simp; omega) (List.mem_append_left _ (List.mem_singleton_self _))

theorem tellStopped_cleared {i : Nat} {s : State} (ha : s.aeu.AlarmsOk) : (s.tellStopped i).aeu.Cleared .pumpFault i :=
  (clearAlarm_cleared (event_alarmsOk ha _) .pumpFault i).recompute (s := (s.event (.pumpState i .stopped none)).clearAlarm .pumpFault i) (by decide) [6]

/-- A pump that is not faulted makes PUMPS_AVAILABLE true (R38). -/
theorem tellStopped_condition {i : Nat} {s : State} {q : Pump} (hq : tget s.hpa.pumps i = some q) (hf : q.state ≠ .faulted) (hs : s.cev.started = true)
    (hn : s.cev.conds.length = 32) : (s.tellStopped i).cond 6 = .yes := by
  let m := (s.event (.pumpState i .stopped none)).clearAlarm .pumpFault i
  have hc : (m.recompute [6]).cond 6 = m.evalCond 6 := by
    rw [cond_recompute, if_pos ⟨hs, by simp, by change 6 < s.cev.conds.length; omega⟩]
  refine hc.trans ?_
  have hany : (s.hpa.pumps.any (fun e => e.2.state != .faulted)) = true := List.any_eq_true.2 ⟨(i, q), mem_of_tget hq, by simpa using hf⟩
  show Tri.ofBool (s.hpa.pumps.any (fun e => e.2.state != .faulted)) = .yes
  rw [hany]
  rfl

/-- An accepted CLEAR_FAULT of a pump (R56, R59). -/
structure State.PumpCleared (s e : State) (i : Nat) (q : Pump) : Prop where
  pump      : tget e.hpa.pumps i = some { q with state := .stopped, cause := none, start := none, runDown := none }
  others    : ∀ j, j ≠ i → tget e.hpa.pumps j = tget s.hpa.pumps j
  flow      : s.hpa.Within → e.hpa.requests = s.hpa.requests ∧ e.hpa.grants = s.hpa.grants
  contactor : e.contactorOn i = false
  event     : ∃ r ∈ e.aeu.events, r.event = .pumpState i .stopped none
  alarm     : s.aeu.AlarmsOk → e.aeu.Cleared .pumpFault i
  condition : s.cev.started = true → s.cev.conds.length = 32 → e.cond 6 = .yes
  pass      : e.todo.getLast? = some .pass
  fixed     : e.fixed = s.fixed
  rest      : e.pmn = s.pmn ∧ e.ldu = s.ldu ∧ e.adu = s.adu ∧ e.osq = s.osq

theorem setPump_cleared {s : State} {i : Nat} {q : Pump} (h : tget s.hpa.pumps i = some q) (hf : q.state = .faulted) :
    s.PumpCleared (s.setPump i .stopped none none) i q := by
  obtain ⟨ts, hdrop⟩ := capacityDrop_eq (s.stopped i q)
  have hpumps : (s.stopped i q).capacityDrop.hpa.pumps = tput s.hpa.pumps i { q with state := .stopped, cause := none, runDown := none, start := none } := by
    rw [hdrop]; rfl
  have hpump : tget (s.stopped i q).capacityDrop.hpa.pumps i = some { q with state := .stopped, cause := none, runDown := none, start := none } := by
    rw [hpumps, tget_tput_self]
  have hacts := State.ActsTo.tellStopped i (s.stopped i q).capacityDrop
  obtain ⟨h1, h2, h3, h4, -, -, h7⟩ := State.units_eq hacts.units
  rw [setPump_stopped h hf]
  refine ⟨by rw [h1]; exact hpump, fun j hj => by rw [h1, hpumps, tget_tput_of_ne _ _ (Ne.symm hj)], fun hw => ?_, ?_, tellStopped_event _ _,
    fun ha => tellStopped_cleared (by rw [hdrop]; exact ha), fun hs hn => tellStopped_condition hpump (by simp) (by rw [hdrop]; exact hs) (by rw [hdrop]; exact hn),
    List.getLast?_concat, hacts.fixed.trans ?_, ?_⟩
  · have hcap := capacity_tput (q := { q with state := .stopped, cause := none, runDown := none, start := none }) h (by simp [hf]) (by simp)
    have hw' : (s.stopped i q).hpa.Within := by
      unfold Hpa.Within
      exact hw.trans (Nat.le_of_eq hcap.symm)
    rw [h1, hdrop, drop_of_within hw']
    exact ⟨rfl, rfl⟩
  · rw [State.contactorOn, h7, hdrop]
    show (lmod s.ost.contactors i (fun _ => false)).getD i false = false
    rw [List.getD_eq_getElem?_getD, getElem?_lmod_self]
    cases s.ost.contactors[i]? <;> rfl
  · rw [hdrop]
    rfl
  · rw [h2, h3, h4, tellStopped_pmn, hdrop]
    exact ⟨rfl, rfl, rfl, rfl⟩

section
variable {s : State} {st : Station} {i : Nat}

theorem ruleClearPump_absent (h : tget s.hpa.pumps i = none) : ruleClearPump st i s = s.refuse .notFound := by simp [ruleClearPump, h]

theorem ruleClearPump_foreign {q : Pump} (h : tget s.hpa.pumps i = some q) (hh : s.amu.holder ≠ holderOf st) :
    ruleClearPump st i s = s.refuse .refusedAuthority := by
  simp [ruleClearPump, h, State.holds, hh]

theorem ruleClearPump_sound {q : Pump} (h : tget s.hpa.pumps i = some q) (hh : s.amu.holder = holderOf st) (hf : q.state ≠ .faulted) :
    ruleClearPump st i s = s.accept := by
  simp [ruleClearPump, h, State.holds, hh, hf]

theorem ruleClearPump_running {q : Pump} (h : tget s.hpa.pumps i = some q) (hh : s.amu.holder = holderOf st) (hf : q.state = .faulted)
    (hb : q.feedback = true) : ruleClearPump st i s = s.refuse .refusedState := by
  simp [ruleClearPump, h, State.holds, hh, hf, hb]

theorem ruleClearPump_faulted {q : Pump} (h : tget s.hpa.pumps i = some q) (hh : s.amu.holder = holderOf st) (hf : q.state = .faulted)
    (hb : q.feedback = false) : ruleClearPump st i s = (s.setPump i .stopped none none).accept := by
  simp [ruleClearPump, h, State.holds, hh, hf, hb]

end

/-- Settles O30. -/
theorem clearFaultAnswers : Obligations.ClearFaultAnswers := by
  refine ⟨fun st run p s hs ha => ?_, fun st run p s hs => ?_⟩
  · obtain ⟨a, hr⟩ := takeRun_amu_only st run s
    have hhold := takeRun_holder st run s
    have hmode := takeRun_mode st run s
    refine ⟨fun h => congrArg _ (serve_answered hs (ruleClearPoint_absent (by rw [takeRun_pmn]; exact h))), fun d hd => ?_⟩
    have hd' : tget (s.takeRun st run).pmn.points p = some d := by rw [takeRun_pmn]; exact hd
    have hdeg : (s.takeRun st run).degraded p = s.degraded p := by rw [hr]; rfl
    refine ⟨fun hh => congrArg _ (serve_answered hs (ruleClearPoint_foreign hd' (by rw [hhold]; exact hh))), fun hh => ?_⟩
    have hh' : (s.takeRun st run).amu.holder = holderOf st := hhold.trans hh
    refine ⟨fun hm => congrArg _ (serve_answered hs (ruleClearPoint_sea hd' hh' (hmode.trans hm))),
      fun hm hf hdg => congrArg _ (serve_answered hs (ruleClearPoint_sound hd' hh' (by rw [hmode]; exact hm) hf (hdeg.trans hdg))), fun hm hf => ?_⟩
    have hrule := ruleClearPoint_faulted hd' hh' (by rw [hmode]; exact hm) (by rw [hdeg]; exact hf)
    have hund : (s.takeRun st run).underlying p = s.underlying p := by rw [hr]; rfl
    have hstays : (s.takeRun st run).degradedStays p = s.degradedStays p := by rw [hr]; rfl
    rw [hund, hstays] at hrule
    intro still stays
    have hstill (c : FaultCode) : still c ↔ s.underlying p c = true := by
      cases c with
      | sensorConflict => exact underlying_sensorConflict.symm
      | coilFault => exact underlying_coilFault.symm
      | channelFault => exact underlying_channelFault.symm
      | skew => exact underlying_skew.symm
      | overtravel => exact underlying_overtravel.symm
      | travelTimeout => simp [still, underlying_never]
      | stall => simp [still, underlying_never]
      | inposFailed => simp [still, underlying_never]
    have hiff : stays ↔ (d.fault.any (s.underlying p) || s.degradedStays p) = true := by
      rw [Bool.or_eq_true, Option.any_eq_true, degradedStays_iff]
      simp only [stays, hstill]
    refine ⟨fun h => congrArg _ (serve_answered hs (hrule.trans (if_pos (hiff.1 h)))), fun h => ?_⟩
    refine ⟨_, congrArg _ (serve_accepted hs (hrule.trans (if_neg (fun hn => h (hiff.2 hn))))), ?_⟩
    have hclear := clearPoint_cleared (s := s.takeRun st run) p (by rw [takeRun_aeu]; exact ha)
    obtain ⟨hout, hbank⟩ := clearPoint_outputs (s := s.takeRun st run) p (by rw [takeRun_aeu]; exact ha)
    have hcev := (clearPoint_cevFollows p (s.takeRun st run)).of_start (s := s) (takeRun_cev _ _ _) (takeRun_lst _ _ _)
    obtain ⟨h1, h2, h3, h4⟩ := hclear.units
    rw [takeRun_hpa] at h1
    rw [takeRun_ldu] at h2
    rw [takeRun_adu] at h3
    rw [takeRun_osq] at h4
    rw [takeRun_layout] at hout
    rw [takeRun_ost] at hbank
    refine ⟨hclear.fault, hclear.degraded, fun q hq => by rw [hclear.others q hq, takeRun_pmn], hout, hclear.newest, hclear.alarm,
      fun hl => hclear.lost (hdeg.trans hl), hbank, fun hfl => hclear.float ?_, hcev, h1, h2, h3, h4, (fixed_finish _).trans hclear.fixed⟩
    rw [State.floats, takeRun_adu]
    exact hfl
  · have hpumps : (s.takeRun st run).hpa = s.hpa := takeRun_hpa _ _ _
    have hhold := takeRun_holder st run s
    refine ⟨fun h => congrArg _ (serve_answered hs (ruleClearPump_absent (by rw [hpumps]; exact h))), fun q hq => ?_⟩
    have hq' : tget (s.takeRun st run).hpa.pumps p = some q := by rw [hpumps]; exact hq
    refine ⟨fun hh => congrArg _ (serve_answered hs (ruleClearPump_foreign hq' (by rw [hhold]; exact hh))), fun hh => ?_⟩
    have hh' := hhold.trans hh
    refine ⟨fun hf => congrArg _ (serve_answered hs (ruleClearPump_sound hq' hh' hf)),
      fun hf hb => congrArg _ (serve_answered hs (ruleClearPump_running hq' hh' hf hb)), fun hf hb => ?_⟩
    refine ⟨_, congrArg _ (serve_accepted hs (ruleClearPump_faulted hq' hh' hf hb)), ?_⟩
    have hclear := setPump_cleared hq' hf
    obtain ⟨h1, h2, h3, h4⟩ := hclear.rest
    have hflow := hclear.flow
    rw [hpumps] at hflow
    refine ⟨hclear.pump, fun i hi => by rw [hclear.others i hi, hpumps], fun _ hw => hflow hw, hclear.contactor, hclear.event,
      fun ha => hclear.alarm (by rw [takeRun_aeu]; exact ha), fun hst hn => hclear.condition (by rw [takeRun_cev]; exact hst) (by rw [takeRun_cev]; exact hn),
      hclear.pass, (fixed_finish _).trans hclear.fixed, h1.trans (takeRun_pmn _ _ _), h2.trans (takeRun_ldu _ _ _), h3.trans (takeRun_adu _ _ _),
      h4.trans (takeRun_osq _ _ _)⟩

end Sys2Proof.Machine
end

section
namespace Sys2Proof.Machine

/-! ### Acts that put a motion to rest -/

/-- A coil that is demanded off: it is latched or OFF (R142). -/
def Coil.off (c : Coil) : Coil := Coil.follow false { c with demand := false }

theorem follow_demandOff (b : Bool) (c : Coil) : Coil.follow b { c with demand := false } = c.off := by cases b <;> rfl

theorem off_twice (c : Coil) : c.off.off = c.off := by
  obtain ⟨o, d, st⟩ := c
  cases st <;> rfl

theorem off_owner (c : Coil) : c.off.owner = c.owner := owner_follow _ _

theorem off_demand (c : Coil) : c.off.demand = false := by
  obtain ⟨o, d, st⟩ := c
  cases st <;> rfl

theorem off_not_on (c : Coil) : c.off.state ≠ .on := follow_not_on _

/-- From `s` to `e` only acts that put motions to rest: coils demanded off, proportional commands set to 0, flow given up, points freed, drive states and motion
records written, reports handed on. CEV, AEU, OSQ and the faults are left. -/
structure State.Calms (s e : State) : Prop where
  cev      : e.cev = s.cev
  aeu      : e.aeu = s.aeu
  osq      : e.osq = s.osq
  fixed    : e.fixed = s.fixed
  todo     : s.todo <+: e.todo
  floats   : e.adu.floats = s.adu.floats
  bare     : ∀ q, s.SeesSame e q
  coils    : ∀ i : Nat, e.ost.coils[i]? = s.ost.coils[i]? ∨ e.ost.coils[i]? = s.ost.coils[i]?.map Coil.off
  props    : ∀ p ∈ e.ost.props, ∃ q ∈ s.ost.props, q.owner = p.owner ∧ (p.command = q.command ∨ p.command = 0)
  grants   : ∀ n, s.hpa.grantOf n = none → e.hpa.grantOf n = none
  requests : ∀ n, s.hpa.entryOf n = none → e.hpa.entryOf n = none
  reserved : ∀ q n, e.reservedBy q = some n → s.reservedBy q = some n

theorem props_self (s : State) : ∀ p ∈ s.ost.props, ∃ q ∈ s.ost.props, q.owner = p.owner ∧ (p.command = q.command ∨ p.command = 0) :=
  fun p hp => ⟨p, hp, rfl, .inl rfl⟩

theorem State.Calms.refl (s : State) : s.Calms s :=
  ⟨rfl, rfl, rfl, rfl, List.prefix_refl _, rfl, fun _ => rfl, fun _ => .inl rfl, props_self s, fun _ h => h, fun _ h => h, fun _ _ h => h⟩

theorem State.Calms.trans {s m e : State} (h : s.Calms m) (k : m.Calms e) : s.Calms e where
  cev := k.cev.trans h.cev
  aeu := k.aeu.trans h.aeu
  osq := k.osq.trans h.osq
  fixed := k.fixed.trans h.fixed
  todo := h.todo.trans k.todo
  floats := k.floats.trans h.floats
  bare q := (k.bare q).trans (h.bare q)
  coils i := by
    rcases k.coils i with hk | hk
    · rw [hk]; exact h.coils i
    · refine .inr ?_
      rcases h.coils i with hh | hh
      · rw [hk, hh]
      · rw [hk, hh, Option.map_map]
        exact congrArg (fun f => Option.map f _) (funext off_twice)
  props p hp := by
    obtain ⟨q, hq, ho, hc⟩ := k.props p hp
    obtain ⟨r, hr, ho', hc'⟩ := h.props q hq
    refine ⟨r, hr, ho'.trans ho, ?_⟩
    rcases hc with hc | hc
    · rw [hc]; exact hc'
    · exact .inr hc
  grants n hn := k.grants n (h.grants n hn)
  requests n hn := k.requests n (h.requests n hn)
  reserved q n hn := h.reserved q n (k.reserved q n hn)

theorem State.Calms.foldl {α : Type} {f : State → α → State} (h : ∀ x a, State.Calms x (f x a)) (l : List α) (s : State) : s.Calms (l.foldl f s) := by
  induction l generalizing s with
  | nil => exact .refl s
  | cons a l ih => exact (h s a).trans (ih _)

section
variable {s e : State}

/-- What the conditions see of a point holds its fault. -/
theorem State.SeesSame.faultOf {p : Nat} (h : s.SeesSame e p) : e.faultOf p = s.faultOf p := by
  have key (x : Option PointDyn) : x.bind PointDyn.fault = (x.map PointDyn.bare).bind PointDyn.fault := by
    cases x with
    | none => rfl
    | some d => cases d <;> rfl
  rw [State.faultOf, State.faultOf, key, key (tget s.pmn.points p), h]

theorem State.SeesSame.present {p : Nat} (h : s.SeesSame e p) : (tget e.pmn.points p).isSome = (tget s.pmn.points p).isSome := by
  have := congrArg Option.isSome h
  simpa using this

theorem State.Calms.faultReported (h : s.Calms e) {t : State} {p : Nat} {code : FaultCode} (k : t.FaultReported s p code) : t.FaultReported e p code :=
  k.later (fun q => (h.bare q).faultOf) h.cev (lst_of_fixed h.fixed) h.bare h.aeu h.todo.subset

theorem State.Calms.layout (h : s.Calms e) : e.layout = s.layout := layout_of_fixed h.fixed

theorem State.Calms.owner (h : s.Calms e) (i : Nat) : e.ost.coils[i]?.map (fun c => c.owner) = s.ost.coils[i]?.map (fun c => c.owner) := by
  rcases h.coils i with hh | hh
  · rw [hh]
  · rw [hh, Option.map_map]
    exact congrArg (fun f => Option.map f _) (funext off_owner)

theorem State.Calms.demandedOff (h : s.Calms e) {o : Nat} (k : s.coilDemanded o false) : e.coilDemanded o false := by
  intro c hc
  rcases h.coils o with hh | hh
  · rw [hh] at hc; exact k c hc
  · rw [hh] at hc
    obtain ⟨c', -, rfl⟩ := Option.map_eq_some_iff.1 hc
    exact ⟨off_demand c', fun _ => off_not_on c'⟩

/-- The commands of an axis are 0. -/
def State.still (s : State) (i : Nat) : Prop := ∀ p ∈ s.ost.props, p.owner = some i → p.command = 0

theorem State.Calms.still (h : s.Calms e) {i : Nat} (k : s.still i) : e.still i := by
  intro p hp ho
  obtain ⟨q, hq, hqo, hc⟩ := h.props p hp
  rcases hc with hc | hc
  · rw [hc]; exact k q hq (hqo.trans ho)
  · exact hc

theorem State.Calms.nothingHeld (h : s.Calms e) {m : Nat} (k : s.NothingHeldBy m) : e.NothingHeldBy m :=
  ⟨h.grants m k.1, h.requests m k.2.1, fun q hq => k.2.2 q (h.reserved q m hq)⟩

end

/-! ### The acts -/

/-- A change of LDU's and ADU's motion records. -/
theorem State.Calms.records (x : Ldu) (y : Table AxisMotion) (s : State) : s.Calms { s with ldu := x, adu := { s.adu with motions := y } } :=
  ⟨rfl, rfl, rfl, rfl, List.prefix_refl _, rfl, fun _ => rfl, fun _ => .inl rfl, props_self s, fun _ h => h, fun _ h => h, fun _ _ h => h⟩

theorem State.Calms.emit (t : Task) (s : State) : s.Calms (Machine.emit t s) :=
  ⟨rfl, rfl, rfl, rfl, List.prefix_append _ _, rfl, fun _ => rfl, fun _ => .inl rfl, props_self s, fun _ h => h, fun _ h => h, fun _ _ h => h⟩

theorem State.Calms.modLdu (m : Nat) (f : GroupMotion → GroupMotion) (s : State) : s.Calms (s.modLdu m f) := .records _ s.adu.motions s

theorem State.Calms.lduDrop (m : Nat) (s : State) : s.Calms (s.lduDrop m) := .records _ s.adu.motions s

theorem State.Calms.modAdu (m : Nat) (f : AxisMotion → AxisMotion) (s : State) : s.Calms (s.modAdu m f) := .records s.ldu _ s

theorem State.Calms.aduDrop (m : Nat) (s : State) : s.Calms (s.aduDrop m) := .records s.ldu _ s

/-! ### Coils off -/

/-- Only coils have changed, and those were switched off. -/
structure State.CoilsOff (s e : State) : Prop where
  frame : e = { s with ost := { s.ost with coils := e.ost.coils } }
  coils : ∀ i : Nat, e.ost.coils[i]? = s.ost.coils[i]? ∨ e.ost.coils[i]? = s.ost.coils[i]?.map Coil.off

theorem State.CoilsOff.refl (s : State) : s.CoilsOff s := ⟨rfl, fun _ => .inl rfl⟩

theorem State.CoilsOff.calms {s e : State} (h : s.CoilsOff e) : s.Calms e := by
  have hf := h.frame
  have hc := h.coils
  generalize e.ost.coils = cs at hf hc
  subst hf
  exact ⟨rfl, rfl, rfl, rfl, List.prefix_refl _, rfl, fun _ => rfl, hc, props_self s, fun _ h => h, fun _ h => h, fun _ _ h => h⟩

theorem State.CoilsOff.kept {s e : State} (h : s.CoilsOff e) : e.ldu = s.ldu ∧ e.adu = s.adu ∧ e.hpa = s.hpa ∧ e.pmn = s.pmn ∧ e.ost.props = s.ost.props := by
  have h := h.frame
  exact ⟨by rw [h], by rw [h], by rw [h], by rw [h], by rw [h]⟩

section
variable {s e : State}

theorem State.CoilsOff.ldu (h : s.CoilsOff e) : e.ldu = s.ldu := by rw [h.frame]
theorem State.CoilsOff.adu (h : s.CoilsOff e) : e.adu = s.adu := by rw [h.frame]
theorem State.CoilsOff.pmn (h : s.CoilsOff e) : e.pmn = s.pmn := by rw [h.frame]

end

theorem State.CoilsOff.trans {s m e : State} (h : s.CoilsOff m) (k : m.CoilsOff e) : s.CoilsOff e := by
  refine ⟨?_, (h.calms.trans k.calms).coils⟩
  have hk := k.frame
  rw [h.frame] at hk
  exact hk

theorem putDemand_off (out owner : Nat) (s : State) : s.putDemand out owner false = { s with ost := { s.ost with coils := lmod s.ost.coils out Coil.off } } := by
  simp only [State.putDemand, Bool.false_and, Bool.false_eq_true, if_false, follow_demandOff]
  rfl

theorem State.CoilsOff.putDemand (out owner : Nat) (s : State) : s.CoilsOff (s.putDemand out owner false) := by
  rw [putDemand_off]
  refine ⟨rfl, fun i => ?_⟩
  change (lmod s.ost.coils out Coil.off)[i]? = _ ∨ _
  rw [getElem?_lmod]
  split
  · exact .inr rfl
  · exact .inl rfl

theorem State.CoilsOff.demandCoil (m out : Nat) (s : State) : s.CoilsOff (s.demandCoil m out false) := by
  unfold State.demandCoil
  split
  · split
    · exact .putDemand _ _ s
    · exact .refl s
  · exact .refl s

theorem State.CoilsOff.driveLock (m p : Nat) (dir : LockDir) (s : State) : s.CoilsOff (s.driveLock m p dir false) := by
  unfold State.driveLock
  split
  · exact .demandCoil _ _ s
  · exact .refl s

theorem State.CoilsOff.lockOff (m p : Nat) (s : State) : s.CoilsOff (s.lockOff m p) := (State.CoilsOff.driveLock m p .engage s).trans (.driveLock m p .retract _)

theorem State.CoilsOff.groupOff (m : Nat) (g : GroupMotion) (s : State) : s.CoilsOff (s.groupOff m g) := by
  unfold State.groupOff
  generalize g.members = l
  induction l generalizing s with
  | nil => exact .refl s
  | cons x l ih => exact (State.CoilsOff.lockOff m x.point s).trans (ih _)

/-- A coil of a lock that the motion reserves is demanded off (R11, R142). -/
theorem driveLock_demandedOff {s : State} {m p : Nat} {d : LockDef} {dir : LockDir} (hr : s.reservedBy p = some m) (hd : s.layout.lock? p = some d)
    (ho : ∀ c, s.ost.coils[d.coil dir]? = some c → c.owner = some p) : (s.driveLock m p dir false).coilDemanded (d.coil dir) false := by
  intro c hc
  have hs : ∃ c', s.ost.coils[d.coil dir]? = some c' := by
    rcases (State.CoilsOff.driveLock m p dir s).coils (d.coil dir) with h | h
    · exact ⟨c, h ▸ hc⟩
    · rw [h] at hc
      obtain ⟨c', hc', -⟩ := Option.map_eq_some_iff.1 hc
      exact ⟨c', hc'⟩
  obtain ⟨c', hc'⟩ := hs
  have he : s.driveLock m p dir false = s.putDemand (d.coil dir) p false := by
    simp [State.driveLock, hd, State.demandCoil, hc', ho c' hc', hr]
  rw [he, putDemand_off] at hc
  change (lmod s.ost.coils (d.coil dir) Coil.off)[d.coil dir]? = some c at hc
  rw [getElem?_lmod_self, hc'] at hc
  cases hc
  exact ⟨off_demand c', fun _ => off_not_on c'⟩

/-- The same told of an earlier state. -/
theorem State.LockOff.of_start {s r e : State} {m p : Nat} (h : r.LockOff e m p) (hr : s.reservedBy p = some m → r.reservedBy p = some m) (hl : r.layout = s.layout)
    (ho : ∀ i : Nat, r.ost.coils[i]?.map (fun c => c.owner) = s.ost.coils[i]?.map (fun c => c.owner)) : s.LockOff e m p := by
  intro hs d hd o hm hown
  refine h (hr hs) d (hl ▸ hd) o hm fun c hc => ?_
  have := ho o
  rw [hc] at this
  cases hc' : s.ost.coils[o]? with
  | none => rw [hc'] at this; cases this
  | some c' =>
    rw [hc'] at this
    simp only [Option.map_some, Option.some.injEq] at this
    rw [this]
    exact hown c' hc'

theorem State.LockOff.later {s e t : State} {m p : Nat} (h : s.LockOff e m p) (k : e.Calms t) : s.LockOff t m p :=
  fun hs d hd o hm hown => k.demandedOff (h hs d hd o hm hown)

theorem lockOff_lockOff (m p : Nat) (s : State) : s.LockOff (s.lockOff m p) m p := by
  intro hr d hd o hm hown
  have h1 := State.CoilsOff.driveLock m p .engage s
  have h2 := State.CoilsOff.driveLock m p .retract (s.driveLock m p .engage false)
  rcases List.mem_cons.1 hm with rfl | hm
  · exact h2.calms.demandedOff (driveLock_demandedOff (dir := .engage) hr hd hown)
  · rw [List.mem_singleton] at hm
    subst hm
    have hpmn := h1.pmn
    refine driveLock_demandedOff (dir := .retract) (by rw [State.reservedBy, hpmn]; exact hr) (by rw [h1.calms.layout]; exact hd) fun c hc => ?_
    have ho := h1.calms.owner (d.coil .retract)
    rw [hc] at ho
    cases hc' : s.ost.coils[d.coil .retract]? with
    | none => rw [hc'] at ho; cases ho
    | some c' =>
      rw [hc'] at ho
      simp only [Option.map_some, Option.some.injEq] at ho
      rw [ho]
      exact hown c' hc'

theorem State.LockOff.of_coilsOff {s r e : State} {m p : Nat} (h : r.LockOff e m p) (k : s.CoilsOff r) : s.LockOff e m p :=
  h.of_start (fun hs => by rw [State.reservedBy, k.pmn]; exact hs) k.calms.layout k.calms.owner

/-- Every member's coils are off (R85). -/
theorem groupOff_lockOff (m : Nat) (g : GroupMotion) (s : State) : ∀ x ∈ g.members, s.LockOff (s.groupOff m g) m x.point := by
  have key (l : List Member) : ∀ (s : State), ∀ x ∈ l, s.LockOff (l.foldl (fun y e => y.lockOff m e.point) s) m x.point := by
    induction l with
    | nil => simp
    | cons y l ih =>
      intro s x hx
      have hstep := State.CoilsOff.lockOff m y.point s
      have hrest := State.Calms.foldl (fun (z : State) (e : Member) => (State.CoilsOff.lockOff m e.point z).calms) l (s.lockOff m y.point)
      rcases List.mem_cons.1 hx with rfl | hx
      · exact (lockOff_lockOff m x.point s).later hrest
      · exact (ih _ x hx).of_coilsOff hstep
  exact key g.members s

/-! ### Outputs at 0, flow given up, points freed -/

theorem State.Calms.zeroProps (i : Nat) (s : State) : s.Calms (s.zeroProps i) := by
  refine ⟨rfl, rfl, rfl, rfl, List.prefix_refl _, rfl, fun _ => rfl, fun _ => .inl rfl, fun p hp => ?_, fun _ h => h, fun _ h => h, fun _ _ h => h⟩
  obtain ⟨q, hq, rfl⟩ := List.mem_map.1 hp
  refine ⟨q, hq, ?_, ?_⟩
  · split <;> rfl
  · split
    · exact .inr rfl
    · exact .inl rfl

theorem zeroProps_still (i : Nat) (s : State) : (s.zeroProps i).still i := by
  intro p hp ho
  obtain ⟨q, -, rfl⟩ := List.mem_map.1 hp
  split
  · rfl
  · rename_i hn
    rw [if_neg hn] at ho
    exact absurd (by simp [ho]) hn

/-- Giving up flow changes HPA's list, its grants and what follows from them (R62, R67). -/
theorem giveUpFlow_shape (m : Nat) (s : State) :
    ∃ h ts, s.giveUpFlow m = { s with hpa := h, todo := s.todo ++ ts } ∧ h.grants = s.hpa.grants.filter (fun g => g.motion != m) ∧
      h.requests = s.hpa.requests.filter (fun r => r.motion != m) := by
  unfold State.giveUpFlow
  split
  · exact ⟨_, [.pass], rfl, rfl, rfl⟩
  · rename_i hn
    simp only [Bool.or_eq_true, not_or, Bool.not_eq_true, Option.isSome_eq_false_iff, Option.isNone_iff_eq_none, Hpa.grantOf, Hpa.entryOf,
      List.find?_eq_none, beq_iff_eq] at hn
    refine ⟨s.hpa, [], by simp, (List.filter_eq_self.2 ?_).symm, (List.filter_eq_self.2 ?_).symm⟩
    · exact fun g hg => by simpa using hn.1 g hg
    · exact fun r hr => by simpa using hn.2 r hr

theorem find?_filter_none {α : Type} {l : List α} {f g : α → Bool} (h : l.find? f = none) : (l.filter g).find? f = none := by
  rw [List.find?_eq_none] at h ⊢
  exact fun x hx => h x (List.mem_of_mem_filter hx)

theorem State.Calms.giveUpFlow (m : Nat) (s : State) : s.Calms (s.giveUpFlow m) := by
  obtain ⟨h, ts, he, hg, hr⟩ := giveUpFlow_shape m s
  rw [he]
  refine ⟨rfl, rfl, rfl, rfl, List.prefix_append _ _, rfl, fun _ => rfl, fun _ => .inl rfl, props_self s, fun n hn => ?_, fun n hn => ?_, fun _ _ h => h⟩
  · rw [Hpa.grantOf, hg]; exact find?_filter_none hn
  · rw [Hpa.entryOf, hr]; exact find?_filter_none hn

/-- No flow is held by the motion. -/
theorem giveUpFlow_gone (m : Nat) (s : State) : (s.giveUpFlow m).hpa.grantOf m = none ∧ (s.giveUpFlow m).hpa.entryOf m = none := by
  obtain ⟨h, ts, he, hg, hr⟩ := giveUpFlow_shape m s
  rw [he]
  refine ⟨?_, ?_⟩
  · rw [Hpa.grantOf, hg, List.find?_eq_none]
    exact fun g hgm => by simpa using (List.mem_filter.1 hgm).2
  · rw [Hpa.entryOf, hr, List.find?_eq_none]
    exact fun r hrm => by simpa using (List.mem_filter.1 hrm).2

theorem giveUpFlow_kept (m : Nat) (s : State) : (s.giveUpFlow m).ldu = s.ldu ∧ (s.giveUpFlow m).adu = s.adu ∧ (s.giveUpFlow m).pmn = s.pmn ∧
    (s.giveUpFlow m).ost = s.ost := by
  obtain ⟨h, ts, he, -⟩ := giveUpFlow_shape m s
  rw [he]
  exact ⟨rfl, rfl, rfl, rfl⟩

theorem giveUpFlow_pmn (m : Nat) (s : State) : (s.giveUpFlow m).pmn = s.pmn := by
  obtain ⟨-, -, h, -⟩ := giveUpFlow_kept m s
  exact h

/-- A record once the motion has freed its points. -/
def PointDyn.freed (m : Nat) (d : PointDyn) : PointDyn := if d.reserved == some m then d.setReserved none else d

/-- A release changes points and reports (R12). -/
theorem release_shape (m : Nat) (s : State) : ∃ x ts, s.release m = { s with pmn := x, todo := s.todo ++ ts } ∧
    ∀ q, tget x.points q = (tget s.pmn.points q).map (PointDyn.freed m) := by
  unfold State.release
  split
  · exact ⟨{ points := tmap (fun _ d => PointDyn.freed m d) s.pmn.points }, [.freed], rfl, fun q => tget_tmap (fun _ d => PointDyn.freed m d) _ _⟩
  · rename_i hn
    refine ⟨s.pmn, [], by simp, fun q => ?_⟩
    cases hq : tget s.pmn.points q with
    | none => rfl
    | some d =>
      have : ¬ (d.reserved == some m) = true := fun h => hn (List.any_eq_true.2 ⟨(q, d), mem_of_tget hq, h⟩)
      simp [PointDyn.freed, this]

theorem freed_bare (m : Nat) (d : PointDyn) : (d.freed m).bare = d.bare := by
  unfold PointDyn.freed
  split
  · cases d <;> rfl
  · rfl

theorem freed_reserved (m : Nat) (d : PointDyn) : (d.freed m).reserved = if d.reserved = some m then none else d.reserved := by
  unfold PointDyn.freed
  by_cases h : d.reserved = some m
  · rw [if_pos (by simp [h]), if_pos h]
    cases d <;> rfl
  · rw [if_neg (by simpa using h), if_neg h]

theorem reservedBy_release (m q : Nat) (s : State) : (s.release m).reservedBy q = if s.reservedBy q = some m then none else s.reservedBy q := by
  obtain ⟨x, ts, he, hx⟩ := release_shape m s
  rw [he, State.reservedBy, hx]
  cases hq : tget s.pmn.points q with
  | none => simp [State.reservedBy, hq]
  | some d => simp [State.reservedBy, hq, freed_reserved]

theorem State.Calms.release (m : Nat) (s : State) : s.Calms (s.release m) := by
  have hres := fun q => reservedBy_release m q s
  obtain ⟨x, ts, he, hx⟩ := release_shape m s
  rw [he] at hres ⊢
  refine ⟨rfl, rfl, rfl, rfl, List.prefix_append _ _, rfl, fun q => ?_, fun _ => .inl rfl, props_self s, fun _ h => h, fun _ h => h, fun q n h => ?_⟩
  · rw [State.SeesSame, hx, Option.map_map]
    exact congrArg (fun f => Option.map f _) (funext (freed_bare m))
  · rw [hres q] at h
    split at h
    · cases h
    · exact h

theorem release_kept (m : Nat) (s : State) : (s.release m).ldu = s.ldu ∧ (s.release m).adu = s.adu ∧ (s.release m).hpa = s.hpa ∧ (s.release m).ost = s.ost := by
  obtain ⟨x, ts, he, -⟩ := release_shape m s
  rw [he]
  exact ⟨rfl, rfl, rfl, rfl⟩

theorem release_hpa (m : Nat) (s : State) : (s.release m).hpa = s.hpa := by
  obtain ⟨-, -, h, -⟩ := release_kept m s
  exact h

/-- Flow and points given up. -/
theorem letGo_nothingHeld (m : Nat) (s : State) : ((s.giveUpFlow m).release m).NothingHeldBy m := by
  obtain ⟨h1, h2⟩ := giveUpFlow_gone m s
  have hhpa := (release_hpa m (s.giveUpFlow m))
  refine ⟨by rw [hhpa]; exact h1, by rw [hhpa]; exact h2, fun q hq => ?_⟩
  rw [reservedBy_release] at hq
  split at hq
  · cases hq
  · rename_i hn
    exact hn hq

theorem State.Calms.letGo (m : Nat) (s : State) : s.Calms ((s.giveUpFlow m).release m) := (State.Calms.giveUpFlow m s).trans (.release m _)

theorem letGo_ldu (m : Nat) (s : State) : ((s.giveUpFlow m).release m).ldu = s.ldu := by
  obtain ⟨h, -⟩ := release_kept m (s.giveUpFlow m)
  obtain ⟨k, -⟩ := giveUpFlow_kept m s
  exact h.trans k

theorem letGo_adu (m : Nat) (s : State) : ((s.giveUpFlow m).release m).adu = s.adu := by
  obtain ⟨-, h, -⟩ := release_kept m (s.giveUpFlow m)
  obtain ⟨-, k, -⟩ := giveUpFlow_kept m s
  exact h.trans k

/-! ### The end of a group drive (R85) -/

/-- The record of a group drive that has ended. -/
def GroupMotion.finished (st : MotionState) (cause : Option FailCause) (failed : List Nat) (g : GroupMotion) : GroupMotion :=
  { g with state := st, halt := none, cause := cause, failed := failed, granted := none, members := g.members.map Member.still }

theorem ldu?_modLdu (m n : Nat) (f : GroupMotion → GroupMotion) (s : State) : (s.modLdu m f).ldu? n = if m = n then (s.ldu? n).map f else s.ldu? n :=
  tget_tmod _ _ _ _

theorem lduEnd_eq {s : State} {m : Nat} {g : GroupMotion} (h : s.ldu? m = some g) (st : MotionState) (cause : Option FailCause) (failed : List Nat) :
    s.lduEnd m st cause failed = emit (.outcome m) ((((s.groupOff m g).modLdu m (GroupMotion.finished st cause failed)).giveUpFlow m).release m) := by
  simp only [State.lduEnd, h]
  rfl

theorem State.Calms.lduEnd (m : Nat) (st : MotionState) (cause : Option FailCause) (failed : List Nat) (s : State) : s.Calms (s.lduEnd m st cause failed) := by
  cases h : s.ldu? m with
  | none => simp only [State.lduEnd, h]; exact .refl s
  | some g =>
    rw [lduEnd_eq h]
    exact ((((State.CoilsOff.groupOff m g s).calms.trans (.modLdu _ _ _)).trans (.letGo _ _))).trans (.emit _ _)

theorem ldu?_lduEnd {s : State} {m : Nat} {g : GroupMotion} (h : s.ldu? m = some g) (st : MotionState) (cause : Option FailCause) (failed : List Nat) (n : Nat) :
    (s.lduEnd m st cause failed).ldu? n = if m = n then some (g.finished st cause failed) else s.ldu? n := by
  have hk := (letGo_ldu m ((s.groupOff m g).modLdu m (GroupMotion.finished st cause failed)))
  have hg := (State.CoilsOff.groupOff m g s).ldu
  rw [lduEnd_eq h]
  show tget (State.ldu _).motions n = _
  rw [emit_ldu, hk]
  show ((s.groupOff m g).modLdu m _).ldu? n = _
  rw [ldu?_modLdu, State.ldu?, hg]
  split
  · rename_i hn
    subst hn
    show (s.ldu? m).map _ = _
    rw [h]
    rfl
  · rfl

theorem adu_lduEnd (m : Nat) (st : MotionState) (cause : Option FailCause) (failed : List Nat) (s : State) : (s.lduEnd m st cause failed).adu = s.adu := by
  cases h : s.ldu? m with
  | none => simp only [State.lduEnd, h]
  | some g =>
    rw [lduEnd_eq h, emit_adu, (letGo_adu m _)]
    exact (State.CoilsOff.groupOff m g s).adu

/-- A group drive has ended. -/
theorem lduEnd_ended {s : State} {m : Nat} {g : GroupMotion} (h : s.ldu? m = some g) (st : MotionState) (cause : Option FailCause) (failed : List Nat) :
    s.GroupEnded (s.lduEnd m st cause failed) m st cause failed where
  record := ⟨g.finished st cause failed, by rw [ldu?_lduEnd h, if_pos rfl], rfl, rfl, rfl, rfl, rfl, fun x hx => by
    obtain ⟨y, -, rfl⟩ := List.mem_map.1 hx
    exact ⟨rfl, rfl⟩⟩
  coils k hk x hx := by
    rw [h] at hk
    cases hk
    have hrest := ((State.Calms.modLdu m (GroupMotion.finished st cause failed) (s.groupOff m g)).trans (.letGo m _)).trans (.emit (.outcome m) _)
    rw [lduEnd_eq h]
    exact (groupOff_lockOff m g s x hx).later hrest
  given := by
    rw [lduEnd_eq h]
    exact (State.Calms.emit _ _).nothingHeld (letGo_nothingHeld m _)
  told := by
    rw [lduEnd_eq h]
    exact List.mem_append_right _ (List.mem_singleton_self _)
  others := ⟨fun n hn => by rw [ldu?_lduEnd h, if_neg (Ne.symm hn)], (State.Calms.lduEnd _ _ _ _ s).osq, fixed_finish_of (State.Calms.lduEnd _ _ _ _ s).fixed⟩

end Sys2Proof.Machine
end

section
namespace Sys2Proof.Machine

/-! ### A coil demanded on (R142) -/

theorem follow_demand (b : Bool) (c : Coil) : (c.follow b).demand = c.demand := by
  unfold Coil.follow
  split <;> rfl

/-- A demand set on changes its coil; the report of a bank that is OFF for STUCK leaves the units. -/
theorem putDemand_on (out owner : Nat) (s : State) : (s.putDemand out owner true).units =
    { s.units with coils := lmod s.ost.coils out (fun c => Coil.follow (s.bankOn (bankOf out)) { c with demand := true }) } := by
  unfold State.putDemand
  simp only
  split
  · exact (State.ActsTo.recordFault _ _ _).units
  · rfl

/-- What a demand on a lock's coil leaves, and the coil that it sets on. -/
structure State.Energizes (s e : State) (m p : Nat) (dir : LockDir) : Prop where
  units : e.hpa = s.hpa ∧ e.ldu = s.ldu ∧ e.adu = s.adu ∧ e.osq = s.osq
  fixed : e.fixed = s.fixed
  coils : ∀ d, s.layout.lock? p = some d → ∀ o, o ≠ d.coil dir → e.ost.coils[o]? = s.ost.coils[o]?
  on    : ∀ d c, s.layout.lock? p = some d → s.reservedBy p = some m → s.ost.coils[d.coil dir]? = some c → c.owner = some p → e.coilDemanded (d.coil dir) true

theorem driveLock_energizes (m p : Nat) (dir : LockDir) (s : State) : s.Energizes (s.driveLock m p dir true) m p dir := by
  have hfix : (s.driveLock m p dir true).fixed = s.fixed := fixed_driveLock _ _ _ _ _
  cases hd : s.layout.lock? p with
  | none =>
    have he : s.driveLock m p dir true = s := by simp [State.driveLock, hd]
    rw [he]
    exact ⟨⟨rfl, rfl, rfl, rfl⟩, rfl, fun _ _ _ _ => rfl, fun d c h => by rw [hd] at h; cases h⟩
  | some d =>
    by_cases hown : ∃ q, s.ost.coils[d.coil dir]?.bind (fun c => c.owner) = some q ∧ s.reservedBy q = some m
    · obtain ⟨q, hq, hr⟩ := hown
      have he : s.driveLock m p dir true = s.putDemand (d.coil dir) q true := by simp [State.driveLock, hd, State.demandCoil, hq, hr]
      have hu := putDemand_on (d.coil dir) q s
      rw [← he] at hu
      simp only [State.units, Units.mk.injEq] at hu
      obtain ⟨h1, h2, h3, h4, h5, -⟩ := hu
      refine ⟨⟨h1, h2, h3, h4⟩, hfix, fun d' hd' o ho => ?_, fun d' c hd' _ hc ho => ?_⟩
      all_goals
        rw [hd] at hd'
        cases hd'
      · rw [h5, getElem?_lmod_of_ne _ _ (Ne.symm ho)]
      · intro c' hc'
        rw [h5, getElem?_lmod_self, hc] at hc'
        cases hc'
        exact ⟨follow_demand _ _, fun h => by cases h⟩
    · have he : s.driveLock m p dir true = s := by
        simp only [State.driveLock, hd, State.demandCoil]
        split
        · rename_i q hq
          rw [if_neg]
          simpa using fun hr => hown ⟨q, hq, hr⟩
        · rfl
      rw [he]
      refine ⟨⟨rfl, rfl, rfl, rfl⟩, rfl, fun _ _ _ _ => rfl, fun d' c hd' hr hc ho => ?_⟩
      rw [hd] at hd'
      cases hd'
      exact absurd ⟨p, by rw [hc]; exact ho, hr⟩ hown

/-- A member's drive is turned round: one coil off, then the other on. -/
structure State.Swaps (s e : State) (m p : Nat) (off : LockDir) : Prop where
  units : e.hpa = s.hpa ∧ e.ldu = s.ldu ∧ e.adu = s.adu ∧ e.osq = s.osq
  fixed : e.fixed = s.fixed
  coils : ∀ d, s.layout.lock? p = some d → d.engageCoil ≠ d.retractCoil → s.reservedBy p = some m →
    (∀ o ∈ [d.engageCoil, d.retractCoil], ∃ c, s.ost.coils[o]? = some c ∧ c.owner = some p) →
      e.coilDemanded (d.coil off) false ∧ e.coilDemanded (d.coil off.opposite) true

theorem coil_mem (d : LockDef) (dir : LockDir) : d.coil dir ∈ [d.engageCoil, d.retractCoil] := by cases dir <;> simp [LockDef.coil]

theorem coil_ne_opposite {d : LockDef} (h : d.engageCoil ≠ d.retractCoil) (dir : LockDir) : d.coil dir ≠ d.coil dir.opposite := by
  cases dir
  · exact h
  · exact Ne.symm h

theorem driveLock_swaps (m p : Nat) (off : LockDir) (s : State) : s.Swaps ((s.driveLock m p off false).driveLock m p off.opposite true) m p off := by
  have hoff := State.CoilsOff.driveLock m p off s
  have hon := driveLock_energizes m p off.opposite (s.driveLock m p off false)
  obtain ⟨k2, k3, k1, kp, -⟩ := hoff.kept
  obtain ⟨h1, h2, h3, h4⟩ := hon.units
  refine ⟨⟨h1.trans k1, h2.trans k2, h3.trans k3, h4.trans hoff.calms.osq⟩, hon.fixed.trans hoff.calms.fixed, fun d hd hne hr hown => ?_⟩
  have hd' : (s.driveLock m p off false).layout.lock? p = some d := by rw [hoff.calms.layout]; exact hd
  have hr' : (s.driveLock m p off false).reservedBy p = some m := by rw [State.reservedBy, kp]; exact hr
  constructor
  · have hdem := driveLock_demandedOff (dir := off) hr hd fun c hc => by
      obtain ⟨c', hc', ho⟩ := hown _ (coil_mem d off)
      rw [hc] at hc'
      cases hc'
      exact ho
    intro c hc
    rw [hon.coils d hd' _ (coil_ne_opposite hne off)] at hc
    exact hdem c hc
  · obtain ⟨c, hc, ho⟩ := hown _ (coil_mem d off.opposite)
    have howner := hoff.calms.owner (d.coil off.opposite)
    rw [hc] at howner
    obtain ⟨c', hc', ho'⟩ := Option.map_eq_some_iff.1 howner
    exact hon.on d c' hd' hr' hc' (ho'.trans ho)

/-- The same told of a start that differs in LDU's records alone. -/
theorem State.Swaps.of_modLdu {s e : State} {m p : Nat} {off : LockDir} {f : GroupMotion → GroupMotion} (h : (s.modLdu m f).Swaps e m p off) :
    e.hpa = s.hpa ∧ e.adu = s.adu ∧ e.osq = s.osq ∧ (finish e).fixed = s.fixed ∧ ∀ n, e.ldu? n = if m = n then (s.ldu? n).map f else s.ldu? n := by
  obtain ⟨h1, h2, h3, h4⟩ := h.units
  refine ⟨h1, h3, h4, fixed_finish_of h.fixed, fun n => ?_⟩
  rw [State.ldu?, h2]
  exact ldu?_modLdu m n f s

/-! ### A member that fails (R77, R82, R83) -/

/-- A member that is FAILED with its timers stopped. -/
def Member.failed (y : Member) : Member := { y.still with state := .failed }

/-- The record of a group drive of which a member has failed. -/
def GroupMotion.memberFailed (p : Nat) (code : FaultCode) (g : GroupMotion) : GroupMotion :=
  { g.modMember p Member.failed with firstCause := some (g.firstCause.getD (.point code)) }

/-- The state in which a failed member's fault has been recorded. -/
def State.failMember (m p : Nat) (code : FaultCode) (s : State) : State :=
  ((s.lockOff m p).modLdu m (GroupMotion.memberFailed p code)).recordFault p code

section
variable {s : State} {m p : Nat} {g : GroupMotion} {x : Member} {code : FaultCode}

theorem ldu?_failMember (h : s.ldu? m = some g) (n : Nat) : (s.failMember m p code).ldu? n = if m = n then some (g.memberFailed p code) else s.ldu? n := by
  have hr := (ldu_of_units (State.ActsTo.recordFault p code ((s.lockOff m p).modLdu m (GroupMotion.memberFailed p code))).units)
  have hk := (State.CoilsOff.lockOff m p s).ldu
  rw [State.failMember, State.ldu?, hr]
  show ((s.lockOff m p).modLdu m _).ldu? n = _
  rw [ldu?_modLdu, State.ldu?, hk]
  split
  · rename_i hn
    subst hn
    show (s.ldu? m).map _ = _
    rw [h]
    rfl
  · rfl

/-- What a failed member's fault leaves of the other units. -/
theorem failMember_kept : (s.failMember m p code).adu = s.adu ∧ (s.failMember m p code).osq = s.osq ∧ (s.failMember m p code).fixed = s.fixed := by
  have hacts := State.ActsTo.recordFault p code ((s.lockOff m p).modLdu m (GroupMotion.memberFailed p code))
  obtain ⟨-, -, h3, h4, -⟩ := State.units_eq hacts.units
  have hoff := State.CoilsOff.lockOff m p s
  refine ⟨h3.trans hoff.adu, h4.trans hoff.calms.osq, ?_⟩
  rw [State.failMember, hacts.fixed, fixed_modLdu, hoff.calms.fixed]

theorem failMember_reported (hp : (tget s.pmn.points p).isSome) : s.FaultReported (s.failMember m p code) p code := by
  have hc := (State.CoilsOff.lockOff m p s).calms.trans (.modLdu m (GroupMotion.memberFailed p code) _)
  have hpmn : ((s.lockOff m p).modLdu m (GroupMotion.memberFailed p code)).pmn = s.pmn := (State.CoilsOff.lockOff m p s).pmn
  exact ((recordFault_recorded (by rw [hpmn]; exact hp) code).of_start_pmn hpmn hc.cev (lst_of_fixed hc.fixed) (amu_of_fixed hc.fixed)).toFaultReported

/-- The coils that a later end switches off are those of the start. -/
theorem State.LockOff.of_failMember {e : State} {q : Nat} (h : (s.failMember m p code).LockOff e m q) : s.LockOff e m q := by
  have hc := (State.CoilsOff.lockOff m p s).calms.trans (.modLdu m (GroupMotion.memberFailed p code) _)
  have hacts := State.ActsTo.recordFault p code ((s.lockOff m p).modLdu m (GroupMotion.memberFailed p code))
  refine h.of_start (fun hr => ?_) ((layout_of_fixed hacts.fixed).trans hc.layout) fun i => ?_
  · rw [State.failMember, reservedBy_recordFault]
    show (s.lockOff m p).reservedBy q = some m
    rw [State.reservedBy, (State.CoilsOff.lockOff m p s).pmn]
    exact hr
  · rw [State.failMember, (coils_of_units hacts.units)]
    exact hc.owner i

/-- Under STOP_GROUP the motion ends at once (R82); under CARRY_ON it goes on. -/
theorem lduFail_reported (h : s.ldu? m = some g) (hx : g.member? p = some x) (hs : x.state ≠ .failed) (hg : g.state.ended = false) :
    s.lduFail m p code true = if g.policy = .stopGroup then (s.failMember m p code).lduEnd m .failed (some (.point code)) [p] else s.failMember m p code := by
  unfold State.lduFail
  simp only [h, hx]
  rw [if_neg (by simp [hs, hg])]
  cases g.policy <;> rfl

theorem lduCheck_ended (h : s.ldu? m = some g) (he : g.state.ended = true) : s.lduCheck m = s := by simp [State.lduCheck, h, he]

/-- A check ends the motion or leaves it (R76, R83). -/
theorem lduCheck_cases (m : Nat) (s : State) : s.lduCheck m = s ∨ ∃ st cause failed, s.lduCheck m = s.lduEnd m st cause failed := by
  unfold State.lduCheck
  split
  · exact .inl rfl
  · simp only
    split
    · exact .inl rfl
    · split
      · exact .inr ⟨_, _, _, rfl⟩
      · exact .inr ⟨_, _, _, rfl⟩

theorem State.Calms.lduCheck (m : Nat) (s : State) : s.Calms (s.lduCheck m) := by
  rcases lduCheck_cases m s with h | ⟨st, cause, failed, h⟩
  · rw [h]; exact .refl s
  · rw [h]; exact .lduEnd m st cause failed s

/-- The members at a point are FAILED with their timers stopped. -/
def GroupMotion.failedAt (p : Nat) (g : GroupMotion) : Prop := ∀ y ∈ g.members, y.point = p → y.state = .failed ∧ y.travel = none ∧ y.back = none

theorem failedAt_memberFailed (p : Nat) (code : FaultCode) (g : GroupMotion) : (g.memberFailed p code).failedAt p := by
  intro y hy hp
  obtain ⟨z, -, rfl⟩ := List.mem_map.1 hy
  split
  · exact ⟨rfl, rfl, rfl⟩
  · rename_i hn
    rw [if_neg hn] at hp
    exact absurd hp hn

theorem failedAt_finished {g : GroupMotion} (h : g.failedAt p) (st : MotionState) (cause : Option FailCause) (failed : List Nat) :
    (g.finished st cause failed).failedAt p := by
  intro y hy hp
  obtain ⟨z, hz, rfl⟩ := List.mem_map.1 hy
  exact ⟨(h z hz hp).1, rfl, rfl⟩

/-- A motion's record after an end of it, or none. -/
theorem lduEnd_failedAt (h : s.ldu? m = some g) (hf : g.failedAt p) (st : MotionState) (cause : Option FailCause) (failed : List Nat) :
    ∃ k, (s.lduEnd m st cause failed).ldu? m = some k ∧ k.failedAt p :=
  ⟨_, by rw [ldu?_lduEnd h, if_pos rfl], failedAt_finished hf _ _ _⟩

/-- What the failure of a member leaves, whether the motion ends by it or not. -/
structure State.MemberGone (s e : State) (m p : Nat) (code : FaultCode) : Prop where
  report : (tget s.pmn.points p).isSome → s.FaultReported e p code
  record : ∃ h, e.ldu? m = some h ∧ h.failedAt p
  others : ∀ n, n ≠ m → e.ldu? n = s.ldu? n
  rest   : e.adu = s.adu ∧ e.osq = s.osq ∧ e.fixed = s.fixed

theorem State.MemberGone.lduEnd {e : State} (h : s.MemberGone e m p code) (st : MotionState) (cause : Option FailCause) (failed : List Nat) :
    s.MemberGone (e.lduEnd m st cause failed) m p code := by
  obtain ⟨k, hk, hf⟩ := h.record
  have hc := State.Calms.lduEnd m st cause failed e
  obtain ⟨h1, h2, h3⟩ := h.rest
  exact ⟨fun hp => hc.faultReported (h.report hp), lduEnd_failedAt hk hf _ _ _, fun n hn => by rw [ldu?_lduEnd hk, if_neg (Ne.symm hn), h.others n hn],
    (adu_lduEnd _ _ _ _ e).trans h1, hc.osq.trans h2, hc.fixed.trans h3⟩

theorem State.MemberGone.lduCheck {e : State} (h : s.MemberGone e m p code) : s.MemberGone (e.lduCheck m) m p code := by
  rcases lduCheck_cases m e with he | ⟨st, cause, failed, he⟩
  · rw [he]; exact h
  · rw [he]; exact h.lduEnd st cause failed

theorem failMember_gone (h : s.ldu? m = some g) : s.MemberGone (s.failMember m p code) m p code :=
  ⟨failMember_reported, ⟨_, by rw [ldu?_failMember h, if_pos rfl], failedAt_memberFailed _ _ _⟩, fun n hn => by rw [ldu?_failMember h, if_neg (Ne.symm hn)],
    failMember_kept⟩

/-- The end of the motion right after its member has failed, told of the start. -/
theorem failMember_ended (h : s.ldu? m = some g) :
    s.GroupEnded ((s.failMember m p code).lduEnd m .failed (some (.point code)) [p]) m .failed (some (.point code)) [p] := by
  have hrec : (s.failMember m p code).ldu? m = some (g.memberFailed p code) := by rw [ldu?_failMember h, if_pos rfl]
  have hend := lduEnd_ended hrec .failed (some (.point code)) [p]
  obtain ⟨h1, h2, h3⟩ := hend.others
  obtain ⟨-, k2, k3⟩ := failMember_kept (s := s) (m := m) (p := p) (code := code)
  refine ⟨hend.record, fun g' hg' x hx => ?_, hend.given, hend.told, fun n hn => ?_, h2.trans k2, h3.trans k3⟩
  · rw [h] at hg'
    cases hg'
    by_cases hxp : x.point = p
    · have := hend.coils _ hrec x.failed (List.mem_map.2 ⟨x, hx, if_pos hxp⟩)
      exact this.of_failMember
    · exact (hend.coils _ hrec x (List.mem_map.2 ⟨x, hx, if_neg hxp⟩)).of_failMember
  · rw [h1 n hn, ldu?_failMember h, if_neg (Ne.symm hn)]

theorem lduFail_gone (h : s.ldu? m = some g) (hx : g.member? p = some x) (hs : x.state ≠ .failed) (hg : g.state.ended = false) :
    s.MemberGone ((s.lduFail m p code true).lduCheck m) m p code ∧
      (g.policy = .stopGroup → s.GroupEnded ((s.lduFail m p code true).lduCheck m) m .failed (some (.point code)) [p]) := by
  have hgone := failMember_gone (p := p) (code := code) h
  rw [lduFail_reported h hx hs hg]
  split
  · have hrec : (s.failMember m p code).ldu? m = some (g.memberFailed p code) := by rw [ldu?_failMember h, if_pos rfl]
    refine ⟨(hgone.lduEnd _ _ _).lduCheck, fun _ => ?_⟩
    rw [lduCheck_ended (by rw [ldu?_lduEnd hrec, if_pos rfl]) rfl]
    exact failMember_ended h
  · rename_i hn
    exact ⟨hgone.lduCheck, fun hp => absurd hp hn⟩

/-! ### The two timers -/

theorem lduTravelOut_stopped (h : ∀ g x, s.ldu? m = some g → g.member? p = some x → g.state = .driving → x.state = .driving → x.travel = none) :
    s.lduTravelOut m p = s := by
  unfold State.lduTravelOut
  split
  · rfl
  · split
    · rfl
    · rename_i g hg _ x hx
      rw [if_neg]
      simp only [Bool.and_eq_true, beq_iff_eq, not_and, Bool.not_eq_true, Option.isSome_eq_false_iff, Option.isNone_iff_eq_none, and_imp]
      exact h g x hg hx

theorem lduBackOut_stopped (h : ∀ g x, s.ldu? m = some g → g.member? p = some x → g.state = .driving → x.state = .backingOff → x.back = none) :
    s.lduBackOut m p = s := by
  unfold State.lduBackOut
  split
  · rfl
  · split
    · rfl
    · rename_i g hg _ x hx
      rw [if_neg]
      simp only [Bool.and_eq_true, beq_iff_eq, not_and, Bool.not_eq_true, Option.isSome_eq_false_iff, Option.isNone_iff_eq_none, and_imp]
      exact h g x hg hx

/-- A travel timer that runs out (R77). -/
theorem lduTravelOut_running (h : s.ldu? m = some g) (hx : g.member? p = some x) (hg : g.state = .driving) (hs : x.state = .driving) (ht : x.travel ≠ none) :
    s.lduTravelOut m p =
      if x.retries < g.retryLimit then
        ((s.modLdu m (fun k => k.modMember p (fun y => { y with state := .backingOff, travel := none, back := some k.backOff }))).driveLock m p g.dir false).driveLock
          m p g.dir.opposite true
      else (s.lduFail m p .travelTimeout true).lduCheck m := by
  have : (g.state == .driving && x.state == .driving && x.travel.isSome) = true := by simp [hg, hs, Option.isSome_iff_ne_none, ht]
  simp only [State.lduTravelOut, h, hx, if_pos this]

/-- A back-off timer that runs out (R78). -/
theorem lduBackOut_running (h : s.ldu? m = some g) (hx : g.member? p = some x) (hg : g.state = .driving) (hs : x.state = .backingOff) (hb : x.back ≠ none) :
    s.lduBackOut m p =
      ((s.modLdu m (fun k => k.modMember p (fun y => { y with state := .driving, travel := some y.limit, back := none, retries := y.retries + 1 }))).driveLock
        m p g.dir.opposite false).driveLock m p g.dir true := by
  have : (g.state == .driving && x.state == .backingOff && x.back.isSome) = true := by simp [hg, hs, Option.isSome_iff_ne_none, hb]
  simp only [State.lduBackOut, h, hx, if_pos this]

end

theorem opposite_opposite (dir : LockDir) : dir.opposite.opposite = dir := by cases dir <;> rfl

/-- Settles O45. -/
theorem memberTimersRetryOrFail : Obligations.MemberTimersRetryOrFail := by
  intro m p s hr
  refine ⟨fun h => exec_act_same hr (lduTravelOut_stopped h), fun h => exec_act_same hr (lduBackOut_stopped h), fun g x hg hx hdrive => ?_⟩
  refine ⟨fun hs ht => ⟨fun hlt => ⟨_, exec_act hr _, ?_⟩, fun hge => ⟨_, exec_act hr _, ?_⟩⟩, fun hs hb => ⟨_, exec_act hr _, ?_⟩⟩
  · rw [lduTravelOut_running hg hx hdrive hs ht, if_pos hlt]
    have hsw := driveLock_swaps m p g.dir
      (s.modLdu m (fun k => k.modMember p (fun y => { y with state := .backingOff, travel := none, back := some k.backOff })))
    obtain ⟨h1, h2, h3, h4, h5⟩ := hsw.of_modLdu
    exact ⟨by rw [h5, if_pos rfl, hg]; rfl, fun d hd hne hres hown => hsw.coils d hd hne hres hown, fun n hn => by rw [h5, if_neg (Ne.symm hn)], h2, h3, h1, h4⟩
  · rw [lduTravelOut_running hg hx hdrive hs ht, if_neg (Nat.not_lt.2 hge)]
    obtain ⟨hgone, hend⟩ := lduFail_gone (code := .travelTimeout) hg hx (by simp [hs]) (by rw [hdrive]; rfl)
    obtain ⟨h1, h2, h3⟩ := hgone.rest
    exact ⟨hgone.report, hgone.record, hend, hgone.others, h1, h2, fixed_finish_of h3⟩
  · rw [lduBackOut_running hg hx hdrive hs hb]
    have hsw := driveLock_swaps m p g.dir.opposite
      (s.modLdu m (fun k => k.modMember p (fun y => { y with state := .driving, travel := some y.limit, back := none, retries := y.retries + 1 })))
    rw [opposite_opposite] at hsw
    obtain ⟨h1, h2, h3, h4, h5⟩ := hsw.of_modLdu
    refine ⟨by rw [h5, if_pos rfl, hg]; rfl, fun d hd hne hres hown => ?_, fun n hn => by rw [h5, if_neg (Ne.symm hn)], h2, h3, h1, h4⟩
    obtain ⟨k1, k2⟩ := hsw.coils d hd hne hres hown
    rw [opposite_opposite] at k2
    exact ⟨k2, k1⟩

end Sys2Proof.Machine
end

section
namespace Sys2Proof.Machine

/-! ### The end of an axis move (R103) -/

theorem State.Calms.setDrive (i : Nat) (x : Drive) (s : State) : s.Calms (s.setDrive i x) := by
  cases h : s.axis? i with
  | none =>
    have he : s.setDrive i x = s := by simp [State.setDrive, State.modAxis, h]
    rw [he]
    exact .refl s
  | some y =>
    have hget := axis?_iff.1 h
    rw [State.setDrive, modAxis_present h]
    refine ⟨rfl, rfl, rfl, rfl, List.prefix_refl _, rfl, fun q => ?_, fun _ => .inl rfl, props_self s, fun _ h => h, fun _ h => h, fun q n hq => ?_⟩
    · rw [State.SeesSame, tget_tput]
      split
      · rename_i hq; rw [← hq, hget]; rfl
      · rfl
    · rw [State.reservedBy, tget_tput] at hq
      split at hq
      · rename_i hi; rw [State.reservedBy, ← hi, hget]; exact hq
      · exact hq

theorem State.Calms.restDrive (i : Nat) (s : State) : s.Calms (s.restDrive i) := .setDrive i _ s

theorem setDrive_kept (i : Nat) (x : Drive) (s : State) : (s.setDrive i x).ldu = s.ldu ∧ (s.setDrive i x).adu = s.adu ∧ (s.setDrive i x).hpa = s.hpa ∧
    (s.setDrive i x).ost = s.ost := by
  unfold State.setDrive State.modAxis
  split
  · exact ⟨rfl, rfl, rfl, rfl⟩
  · exact ⟨rfl, rfl, rfl, rfl⟩

theorem setDrive_ldu (i : Nat) (x : Drive) (s : State) : (s.setDrive i x).ldu = s.ldu := by
  obtain ⟨h, -⟩ := setDrive_kept i x s
  exact h

theorem setDrive_adu (i : Nat) (x : Drive) (s : State) : (s.setDrive i x).adu = s.adu := by
  obtain ⟨-, h, -⟩ := setDrive_kept i x s
  exact h

/-- The axis records once a drive state is written. -/
theorem axis?_setDrive (i : Nat) (x : Drive) (s : State) (q : Nat) :
    (s.setDrive i x).axis? q = if i = q then (s.axis? q).map (fun y => { y with drive := x }) else s.axis? q := by
  cases h : s.axis? i with
  | none =>
    have he : s.setDrive i x = s := by simp [State.setDrive, State.modAxis, h]
    rw [he]
    split
    · rename_i hq; rw [← hq, h]; rfl
    · rfl
  | some y =>
    rw [State.setDrive, modAxis_present h]
    by_cases hq : i = q
    · subst hq
      rw [if_pos rfl, h]
      refine axis?_iff.2 ?_
      exact tget_tput_self _ _ _
    · simp only [State.axis?, tget_tput_of_ne _ _ hq, if_neg hq]

/-- A motion at rest: its axis has the drive state of one that no motion drives (R89). -/
def State.atRest (s : State) (i : Nat) : Prop := ∀ y, s.axis? i = some y → y.drive = if s.floats i then .float else .idle

theorem restDrive_atRest (i : Nat) (s : State) : (s.restDrive i).atRest i := by
  intro y hy
  rw [State.restDrive, axis?_setDrive, if_pos rfl] at hy
  obtain ⟨z, -, rfl⟩ := Option.map_eq_some_iff.1 hy
  have hfl : (s.restDrive i).floats i = s.floats i := by rw [State.floats, (State.Calms.restDrive i s).floats]; rfl
  rw [hfl]

/-- The record of an axis move that has ended. -/
def AxisMotion.finished (st : MotionState) (cause : Option FailCause) (a : AxisMotion) : AxisMotion :=
  { a with state := st, halt := none, cause := cause, granted := none, travel := none, stall := none, settle := none }

theorem adu?_modAdu (m n : Nat) (f : AxisMotion → AxisMotion) (s : State) : (s.modAdu m f).adu? n = if m = n then (s.adu? n).map f else s.adu? n :=
  tget_tmod _ _ _ _

theorem aduEnd_eq {s : State} {m : Nat} {a : AxisMotion} (h : s.adu? m = some a) (st : MotionState) (cause : Option FailCause) :
    s.aduEnd m st cause = emit (.outcome m)
      ((((((s.zeroProps a.axis).modAdu m (AxisMotion.finished st cause)).giveUpFlow m).release m)).restDrive a.axis) := by
  simp only [State.aduEnd, h]
  rfl

theorem State.Calms.aduEnd (m : Nat) (st : MotionState) (cause : Option FailCause) (s : State) : s.Calms (s.aduEnd m st cause) := by
  cases h : s.adu? m with
  | none => simp only [State.aduEnd, h]; exact .refl s
  | some a =>
    rw [aduEnd_eq h]
    exact ((((State.Calms.zeroProps a.axis s).trans (.modAdu _ _ _)).trans (.letGo _ _)).trans (.restDrive _ _)).trans (.emit _ _)

theorem adu?_aduEnd {s : State} {m : Nat} {a : AxisMotion} (h : s.adu? m = some a) (st : MotionState) (cause : Option FailCause) (n : Nat) :
    (s.aduEnd m st cause).adu? n = if m = n then some (a.finished st cause) else s.adu? n := by
  rw [aduEnd_eq h, State.adu?, emit_adu, State.restDrive, (setDrive_adu _ _ _), (letGo_adu m _)]
  show ((s.zeroProps a.axis).modAdu m _).adu? n = _
  rw [adu?_modAdu]
  split
  · rename_i hn
    subst hn
    show (s.adu? m).map _ = _
    rw [h]
    rfl
  · rfl

/-- An axis move has ended. -/
theorem aduEnd_ended {s : State} {m : Nat} {a : AxisMotion} (h : s.adu? m = some a) (st : MotionState) (cause : Option FailCause) :
    s.MoveEnded (s.aduEnd m st cause) m a st cause where
  record := by rw [adu?_aduEnd h, if_pos rfl]; rfl
  outputs := by
    rw [aduEnd_eq h]
    exact ((((State.Calms.modAdu m (AxisMotion.finished st cause) (s.zeroProps a.axis)).trans (.letGo _ _)).trans (.restDrive _ _)).trans (.emit _ _)).still
      (zeroProps_still a.axis s)
  given := by
    rw [aduEnd_eq h]
    exact ((State.Calms.restDrive _ _).trans (.emit _ _)).nothingHeld (letGo_nothingHeld m _)
  drive y hy := by
    have hfl : (s.aduEnd m st cause).floats a.axis = s.floats a.axis := by rw [State.floats, (State.Calms.aduEnd m st cause s).floats]; rfl
    have hrest : (s.aduEnd m st cause).atRest a.axis := by
      rw [aduEnd_eq h]
      exact restDrive_atRest a.axis _
    rw [hrest y hy, hfl]
  told := by
    rw [aduEnd_eq h]
    exact List.mem_append_right _ (List.mem_singleton_self _)
  others := ⟨fun n hn => by rw [adu?_aduEnd h, if_neg (Ne.symm hn)], (State.Calms.aduEnd m st cause s).floats, (State.Calms.aduEnd m st cause s).osq,
    fixed_finish_of (State.Calms.aduEnd m st cause s).fixed⟩

theorem State.MoveEnded.of_start {s r e : State} {m : Nat} {a : AxisMotion} {st : MotionState} {cause : Option FailCause} (h : r.MoveEnded e m a st cause)
    (ha : r.adu = s.adu) (ho : r.osq = s.osq) (hf : r.fixed = s.fixed) : s.MoveEnded e m a st cause where
  record := h.record
  outputs := h.outputs
  given := h.given
  drive y hy := by
    rw [h.drive y hy, State.floats, ha]
    rfl
  told := h.told
  others := by
    obtain ⟨h1, h2, h3, h4⟩ := h.others
    refine ⟨fun n hn => (h1 n hn).trans ?_, h2.trans (congrArg Adu.floats ha), h3.trans ho, h4.trans hf⟩
    rw [State.adu?, ha]
    rfl

end Sys2Proof.Machine
end

section
namespace Sys2Proof.Machine

/-! ### Records written twice -/

theorem tput_tput {α : Type} (t : Table α) (i : Nat) (a b : α) : tput (tput t i a) i b = tput t i b := by
  induction t with
  | nil => simp [tput]
  | cons e r ih =>
    obtain ⟨k, x⟩ := e
    simp only [tput]
    by_cases h1 : i < k
    · simp [h1, tput]
    · by_cases h2 : i = k
      · simp [h2, tput]
      · simp [h1, h2, tput, ih]

theorem tmod_tmod {α : Type} (t : Table α) (i : Nat) (f g : α → α) : tmod (tmod t i f) i g = tmod t i (fun x => g (f x)) := by
  cases h : tget t i with
  | none => simp [tmod, h]
  | some a => simp [tmod, h, tput_tput]

theorem modAdu_modAdu (m : Nat) (f g : AxisMotion → AxisMotion) (s : State) : (s.modAdu m f).modAdu m g = s.modAdu m (fun x => g (f x)) := by
  simp only [State.modAdu, tmod_tmod]

/-! ### A move that fails with a fault of its axis (R96, R97, R99) -/

section
variable {s : State} {m : Nat} {a : AxisMotion}

/-- A fault recorded on the axis, its outputs at 0 before or not, and the end of the move. -/
theorem aduEnd_failed {r : State} (h : s.adu? m = some a) (code : FaultCode) (hr : r = s ∨ r = s.zeroProps a.axis) :
    s.MoveEnded ((r.recordFault a.axis code).aduEnd m .failed (some (.point code))) m a .failed (some (.point code)) ∧
      ((tget s.pmn.points a.axis).isSome → s.FaultReported ((r.recordFault a.axis code).aduEnd m .failed (some (.point code))) a.axis code) := by
  have hcalm : s.Calms r := by
    rcases hr with rfl | rfl
    · exact .refl _
    · exact .zeroProps _ _
  have hkept : r.adu = s.adu ∧ r.pmn = s.pmn := by rcases hr with rfl | rfl <;> exact ⟨rfl, rfl⟩
  have hacts := State.ActsTo.recordFault a.axis code r
  obtain ⟨-, -, hadu, hosq, -⟩ := State.units_eq hacts.units
  have hrec : (r.recordFault a.axis code).adu? m = some a := by rw [State.adu?, hadu, hkept.1]; exact h
  refine ⟨(aduEnd_ended hrec _ _).of_start (hadu.trans hkept.1) (hosq.trans hcalm.osq) (hacts.fixed.trans hcalm.fixed), fun hp => ?_⟩
  have hrep := (recordFault_recorded (s := r) (by rw [hkept.2]; exact hp) code).of_start_pmn hkept.2 hcalm.cev (lst_of_fixed hcalm.fixed)
    (amu_of_fixed hcalm.fixed)
  exact (State.Calms.aduEnd m .failed (some (.point code)) _).faultReported hrep.toFaultReported

/-! ### The three timers -/

theorem aduStall_stopped (h : ∀ a, s.adu? m = some a → a.state ≠ .driving ∨ a.stall = none) : s.aduStall m = s := by
  unfold State.aduStall
  split
  · rfl
  · rename_i a ha
    split
    · rename_i w d p hw _ _
      have : ¬ (a.state == .driving) = true := by
        have := (h a ha).resolve_right (by simp [hw])
        simpa using this
      rw [if_neg this]
    · rfl

theorem aduTravelOut_stopped (h : ∀ a, s.adu? m = some a → (a.state ≠ .driving ∧ a.state ≠ .settling) ∨ a.travel = none) : s.aduTravelOut m = s := by
  unfold State.aduTravelOut
  split
  · rfl
  · rename_i a ha
    rw [if_neg]
    rcases h a ha with ⟨h1, h2⟩ | h1
    · simp [h1, h2]
    · simp [h1]

theorem aduSettleEnd_stopped (h : ∀ a, s.adu? m = some a → a.state ≠ .settling ∨ a.settle = none) : s.aduSettleEnd m = s := by
  unfold State.aduSettleEnd
  split
  · rfl
  · rename_i a ha
    split
    · rw [if_neg]
      rcases h a ha with h1 | h1
      · simp [h1]
      · simp [h1]
    · rfl

theorem aduTravelOut_running (h : s.adu? m = some a) (hs : a.state = .driving ∨ a.state = .settling) (ht : a.travel ≠ none) :
    s.aduTravelOut m = ((s.zeroProps a.axis).recordFault a.axis .travelTimeout).aduEnd m .failed (some (.point .travelTimeout)) := by
  have : ((a.state == .driving || a.state == .settling) && a.travel.isSome) = true := by
    have hsome : a.travel.isSome = true := Option.isSome_iff_ne_none.2 ht
    rcases hs with hs | hs
    · simp [hs, hsome]
    · simp [hs, hsome]
  simp only [State.aduTravelOut, h, if_pos this]

variable {d : AxisDef} {p : Nat}

theorem aduStall_running {w : Stall} (h : s.adu? m = some a) (hd : s.layout.axis? a.axis = some d) (hp : s.position a.axis = some p)
    (hs : a.state = .driving) (hw : a.stall = some w) :
    s.aduStall m =
      if distanceOf p w.start < d.stallDelta then ((s.zeroProps a.axis).recordFault a.axis .stall).aduEnd m .failed (some (.point .stall))
      else s.modAdu m (fun x => { x with stall := some { left := d.stallWindow, start := p } }) := by
  simp [State.aduStall, h, hd, hp, hs, hw]

theorem aduSettleEnd_running (h : s.adu? m = some a) (hd : s.layout.axis? a.axis = some d) (hp : s.position a.axis = some p) (hs : a.state = .settling)
    (ht : a.settle ≠ none) :
    s.aduSettleEnd m =
      if distanceOf a.target p ≤ d.inPos then s.aduEnd m .done none
      else if a.redrives < 2 then (s.modAdu m (fun x => { x with redrives := x.redrives + 1 })).aduGo m
      else (s.recordFault a.axis .inposFailed).aduEnd m .failed (some (.point .inposFailed)) := by
  simp [State.aduSettleEnd, h, hd, hp, hs, Option.isSome_iff_ne_none, ht]

/-- The move driven once more after settling outside the band (R99). -/
def State.driveAgain (m : Nat) (a : AxisMotion) (d : AxisDef) (p : Nat) (s : State) : State :=
  (s.modAdu m (fun x =>
    { x with state := .driving, halt := none, settle := none, redrives := x.redrives + 1
             stall := some { left := d.stallWindow, start := p } })).setDrive a.axis .driving

theorem aduGo_again (h : s.adu? m = some a) (hd : s.layout.axis? a.axis = some d) (hp : s.position a.axis = some p) :
    (s.modAdu m (fun x => { x with redrives := x.redrives + 1 })).aduGo m =
      if s.runAsserted then (s.driveAgain m a d p).aduInterval m
      else emit (.cause { kind := .runReleased, subject := .holder s.amu.holder }) (s.driveAgain m a d p) := by
  have hrec : (s.modAdu m (fun x => { x with redrives := x.redrives + 1 })).adu? m = some { a with redrives := a.redrives + 1 } := by
    rw [adu?_modAdu, if_pos rfl, h]; rfl
  have hlay : (s.modAdu m (fun x => { x with redrives := x.redrives + 1 })).layout = s.layout := rfl
  have hpos : (s.modAdu m (fun x => { x with redrives := x.redrives + 1 })).position a.axis = some p := hp
  simp only [State.aduGo, hrec, hlay, hd, hpos, modAdu_modAdu, Option.map_some, Option.getD_some]
  have hcause : (s.modAdu m (fun x => { x with redrives := x.redrives + 1 })).runReleasedCause = { kind := .runReleased, subject := .holder s.amu.holder } := rfl
  rw [hcause]
  rfl

end

/-- Settles O47. -/
theorem moveTimersSuperviseTheMove : Obligations.MoveTimersSuperviseTheMove := by
  intro m s hr
  refine ⟨fun h => exec_act_same hr (aduStall_stopped h), fun h => exec_act_same hr (aduTravelOut_stopped h), fun h => exec_act_same hr (aduSettleEnd_stopped h),
    fun a d ha hd => ⟨fun hs ht => ⟨_, exec_act hr _, ?_⟩, fun p hp => ⟨fun w hs hw => ⟨fun hlt => ⟨_, exec_act hr _, ?_⟩, fun hge => ?_⟩,
      fun hs ht => ⟨fun hin => ⟨_, exec_act hr _, ?_⟩, fun hout hre => ⟨_, exec_act hr _, ?_⟩, fun hout hre => ⟨fun hrun => ?_, fun hrun => ?_⟩⟩⟩⟩⟩
  · rw [aduTravelOut_running ha hs ht]
    exact aduEnd_failed ha .travelTimeout (.inr rfl)
  · rw [aduStall_running ha hd hp hs hw, if_pos (show distanceOf p w.start < d.stallDelta from hlt)]
    exact aduEnd_failed ha .stall (.inr rfl)
  · refine (exec_act hr _).trans (congrArg _ ?_)
    rw [aduStall_running ha hd hp hs hw, if_neg (show ¬ distanceOf p w.start < d.stallDelta from Nat.not_lt.2 hge)]
    exact finish_of_todo_nil hr.2
  · rw [aduSettleEnd_running ha hd hp hs ht, if_pos (show distanceOf a.target p ≤ d.inPos from hin)]
    exact aduEnd_ended ha .done none
  · rw [aduSettleEnd_running ha hd hp hs ht, if_neg (show ¬ distanceOf a.target p ≤ d.inPos from Nat.not_le.2 hout), if_neg (Nat.not_lt.2 hre)]
    exact aduEnd_failed ha .inposFailed (.inl rfl)
  · refine (exec_act hr _).trans (congrArg _ (congrArg finish ?_))
    rw [aduSettleEnd_running ha hd hp hs ht, if_neg (show ¬ distanceOf a.target p ≤ d.inPos from Nat.not_le.2 hout), if_pos hre, aduGo_again ha hd hp, if_pos hrun]
    rfl
  · refine (exec_act hr _).trans (congrArg _ (congrArg finish ?_))
    rw [aduSettleEnd_running ha hd hp hs ht, if_neg (show ¬ distanceOf a.target p ≤ d.inPos from Nat.not_le.2 hout), if_pos hre, aduGo_again ha hd hp, if_neg (by simp [hrun])]
    rfl

end Sys2Proof.Machine
end

section
namespace Sys2Proof.Machine

/-! ### A motion on its way to its withdrawal (R86, R103, R128) -/

/-- The motion `m` as it stood in `s` is still to be withdrawn in `e`: its record has not ended, and its reservation stands. -/
structure State.Tracks (s e : State) (m : Nat) : Prop where
  layout : e.layout = s.layout
  owner  : ∀ i : Nat, e.ost.coils[i]?.map (fun c => c.owner) = s.ost.coils[i]?.map (fun c => c.owner)
  floats : e.adu.floats = s.adu.floats
  kept   : ∀ q, s.reservedBy q = some m → e.reservedBy q = some m
  group  : ∀ g, s.ldu? m = some g → g.state.ended = false →
    ∃ h, e.ldu? m = some h ∧ h.state.ended = false ∧ ∀ x ∈ g.members, ∃ y ∈ h.members, y.point = x.point
  move   : ∀ a, s.adu? m = some a → a.state.ended = false → ∃ b, e.adu? m = some b ∧ b.state.ended = false ∧ b.axis = a.axis

section
variable {s r e : State} {m n : Nat}

theorem State.Tracks.of_same (hl : e.layout = s.layout) (ho : e.ost.coils = s.ost.coils) (hp : e.pmn = s.pmn) (hd : e.ldu = s.ldu) (ha : e.adu = s.adu) :
    s.Tracks e m where
  layout := hl
  owner i := by rw [ho]
  floats := by rw [ha]
  kept q hq := by rw [State.reservedBy, hp]; exact hq
  group g hg hs := ⟨g, by rw [State.ldu?, hd]; exact hg, hs, fun x hx => ⟨x, hx, rfl⟩⟩
  move a h hs := ⟨a, by rw [State.adu?, ha]; exact h, hs, rfl⟩

theorem State.Tracks.refl (s : State) (m : Nat) : s.Tracks s m := .of_same rfl rfl rfl rfl rfl

theorem State.Tracks.trans (h : s.Tracks r m) (k : r.Tracks e m) : s.Tracks e m where
  layout := k.layout.trans h.layout
  owner i := (k.owner i).trans (h.owner i)
  floats := k.floats.trans h.floats
  kept q hq := k.kept q (h.kept q hq)
  group g hg hs := by
    obtain ⟨g1, h1, h2, h3⟩ := h.group g hg hs
    obtain ⟨g2, k1, k2, k3⟩ := k.group g1 h1 h2
    refine ⟨g2, k1, k2, fun x hx => ?_⟩
    obtain ⟨y, hy, hyx⟩ := h3 x hx
    obtain ⟨z, hz, hzy⟩ := k3 y hy
    exact ⟨z, hz, hzy.trans hyx⟩
  move a ha hs := by
    obtain ⟨a1, h1, h2, h3⟩ := h.move a ha hs
    obtain ⟨a2, k1, k2, k3⟩ := k.move a1 h1 h2
    exact ⟨a2, k1, k2, k3.trans h3⟩

theorem State.Tracks.foldl {α : Type} {f : State → α → State} (h : ∀ x a, State.Tracks x (f x a) m) (l : List α) (s : State) : s.Tracks (l.foldl f s) m := by
  induction l generalizing s with
  | nil => exact .refl s m
  | cons a l ih => exact (h s a).trans (ih _)

/-- An act that leaves the motion's record. -/
theorem State.Calms.tracks (h : s.Calms e) (hr : ∀ q, s.reservedBy q = some m → e.reservedBy q = some m) (hd : e.ldu? m = s.ldu? m)
    (ha : e.adu? m = s.adu? m) : s.Tracks e m :=
  ⟨h.layout, h.owner, h.floats, hr, fun g hg hs => ⟨g, hd.trans hg, hs, fun x hx => ⟨x, hx, rfl⟩⟩, fun a k hs => ⟨a, ha.trans k, hs, rfl⟩⟩

theorem State.CoilsOff.tracks (h : s.CoilsOff e) (m : Nat) : s.Tracks e m := by
  obtain ⟨h1, h2, -, h4, -⟩ := h.kept
  exact h.calms.tracks (fun q hq => by rw [State.reservedBy, h4]; exact hq) (by rw [State.ldu?, h1]; rfl) (by rw [State.adu?, h2]; rfl)

theorem State.Tracks.zeroProps (i : Nat) (s : State) : s.Tracks (s.zeroProps i) m := (State.Calms.zeroProps i s).tracks (fun _ h => h) rfl rfl

theorem State.Tracks.giveUpFlow (n : Nat) (s : State) : s.Tracks (s.giveUpFlow n) m := by
  obtain ⟨h1, h2, h3, -⟩ := giveUpFlow_kept n s
  exact (State.Calms.giveUpFlow n s).tracks (fun q hq => by rw [State.reservedBy, h3]; exact hq) (by rw [State.ldu?, h1]; rfl) (by rw [State.adu?, h2]; rfl)

theorem reservedBy_setDrive (i : Nat) (x : Drive) (s : State) (q : Nat) : (s.setDrive i x).reservedBy q = s.reservedBy q := by
  cases h : s.axis? i with
  | none => simp [State.setDrive, State.modAxis, h]
  | some y =>
    rw [State.setDrive, modAxis_present h, State.reservedBy, tget_tput]
    split
    · rename_i hq
      rw [State.reservedBy, ← hq, axis?_iff.1 h]
      rfl
    · rfl

theorem State.Tracks.setDrive (i : Nat) (x : Drive) (s : State) : s.Tracks (s.setDrive i x) m := by
  obtain ⟨h1, h2, -⟩ := setDrive_kept i x s
  exact (State.Calms.setDrive i x s).tracks (fun q hq => by rw [reservedBy_setDrive]; exact hq) (by rw [State.ldu?, h1]; rfl) (by rw [State.adu?, h2]; rfl)

theorem State.Tracks.release (hn : n ≠ m) (s : State) : s.Tracks (s.release n) m := by
  obtain ⟨h1, h2, -⟩ := release_kept n s
  refine (State.Calms.release n s).tracks (fun q hq => ?_) (by rw [State.ldu?, h1]; rfl) (by rw [State.adu?, h2]; rfl)
  rw [reservedBy_release, if_neg]
  · exact hq
  · rw [hq]
    simpa using Ne.symm hn

theorem State.Tracks.lduDrop (hn : n ≠ m) (s : State) : s.Tracks (s.lduDrop n) m :=
  (State.Calms.lduDrop n s).tracks (fun _ h => h) ((tget_tdel _ _ _).trans (if_neg hn)) rfl

theorem State.Tracks.aduDrop (hn : n ≠ m) (s : State) : s.Tracks (s.aduDrop n) m :=
  (State.Calms.aduDrop n s).tracks (fun _ h => h) rfl ((tget_tdel _ _ _).trans (if_neg hn))

/-- A group drive written so that it has not ended and keeps its members. -/
theorem State.Tracks.modLdu {f : GroupMotion → GroupMotion} (hs : ∀ g, (f g).state.ended = false)
    (hm : ∀ g, (f g).members.map (fun x => x.point) = g.members.map (fun x => x.point)) (n : Nat) (s : State) : s.Tracks (s.modLdu n f) m := by
  have hc := State.Calms.modLdu n f s
  refine ⟨hc.layout, hc.owner, hc.floats, fun _ h => h, fun g hg he => ?_, fun a ha he => ⟨a, ha, he, rfl⟩⟩
  rw [ldu?_modLdu, hg]
  split
  · refine ⟨f g, rfl, hs g, fun x hx => ?_⟩
    have : x.point ∈ (f g).members.map (fun x => x.point) := by rw [hm]; exact List.mem_map_of_mem hx
    exact List.mem_map.1 this
  · exact ⟨g, rfl, he, fun x hx => ⟨x, hx, rfl⟩⟩

/-- An axis move written so that it has not ended and keeps its axis. -/
theorem State.Tracks.modAdu {f : AxisMotion → AxisMotion} (hs : ∀ a, (f a).state.ended = false) (hx : ∀ a, (f a).axis = a.axis) (n : Nat) (s : State) :
    s.Tracks (s.modAdu n f) m := by
  have hc := State.Calms.modAdu n f s
  refine ⟨hc.layout, hc.owner, hc.floats, fun _ h => h, fun g hg he => ⟨g, hg, he, fun x hx => ⟨x, hx, rfl⟩⟩, fun a ha he => ?_⟩
  rw [adu?_modAdu, ha]
  split
  · exact ⟨f a, rfl, hs a, hx a⟩
  · exact ⟨a, rfl, he, rfl⟩

theorem State.Tracks.event (x : Event) (s : State) : s.Tracks (s.event x) m := .of_same rfl rfl rfl rfl rfl

theorem State.Tracks.modCtx (f : Context → Context) (s : State) : s.Tracks (s.modCtx f) m := .of_same rfl rfl rfl rfl rfl

/-! ### Halts (R84, R101) -/

/-- The record of a halted group drive. -/
def GroupMotion.haltedBy (why : HaltCause) (g : GroupMotion) : GroupMotion :=
  { g with state := .halted, halt := some why, granted := none, members := g.members.map Member.still }

/-- The record of a halted axis move. -/
def AxisMotion.haltedBy (why : HaltCause) (a : AxisMotion) : AxisMotion :=
  { a with state := .halted, halt := some why, granted := none, travel := none, stall := none, settle := none }

/-- The acts of a halted group drive, before its flow is given up. -/
def State.haltGroup (n : Nat) (why : HaltCause) (g : GroupMotion) (s : State) : State := (s.groupOff n g).modLdu n (GroupMotion.haltedBy why)

theorem lduHalt_cases (n : Nat) (why : HaltCause) (s : State) :
    s.lduHalt n why = s ∨ ∃ g, s.lduHalt n why = s.haltGroup n why g ∨ s.lduHalt n why = (s.haltGroup n why g).giveUpFlow n := by
  unfold State.lduHalt
  split
  · exact .inl rfl
  · rename_i g _
    simp only
    split
    · split
      · exact .inr ⟨g, .inr rfl⟩
      · exact .inr ⟨g, .inl rfl⟩
    · split
      · exact .inr ⟨g, .inr rfl⟩
      · exact .inl rfl

/-- The acts of a halted axis move, before its flow is given up. -/
def State.haltMove (n : Nat) (why : HaltCause) (i : Nat) (s : State) : State := (s.zeroProps i).modAdu n (AxisMotion.haltedBy why)

theorem aduHalt_cases (n : Nat) (why : HaltCause) (s : State) :
    s.aduHalt n why = s ∨ ∃ i, ∃ t, (t = s.haltMove n why i ∨ t = (s.haltMove n why i).setDrive i .halted) ∧ (s.aduHalt n why = t ∨ s.aduHalt n why = t.giveUpFlow n) := by
  unfold State.aduHalt
  split
  · exact .inl rfl
  · rename_i a _
    simp only
    split
    · split
      · split
        · exact .inr ⟨a.axis, _, .inl rfl, .inr rfl⟩
        · exact .inr ⟨a.axis, _, .inr rfl, .inr rfl⟩
      · split
        · exact .inr ⟨a.axis, _, .inl rfl, .inl rfl⟩
        · exact .inr ⟨a.axis, _, .inr rfl, .inl rfl⟩
    · split
      · exact .inr ⟨a.axis, _, .inl rfl, .inr rfl⟩
      · exact .inl rfl

/-- A relation that the acts of a halt keep. -/
theorem haltMotion_induction {R : State → State → Prop} (hrefl : ∀ x, R x x) (htrans : ∀ x y z, R x y → R y z → R x z)
    (hgroup : ∀ n why g x, R x (State.haltGroup n why g x)) (hmove : ∀ n why i x, R x (State.haltMove n why i x))
    (hdrive : ∀ i x, R x (State.setDrive i .halted x)) (hflow : ∀ n x, R x (State.giveUpFlow n x)) (n : Nat) (why : HaltCause) (s : State) :
    R s (s.haltMotion n why) := by
  have h1 : R s (s.lduHalt n why) := by
    rcases lduHalt_cases n why s with h | ⟨g, h | h⟩
    · rw [h]; exact hrefl s
    · rw [h]; exact hgroup _ _ _ _
    · rw [h]; exact htrans _ _ _ (hgroup _ _ _ _) (hflow _ _)
  refine htrans _ _ _ h1 (show R (s.lduHalt n why) ((s.lduHalt n why).aduHalt n why) from ?_)
  rcases aduHalt_cases n why (s.lduHalt n why) with h | ⟨i, t, ht, h⟩
  · rw [h]; exact hrefl _
  · have h2 : R (s.lduHalt n why) t := by
      rcases ht with rfl | rfl
      · exact hmove _ _ _ _
      · exact htrans _ _ _ (hmove _ _ _ _) (hdrive _ _)
    rcases h with h | h
    · rw [h]; exact h2
    · rw [h]; exact htrans _ _ _ h2 (hflow _ _)

theorem State.Calms.haltMotion (n : Nat) (why : HaltCause) (s : State) : s.Calms (s.haltMotion n why) :=
  haltMotion_induction .refl (fun _ _ _ => .trans) (fun _ _ _ x => (State.CoilsOff.groupOff _ _ x).calms.trans (.modLdu _ _ _))
    (fun _ _ _ x => (State.Calms.zeroProps _ x).trans (.modAdu _ _ _)) (fun i x => .setDrive i _ x) .giveUpFlow n why s

theorem State.Tracks.haltMotion (n : Nat) (why : HaltCause) (s : State) : s.Tracks (s.haltMotion n why) m :=
  haltMotion_induction (R := fun x y => x.Tracks y m) (fun x => .refl x m) (fun _ _ _ => .trans)
    (fun _ _ _ x => ((State.CoilsOff.groupOff _ _ x).tracks m).trans (.modLdu (fun _ => rfl) (fun g => by simp [GroupMotion.haltedBy, Member.still]) _ _))
    (fun _ w _ x => (State.Tracks.zeroProps _ x).trans (.modAdu (f := AxisMotion.haltedBy w) (fun _ => rfl) (fun _ => rfl) _ _)) (fun i x => .setDrive i _ x)
    .giveUpFlow n why s

end

/-! ### Withdrawals (R86, R103) -/

section
variable {s r e : State} {m n : Nat}

theorem lduWithdraw_absent (h : s.ldu? n = none) : s.lduWithdraw n = s := by simp [State.lduWithdraw, h]

theorem lduWithdraw_ended {g : GroupMotion} (h : s.ldu? n = some g) (hs : g.state.ended = true) : s.lduWithdraw n = s.lduDrop n := by simp [State.lduWithdraw, h, hs]

theorem lduWithdraw_live {g : GroupMotion} (h : s.ldu? n = some g) (hs : g.state.ended = false) :
    s.lduWithdraw n = (((s.groupOff n g).giveUpFlow n).release n).lduDrop n := by simp [State.lduWithdraw, h, hs]

theorem aduWithdraw_absent (h : s.adu? n = none) : s.aduWithdraw n = s := by simp [State.aduWithdraw, h]

theorem aduWithdraw_ended {a : AxisMotion} (h : s.adu? n = some a) (hs : a.state.ended = true) : s.aduWithdraw n = s.aduDrop n := by simp [State.aduWithdraw, h, hs]

theorem aduWithdraw_live {a : AxisMotion} (h : s.adu? n = some a) (hs : a.state.ended = false) :
    s.aduWithdraw n = ((((s.zeroProps a.axis).giveUpFlow n).release n).restDrive a.axis).aduDrop n := by simp [State.aduWithdraw, h, hs]

theorem lduWithdraw_cases (n : Nat) (s : State) :
    s.lduWithdraw n = s ∨ s.lduWithdraw n = s.lduDrop n ∨ ∃ g, s.lduWithdraw n = (((s.groupOff n g).giveUpFlow n).release n).lduDrop n := by
  cases h : s.ldu? n with
  | none => exact .inl (lduWithdraw_absent h)
  | some g =>
    cases hs : g.state.ended with
    | true => exact .inr (.inl (lduWithdraw_ended h hs))
    | false => exact .inr (.inr ⟨g, lduWithdraw_live h hs⟩)

theorem aduWithdraw_cases (n : Nat) (s : State) :
    s.aduWithdraw n = s ∨ s.aduWithdraw n = s.aduDrop n ∨
      ∃ i, s.aduWithdraw n = ((((s.zeroProps i).giveUpFlow n).release n).restDrive i).aduDrop n := by
  cases h : s.adu? n with
  | none => exact .inl (aduWithdraw_absent h)
  | some a =>
    cases hs : a.state.ended with
    | true => exact .inr (.inl (aduWithdraw_ended h hs))
    | false => exact .inr (.inr ⟨a.axis, aduWithdraw_live h hs⟩)

/-- A relation that the acts of a withdrawal keep. -/
theorem withdrawMotion_induction {R : State → State → Prop} (hrefl : ∀ x, R x x) (htrans : ∀ x y z, R x y → R y z → R x z)
    (hcoils : ∀ g x, R x (State.groupOff n g x)) (hprops : ∀ i x, R x (State.zeroProps i x)) (hflow : ∀ x, R x (State.giveUpFlow n x))
    (hfree : ∀ x, R x (State.release n x)) (hdrive : ∀ i x, R x (State.restDrive i x)) (hldu : ∀ x, R x (State.lduDrop n x))
    (hadu : ∀ x, R x (State.aduDrop n x)) (s : State) : R s (s.lduWithdraw n) ∧ R (s.lduWithdraw n) (s.withdrawMotion n) := by
  constructor
  · rcases lduWithdraw_cases n s with h | h | ⟨g, h⟩
    · rw [h]; exact hrefl s
    · rw [h]; exact hldu s
    · rw [h]; exact htrans _ _ _ (htrans _ _ _ (htrans _ _ _ (hcoils _ _) (hflow _)) (hfree _)) (hldu _)
  · unfold State.withdrawMotion
    rcases aduWithdraw_cases n (s.lduWithdraw n) with h | h | ⟨i, h⟩
    · rw [h]; exact hrefl _
    · rw [h]; exact hadu _
    · rw [h]; exact htrans _ _ _ (htrans _ _ _ (htrans _ _ _ (htrans _ _ _ (hprops _ _) (hflow _)) (hfree _)) (hdrive _ _)) (hadu _)

theorem calms_withdraw (n : Nat) (s : State) : s.Calms (s.lduWithdraw n) ∧ (s.lduWithdraw n).Calms (s.withdrawMotion n) :=
  withdrawMotion_induction .refl (fun _ _ _ => .trans) (fun g x => (State.CoilsOff.groupOff n g x).calms) .zeroProps (.giveUpFlow n) (.release n) .restDrive
    (.lduDrop n) (.aduDrop n) s

theorem State.Calms.withdrawMotion (n : Nat) (s : State) : s.Calms (s.withdrawMotion n) := (calms_withdraw n s).1.trans (calms_withdraw n s).2

theorem State.Tracks.withdrawMotion (hn : n ≠ m) (s : State) : s.Tracks (s.withdrawMotion n) m := by
  obtain ⟨h1, h2⟩ := withdrawMotion_induction (n := n) (R := fun x y => x.Tracks y m) (fun x => .refl x m) (fun _ _ _ => .trans)
    (fun g x => (State.CoilsOff.groupOff n g x).tracks m) .zeroProps (.giveUpFlow n) (.release hn) (fun i x => .setDrive i _ x) (.lduDrop hn) (.aduDrop hn) s
  exact h1.trans h2

/-- The records of motions that a withdrawal leaves: none anew. -/
theorem withdrawMotion_records (n : Nat) (s : State) (m : Nat) :
    (s.ldu? m = none → (s.withdrawMotion n).ldu? m = none) ∧ (s.adu? m = none → (s.withdrawMotion n).adu? m = none) := by
  have hdrop {α : Type} (t : Table α) (h : tget t m = none) : tget (tdel t n) m = none := by
    rw [tget_tdel]
    split
    · rfl
    · exact h
  obtain ⟨h1, h2⟩ := withdrawMotion_induction (n := n)
    (R := fun x y => (x.ldu? m = none → y.ldu? m = none) ∧ (x.adu? m = none → y.adu? m = none)) (fun _ => ⟨id, id⟩)
    (fun _ _ _ h k => ⟨fun hx => k.1 (h.1 hx), fun hx => k.2 (h.2 hx)⟩)
    (fun g x => by
      obtain ⟨k1, k2, -⟩ := (State.CoilsOff.groupOff n g x).kept
      simp only [State.ldu?, State.adu?, k1, k2, imp_self, and_self])
    (fun _ _ => ⟨id, id⟩)
    (fun x => by
      obtain ⟨k1, k2, -⟩ := giveUpFlow_kept n x
      simp only [State.ldu?, State.adu?, k1, k2, imp_self, and_self])
    (fun x => by
      obtain ⟨k1, k2, -⟩ := release_kept n x
      simp only [State.ldu?, State.adu?, k1, k2, imp_self, and_self])
    (fun i x => by
      obtain ⟨k1, k2, -⟩ := setDrive_kept i (if x.floats i then .float else .idle) x
      simp only [State.restDrive, State.ldu?, State.adu?, k1, k2, imp_self, and_self])
    (fun x => ⟨hdrop _, id⟩) (fun x => ⟨id, hdrop _⟩) s
  exact ⟨fun h => h2.1 (h1.1 h), fun h => h2.2 (h1.2 h)⟩

/-- A withdrawn motion has no record. -/
theorem withdrawMotion_gone (n : Nat) (s : State) : (s.withdrawMotion n).ldu? n = none ∧ (s.withdrawMotion n).adu? n = none := by
  have hldu : (s.lduWithdraw n).ldu? n = none := by
    cases h : s.ldu? n with
    | none => rw [lduWithdraw_absent h]; exact h
    | some g =>
      cases hs : g.state.ended with
      | true => rw [lduWithdraw_ended h hs]; exact tget_tdel_self _ _
      | false => rw [lduWithdraw_live h hs]; exact tget_tdel_self _ _
  refine ⟨?_, ?_⟩
  · unfold State.withdrawMotion
    rcases aduWithdraw_cases n (s.lduWithdraw n) with h | h | ⟨i, h⟩
    · rw [h]; exact hldu
    · rw [h]; exact hldu
    · rw [h, State.restDrive, State.ldu?]
      show tget (State.setDrive _ _ _).ldu.motions n = none
      rw [(setDrive_ldu _ _ _), (letGo_ldu n _)]
      exact hldu
  · unfold State.withdrawMotion
    cases h : (s.lduWithdraw n).adu? n with
    | none => rw [aduWithdraw_absent h]; exact h
    | some a =>
      cases hs : a.state.ended with
      | true => rw [aduWithdraw_ended h hs]; exact tget_tdel_self _ _
      | false => rw [aduWithdraw_live h hs]; exact tget_tdel_self _ _

end

/-! ### Axes at rest -/

/-- The drive state of an axis that no motion drives (R89). -/
def State.resting (s : State) (i : Nat) : Drive := if s.floats i then .float else .idle

/-- The axis, where there is one, has the drive state. -/
def State.drives (s : State) (i : Nat) (x : Drive) : Prop := ∀ y, s.axis? i = some y → y.drive = x

/-- A release leaves the drive states. -/
theorem axis?_release {n : Nat} {s : State} {i : Nat} {z : AxisDyn} (h : (s.release n).axis? i = some z) : ∃ y, s.axis? i = some y ∧ y.drive = z.drive := by
  obtain ⟨x, ts, he, hx⟩ := release_shape n s
  have hz := axis?_iff.1 h
  rw [he] at hz
  obtain ⟨d, hd, hdz⟩ := Option.map_eq_some_iff.1 ((hx i).symm.trans hz)
  cases d with
  | lock y =>
    unfold PointDyn.freed at hdz
    split at hdz <;> cases hdz
  | axis y =>
    refine ⟨y, axis?_iff.2 hd, ?_⟩
    unfold PointDyn.freed at hdz
    split at hdz <;> cases hdz <;> rfl

/-- An axis at rest stays so through every withdrawal. -/
theorem withdrawMotion_drives (n i : Nat) (s : State) (h : s.drives i (s.resting i)) : (s.withdrawMotion n).drives i ((s.withdrawMotion n).resting i) := by
  have same {x y : State} (hp : y.pmn = x.pmn) (ha : y.adu.floats = x.adu.floats) (hx : x.drives i (x.resting i)) : y.drives i (y.resting i) := by
    intro z hz
    rw [State.resting, State.floats, ha]
    refine hx z ?_
    rw [State.axis?, hp] at hz
    exact hz
  obtain ⟨h1, h2⟩ := withdrawMotion_induction (n := n) (R := fun x y => x.drives i (x.resting i) → y.drives i (y.resting i)) (fun _ => id)
    (fun _ _ _ h k hx => k (h hx)) (fun g x => same (State.CoilsOff.groupOff n g x).pmn (State.CoilsOff.groupOff n g x).calms.floats)
    (fun _ _ => same rfl rfl) (fun x => same (giveUpFlow_pmn n x) (State.Calms.giveUpFlow n x).floats)
    (fun x hx z hz => by
      rw [State.resting, State.floats, (State.Calms.release n x).floats]
      obtain ⟨y, hy, hyz⟩ := axis?_release hz
      rw [← hyz]
      exact hx y hy)
    (fun k x hx z hz => by
      have hfl : (x.restDrive k).resting i = x.resting i := by rw [State.resting, State.floats, (State.Calms.restDrive k x).floats]; rfl
      rw [hfl]
      rw [State.restDrive, axis?_setDrive] at hz
      split at hz
      · rename_i hk
        subst hk
        obtain ⟨y, -, rfl⟩ := Option.map_eq_some_iff.1 hz
        rfl
      · exact hx z hz)
    (fun _ => same rfl rfl) (fun _ => same rfl rfl) s
  exact h2 (h1 h)

end Sys2Proof.Machine
end

section
namespace Sys2Proof.Machine

/-! ### The withdrawal of a motion (R86, R103, R135) -/

theorem not_ended_iff {st : MotionState} : st.ended = false ↔ st ≠ .done ∧ st ≠ .failed := by cases st <;> simp [MotionState.ended]

section
variable {s r e : State} {m : Nat}

/-- Nothing of a group drive is left once it is withdrawn. -/
theorem lduWithdraw_released (h : s.Tracks r m) {g : GroupMotion} (hg : s.ldu? m = some g) (hs : g.state.ended = false) :
    (r.lduWithdraw m).NothingHeldBy m ∧ ∀ x ∈ g.members, s.LockOff (r.lduWithdraw m) m x.point := by
  obtain ⟨k, hk, hks, hmem⟩ := h.group g hg hs
  rw [lduWithdraw_live hk hks]
  refine ⟨(State.Calms.lduDrop m _).nothingHeld (letGo_nothingHeld m _), fun x hx => ?_⟩
  obtain ⟨y, hy, hyx⟩ := hmem x hx
  rw [← hyx]
  exact ((groupOff_lockOff m k r y hy).later ((State.Calms.letGo m _).trans (.lduDrop m _))).of_start (h.kept _) h.layout h.owner

/-- Nothing of an axis move is left once it is withdrawn. -/
theorem aduWithdraw_released (h : s.Tracks r m) {a : AxisMotion} (ha : s.adu? m = some a) (hs : a.state.ended = false) :
    (r.aduWithdraw m).NothingHeldBy m ∧ (r.aduWithdraw m).still a.axis ∧ (r.aduWithdraw m).drives a.axis ((r.aduWithdraw m).resting a.axis) := by
  obtain ⟨b, hb, hbs, hx⟩ := h.move a ha hs
  rw [aduWithdraw_live hb hbs, hx]
  refine ⟨((State.Calms.restDrive _ _).trans (.aduDrop m _)).nothingHeld (letGo_nothingHeld m _),
    (((State.Calms.letGo m _).trans (.restDrive _ _)).trans (.aduDrop m _)).still (zeroProps_still a.axis r), ?_⟩
  exact restDrive_atRest a.axis (((r.zeroProps a.axis).giveUpFlow m).release m)

/-- LDU's withdrawal keeps what ADU holds of the motion. -/
theorem lduWithdraw_move (h : s.Tracks r m) : ∀ a, s.adu? m = some a → a.state.ended = false →
    ∃ b, (r.lduWithdraw m).adu? m = some b ∧ b.state.ended = false ∧ b.axis = a.axis := by
  have hadu : (r.lduWithdraw m).adu? m = r.adu? m := by
    rcases lduWithdraw_cases m r with he | he | ⟨g, he⟩
    · rw [he]
    · rw [he]; rfl
    · rw [he, State.adu?]
      show tget (State.adu (State.release m _)).motions m = _
      rw [(letGo_adu m _), (State.CoilsOff.groupOff m g r).adu]
      rfl
  rw [hadu]
  exact h.move

/-- The motion is withdrawn, with the floats as they were. -/
structure State.WithdrawnFor (s e : State) (m : Nat) : Prop extends s.Withdrawn e m where
  floats : e.adu.floats = s.adu.floats

theorem floats_congr (h : e.adu.floats = s.adu.floats) (i : Nat) : e.resting i = if s.floats i then .float else .idle := by
  rw [State.resting, State.floats, h]
  rfl

/-- A tracked motion is withdrawn by its units. -/
theorem withdrawMotion_withdrawn (h : s.Tracks r m) : s.WithdrawnFor (r.withdrawMotion m) m := by
  have hcalm := (calms_withdraw m r).2
  have hfl : (r.withdrawMotion m).adu.floats = s.adu.floats := (State.Calms.withdrawMotion m r).floats.trans h.floats
  refine ⟨⟨withdrawMotion_gone m r, fun g hg h1 h2 => ?_, fun a ha h1 h2 => ?_⟩, hfl⟩
  · obtain ⟨k1, k2⟩ := lduWithdraw_released h hg (not_ended_iff.2 ⟨h1, h2⟩)
    exact ⟨hcalm.nothingHeld k1, fun x hx => (k2 x hx).later hcalm⟩
  · obtain ⟨b, hb, hbs, hx⟩ := lduWithdraw_move h a ha (not_ended_iff.2 ⟨h1, h2⟩)
    obtain ⟨k1, k2, k3⟩ := aduWithdraw_released (State.Tracks.refl (r.lduWithdraw m) m) hb hbs
    rw [hx] at k2 k3
    refine ⟨k1, k2, fun y hy => ?_⟩
    rw [← floats_congr hfl]
    exact k3 y hy

/-- What is withdrawn stays so through every later withdrawal. -/
theorem State.WithdrawnFor.withdrawMotion (h : s.WithdrawnFor r m) (n : Nat) : s.WithdrawnFor (r.withdrawMotion n) m := by
  have hcalm := State.Calms.withdrawMotion n r
  have hfl := hcalm.floats.trans h.floats
  obtain ⟨hl, ha⟩ := withdrawMotion_records n r m
  refine ⟨⟨⟨hl h.record.1, ha h.record.2⟩, fun g hg h1 h2 => ?_, fun a ha h1 h2 => ?_⟩, hfl⟩
  · obtain ⟨k1, k2⟩ := h.group g hg h1 h2
    exact ⟨hcalm.nothingHeld k1, fun x hx => (k2 x hx).later hcalm⟩
  · obtain ⟨k1, k2, k3⟩ := h.move a ha h1 h2
    refine ⟨hcalm.nothingHeld k1, hcalm.still k2, fun y hy => ?_⟩
    rw [← floats_congr hfl]
    refine withdrawMotion_drives n a.axis r (fun z hz => ?_) y hy
    rw [floats_congr h.floats]
    exact k3 z hz

/-- A withdrawal told of a state that differs outside the units, the outputs and the points. -/
theorem State.Withdrawn.later (h : s.Withdrawn r m) (hl : e.ldu = r.ldu) (ha : e.adu = r.adu) (hh : e.hpa = r.hpa) (hp : e.pmn = r.pmn)
    (hc : e.ost.coils = r.ost.coils) (hq : e.ost.props = r.ost.props) : s.Withdrawn e m where
  record := by
    rw [State.ldu?, State.adu?, hl, ha]
    exact h.record
  group := by
    simpa only [State.NothingHeldBy, State.LockOff, State.coilDemanded, State.reservedBy, hh, hp, hc] using h.group
  move := by
    simpa only [State.NothingHeldBy, State.reservedBy, State.axis?, hh, hp, hq] using h.move

/-! ### Every in-flight motion -/

/-- The entries of a list are withdrawn in turn. -/
def State.withdrawEntries (es : List Entry) (s : State) : State := es.foldl (fun x e => e.onMotion State.withdrawMotion x) s

theorem State.Calms.onMotion {f : Nat → State → State} (h : ∀ n x, State.Calms x (f n x)) (e : Entry) (s : State) : s.Calms (e.onMotion f s) := by
  unfold Entry.onMotion
  split
  · exact h _ s
  · exact .refl s

theorem State.Calms.withdrawEntries (es : List Entry) (s : State) : s.Calms (s.withdrawEntries es) :=
  .foldl (fun x e => .onMotion .withdrawMotion e x) es s

theorem State.WithdrawnFor.withdrawEntries (h : s.WithdrawnFor r m) (es : List Entry) : s.WithdrawnFor (r.withdrawEntries es) m := by
  induction es generalizing r with
  | nil => exact h
  | cons e es ih =>
    refine ih (show s.WithdrawnFor (e.onMotion State.withdrawMotion r) m from ?_)
    unfold Entry.onMotion
    split
    · exact h.withdrawMotion _
    · exact h

theorem withdrawEntries_withdrawn {es : List Entry} (h : s.Tracks r m) {n : Entry} (hn : n ∈ es) (hm : n.motion = some m) :
    s.WithdrawnFor (r.withdrawEntries es) m := by
  induction es generalizing r with
  | nil => simp at hn
  | cons e es ih =>
    by_cases he : e.motion = some m
    · have hw : s.WithdrawnFor (e.onMotion State.withdrawMotion r) m := by
        simp only [Entry.onMotion, he]
        exact withdrawMotion_withdrawn h
      exact hw.withdrawEntries es
    · have hmem : n ∈ es := (List.mem_cons.1 hn).resolve_left (fun heq => he (heq ▸ hm))
      refine ih (h.trans (show r.Tracks (e.onMotion State.withdrawMotion r) m from ?_)) hmem
      unfold Entry.onMotion
      split
      · rename_i k hk
        exact .withdrawMotion (fun hkm => he (hk.trans (congrArg some hkm))) r
      · exact .refl r m

theorem withdrawAll_eq (s : State) : s.withdrawAll = (s.withdrawEntries s.inFlight).modCtx (fun x => { x with inFlight := [] }) := rfl

theorem inFlight_of {x : Context} (h : s.osq.context = some x) : s.inFlight = x.inFlight := by simp [State.inFlight, h]

/-- The context, AEU's lists and the reports after every motion is withdrawn. -/
theorem withdrawAll_kept {x : Context} (h : s.osq.context = some x) :
    s.withdrawAll.osq = { s.osq with context := some { x with inFlight := [] } } ∧ s.withdrawAll.aeu = s.aeu := by
  have hc := State.Calms.withdrawEntries s.inFlight s
  refine ⟨?_, hc.aeu⟩
  rw [withdrawAll_eq, State.modCtx]
  simp only [hc.osq, h, Option.map_some]

theorem withdrawAll_withdrawn {x : Context} (h : s.Tracks r m) (hx : r.osq.context = some x) (hm : some m ∈ x.inFlight.map (fun n => n.motion)) :
    s.Withdrawn r.withdrawAll m := by
  obtain ⟨n, hn, hnm⟩ := List.mem_map.1 hm
  have hw := withdrawEntries_withdrawn (es := r.inFlight) h (by rw [inFlight_of hx]; exact hn) hnm
  exact hw.toWithdrawn.later rfl rfl rfl rfl rfl rfl

/-! ### The event list (R168) -/

theorem newestRecords_of_short {xs : List EventRec} (h : xs.length ≤ Config.eventMax) : newestRecords xs = xs := by
  rw [newestRecords, Nat.sub_eq_zero_of_le h, List.drop_zero]

/-- Right after an event what has been logged stands at the end of the list. -/
theorem event_events {a : Aeu} {es : List Event} {x : Event} (h : a.Logged r.aeu es) : (r.event x).aeu.events = newestRecords (a.events ++ a.dated (es ++ [x])) := by
  have hl := (h.trans (Aeu.Logged.record r.aeu x)).events
  have hshort : (r.aeu.record x).events.length ≤ Config.eventMax := by
    rw [Aeu.record_events, newestRecords, List.length_drop]
    omega
  rw [newestRecords_of_short hshort] at hl
  exact hl

theorem event_logged (x : Event) (s : State) : s.aeu.Logged (s.event x).aeu [x] := (Aeu.Logged.record s.aeu x).remake

/-! ### ABORT (R137) -/

/-- An aborted operation. -/
theorem abortContext_eq {x : Context} (hx : s.osq.context = some x) (hs : x.state = .running ∨ x.state = .holding) :
    s.abortContext = (s.withdrawAll.modCtx (fun y => { y with state := .aborted })).event (.operationEnded x.op false) := by
  have : (x.state == .running || x.state == .holding) = true := by
    rcases hs with hs | hs
    · simp [hs]
    · simp [hs]
  simp only [State.abortContext, hx, if_pos this]

theorem abortContext_effect {x : Context} (hx : s.osq.context = some x) (hs : x.state = .running ∨ x.state = .holding) :
    s.abortContext.osq = { s.osq with context := some { x with state := .aborted, inFlight := [] } } ∧
      s.abortContext.aeu.events = newestRecords (s.aeu.events ++ s.aeu.dated [.operationEnded x.op false]) ∧
      ∀ n ∈ x.inFlight, ∀ m, n.motion = some m → s.Withdrawn s.abortContext m := by
  obtain ⟨hosq, haeu⟩ := withdrawAll_kept hx
  rw [abortContext_eq hx hs]
  refine ⟨?_, ?_, fun n hn m hm => ?_⟩
  · rw [event_osq, State.modCtx]
    simp only [hosq, Option.map_some]
  · refine event_events (es := []) ?_
    show s.aeu.Logged s.withdrawAll.aeu []
    rw [haeu]
    exact .refl _
  · exact (withdrawAll_withdrawn (.refl s m) hx (hm ▸ List.mem_map_of_mem hn)).later rfl rfl rfl rfl rfl rfl

/-! ### REVERSE (R134, R135) -/

/-- A reversal from a context whose operation has a reverse. -/
theorem reversal_effect {st : Station} {x : Context} {o : Nat} {d : OpDef} {es : List Event} {a : Aeu} (h : ∀ n ∈ x.inFlight, ∀ m, n.motion = some m → s.Tracks r m)
    (hx : r.osq.context = some x) (ho : r.reverseOf x = some (o, d)) (hl : a.Logged r.aeu es) :
    let e := r.reversal st
    e.osq = { r.osq with context := some (newContext o d st (some x.op) a.stamp) } ∧
      e.aeu.events = newestRecords (a.events ++ a.dated (es ++ [.operationEnded x.op false, .reversed o x.op])) ∧ e.todo.getLast? = some .issue ∧
      ∀ n ∈ x.inFlight, ∀ m, n.motion = some m → s.Withdrawn e m := by
  intro e
  obtain ⟨hosq, haeu⟩ := withdrawAll_kept hx
  have he : e = emit .issue (({ r.withdrawAll.event (.operationEnded x.op false) with
      osq := { (r.withdrawAll.event (.operationEnded x.op false)).osq with context := some (newContext o d st (some x.op) r.aeu.stamp) } } : State).event
        (.reversed o x.op)) := by
    simp only [e, State.reversal, hx, ho]
  rw [he]
  refine ⟨?_, ?_, List.getLast?_concat, fun n hn m hm => ?_⟩
  · rw [emit_osq, event_osq, event_osq, hosq, hl.stamp]
  · have hend : a.Logged (r.withdrawAll.event (.operationEnded x.op false)).aeu (es ++ [.operationEnded x.op false]) := by
      refine hl.trans ?_
      have := event_logged (.operationEnded x.op false) r.withdrawAll
      rw [haeu] at this
      exact this
    rw [show es ++ [Event.operationEnded x.op false, Event.reversed o x.op] = es ++ [Event.operationEnded x.op false] ++ [Event.reversed o x.op] by simp]
    exact event_events (r := { r.withdrawAll.event (.operationEnded x.op false) with
      osq := { (r.withdrawAll.event (.operationEnded x.op false)).osq with context := some (newContext o d st (some x.op) r.aeu.stamp) } }) hend
  · exact (withdrawAll_withdrawn (h n hn m hm) hx (hm ▸ List.mem_map_of_mem hn)).later rfl rfl rfl rfl rfl rfl

/-- What a hold gives: the motions of the context stand, each still to be withdrawn. -/
structure State.HeldFrom (s r : State) (x y : Context) : Prop where
  context : r.osq = { s.osq with context := some y }
  op      : y.op = x.op
  motions : y.inFlight.map (fun n => n.motion) = x.inFlight.map (fun n => n.motion)
  tracks  : ∀ m, s.Tracks r m
  lst     : r.lst = s.lst

theorem State.HeldFrom.refl {x : Context} (hx : s.osq.context = some x) : s.HeldFrom s x x :=
  ⟨by rw [← hx], rfl, rfl, .refl s, rfl⟩

/-- The halts of a hold. -/
def State.haltEntries (es : List Entry) (s : State) : State :=
  es.foldl (fun x e => if e.state == .active then e.onMotion (fun m => State.haltMotion m .hold) x else x) s

theorem haltEntries_effect (es : List Entry) (s : State) : s.Calms (s.haltEntries es) ∧ ∀ m, s.Tracks (s.haltEntries es) m := by
  refine ⟨.foldl (fun x e => ?_) es s, fun m => .foldl (fun x e => ?_) es s⟩
  · split
    · exact .onMotion (fun n y => .haltMotion n .hold y) e x
    · exact .refl x
  · split
    · unfold Entry.onMotion
      split
      · exact .haltMotion _ .hold x
      · exact .refl x m
    · exact .refl x m

/-- A hold cause given to a RUNNING context without one (R127, R128), or to one that has it. -/
theorem giveCause_running {x : Context} (hx : s.osq.context = some x) (hs : x.state = .running) (c : HoldCause) :
    (∃ y, s.HeldFrom (s.giveCause c) x y) ∧ (x.causes = [] → s.aeu.Logged (s.giveCause c).aeu [.hold c]) ∧ ∃ es, s.aeu.Logged (s.giveCause c).aeu es := by
  by_cases hc : x.causes.any (fun k => k.kind == c.kind) = true
  · have he : s.giveCause c = s := by simp [State.giveCause, hx, hs, hc]
    rw [he]
    refine ⟨⟨x, .refl hx⟩, fun hn => ?_, [], .refl _⟩
    rw [hn] at hc
    cases hc
  · let s1 := (s.modCtx (fun y => { y with causes := y.causes ++ [c] })).event (.hold c)
    let f : Context → Context := fun x =>
      { x with
        state := .holding
        inFlight := x.inFlight.map (fun e => { e with state := if e.state == .active then .halted else e.state, due := false }) }
    have he : s.giveCause c = (s1.modCtx f).haltEntries s1.inFlight := by
      simp only [State.giveCause, hx, hs, hc]
      rfl
    obtain ⟨hcalm, htracks⟩ := haltEntries_effect s1.inFlight (s1.modCtx f)
    have hlog : s.aeu.Logged (s.giveCause c).aeu [.hold c] := by
      rw [he, hcalm.aeu]
      exact event_logged (.hold c) (s.modCtx (fun y => { y with causes := y.causes ++ [c] }))
    have hosq : (s.giveCause c).osq = { s.osq with context := some (f { x with causes := x.causes ++ [c] }) } := by
      rw [he, hcalm.osq]
      simp only [s1, State.modCtx, event_osq, hx, Option.map_some]
    refine ⟨⟨_, hosq, rfl, ?_, fun m => ?_, ?_⟩, fun _ => hlog, _, hlog⟩
    · simp [f, Function.comp_def]
    · rw [he]
      exact (((State.Tracks.modCtx _ s).trans (.event _ _)).trans (.modCtx f s1)).trans (htracks m)
    · rw [he, (lst_of_fixed hcalm.fixed)]
      rfl

theorem reverseOf_congr {x y : Context} (hl : r.lst = s.lst) (hop : y.op = x.op) : r.reverseOf y = s.reverseOf x := by
  rw [State.reverseOf, layout_of_lst hl, hop]
  rfl

/-- The context after STOP_REQUEST is given to a RUNNING one; a HOLDING one is left (R135). -/
def State.beforeReversal (st : Station) (x : Context) (s : State) : State := if x.state == .running then s.giveCause (Machine.stopCause st) else s

theorem reverse_effect {st : Station} {x : Context} {o : Nat} {d : OpDef} (hx : s.osq.context = some x) (hs : x.state = .running ∨ x.state = .holding)
    (ho : s.reverseOf x = some (o, d)) :
    let e := (s.beforeReversal st x).reversal st
    e.osq = { s.osq with context := some (newContext o d st (some x.op) s.aeu.stamp) } ∧
      (x.state = .running → x.causes = [] → e.aeu.events = newestRecords (s.aeu.events ++ s.aeu.dated
        [.hold { kind := .stopRequest, subject := .station st }, .operationEnded x.op false, .reversed o x.op])) ∧
      (x.state = .holding → e.aeu.events = newestRecords (s.aeu.events ++ s.aeu.dated [.operationEnded x.op false, .reversed o x.op])) ∧
      e.todo.getLast? = some .issue ∧ ∀ n ∈ x.inFlight, ∀ m, n.motion = some m → s.Withdrawn e m := by
  intro e
  have key {r : State} {y : Context} {es : List Event} (h : s.HeldFrom r x y) (hl : s.aeu.Logged r.aeu es) := by
    have hctx : r.osq.context = some y := by rw [h.context]
    have := reversal_effect (s := s) (st := st) (fun n _ m _ => h.tracks m) hctx ((reverseOf_congr h.lst h.op).trans ho) hl
    rw [h.op, h.context] at this
    exact this
  have hmem {r : State} {y : Context} {t : State} (h : s.HeldFrom r x y) (hw : ∀ n ∈ y.inFlight, ∀ m, n.motion = some m → s.Withdrawn t m) :
      ∀ n ∈ x.inFlight, ∀ m, n.motion = some m → s.Withdrawn t m := by
    intro n hn m hm
    have hin : some m ∈ y.inFlight.map (fun n => n.motion) := by
      rw [h.motions]
      exact hm ▸ List.mem_map_of_mem hn
    obtain ⟨n', hn', hm'⟩ := List.mem_map.1 hin
    exact hw n' hn' m hm'
  rcases hs with hs | hs
  · have he : e = (s.giveCause (Machine.stopCause st)).reversal st := by simp [e, State.beforeReversal, hs]
    obtain ⟨⟨y, hheld⟩, hfirst, es, hlog⟩ := giveCause_running hx hs (Machine.stopCause st)
    obtain ⟨h1, -, h3, h4⟩ := key hheld hlog
    rw [he]
    exact ⟨h1, fun _ hc => (key hheld (hfirst hc)).2.1, fun hh => absurd (hs.symm.trans hh) (by decide), h3, hmem hheld h4⟩
  · have he : e = s.reversal st := by simp [e, State.beforeReversal, hs]
    obtain ⟨h1, h2, h3, h4⟩ := key (.refl hx) (.refl s.aeu)
    rw [he]
    exact ⟨h1, fun hh => absurd (hs.symm.trans hh) (by decide), fun _ => h2, h3, h4⟩

/-! ### The answers -/

variable {st : Station}

theorem ruleReverse_foreign (h : s.amu.holder ≠ holderOf st) : ruleReverse st s = s.refuse .refusedAuthority := by simp [ruleReverse, State.holds, h]

theorem ruleReverse_dead (h : s.amu.holder = holderOf st) (hl : s.contextLive = false) : ruleReverse st s = s.refuse .refusedState := by
  unfold State.contextLive at hl
  cases hx : s.osq.context with
  | none => simp [ruleReverse, State.holds, h, hx]
  | some x =>
    rw [hx] at hl
    have hno : (x.state != .running && x.state != .holding) = true := by
      simp only [Bool.or_eq_false_iff] at hl
      simp [bne, hl.1, hl.2]
    simp [ruleReverse, State.holds, h, hx, hno]

section
variable {x : Context} (h : s.amu.holder = holderOf st) (hx : s.osq.context = some x) (hs : x.state = .running ∨ x.state = .holding)
include h hx hs

theorem ruleReverse_live : ruleReverse st s =
    match s.reverseOf x with
    | none => s.refuse .refusedState
    | some (_, d) =>
      if !d.modes.contains s.amu.mode then s.refuse .refusedState
      else if x.has .estop && s.ost.estop == .active then s.refuse .refusedState
      else ((s.beforeReversal st x).reversal st).accept := by
  have hno : (x.state != .running && x.state != .holding) = false := by
    rcases hs with hs | hs
    · simp [hs]
    · simp [hs]
  simp only [ruleReverse, State.holds, h, hx, hno, beq_self_eq_true, Bool.not_true, Bool.false_eq_true, if_false]
  rfl

theorem ruleReverse_oneWay (ho : s.reverseOf x = none) : ruleReverse st s = s.refuse .refusedState := by rw [ruleReverse_live h hx hs, ho]

variable {o : Nat} {d : OpDef}

theorem ruleReverse_barred (ho : s.reverseOf x = some (o, d))
    (hb : s.amu.mode ∉ d.modes ∨ ((∃ c ∈ x.causes, c.kind = .estop) ∧ s.ost.estop = .active)) : ruleReverse st s = s.refuse .refusedState := by
  rw [ruleReverse_live h hx hs, ho]
  simp only
  split
  · rfl
  · rename_i hm
    rw [if_pos]
    have hstop := hb.resolve_left (by simpa using hm)
    obtain ⟨⟨c, hc, hk⟩, he⟩ := hstop
    have hany : x.has .estop = true := List.any_eq_true.2 ⟨c, hc, by simp [hk]⟩
    simp [hany, he]

theorem ruleReverse_accepted (ho : s.reverseOf x = some (o, d)) (hm : s.amu.mode ∈ d.modes)
    (hn : ¬ ((∃ c ∈ x.causes, c.kind = .estop) ∧ s.ost.estop = .active)) : ruleReverse st s = ((s.beforeReversal st x).reversal st).accept := by
  rw [ruleReverse_live h hx hs, ho]
  have hno : ¬ (x.has .estop && s.ost.estop == .active) = true := by
    simp only [Context.has, Bool.and_eq_true, List.any_eq_true, beq_iff_eq]
    exact hn
  simp only
  rw [if_neg (by simpa using hm), if_neg hno]

end

theorem ruleAbort_foreign (h : s.amu.holder ≠ holderOf st) : ruleAbort st s = s.refuse .refusedAuthority := by simp [ruleAbort, State.holds, h]

theorem ruleAbort_dead (h : s.amu.holder = holderOf st) (hl : s.contextLive = false) : ruleAbort st s = s.refuse .refusedState := by
  simp [ruleAbort, State.holds, h, hl]

theorem ruleAbort_live (h : s.amu.holder = holderOf st) {x : Context} (hx : s.osq.context = some x) (hs : x.state = .running ∨ x.state = .holding) :
    ruleAbort st s = s.abortContext.accept := by
  have hl : s.contextLive = true := by
    rcases hs with hs | hs
    · simp [State.contextLive, hx, hs]
    · simp [State.contextLive, hx, hs]
  simp [ruleAbort, State.holds, h, hl]

end

/-- A withdrawal told of a start with another holder of hold-to-run. -/
theorem State.Withdrawn.of_takeRun {s e : State} {st : Station} {run : Bool} {m : Nat} (h : (s.takeRun st run).Withdrawn e m) : s.Withdrawn e m := by
  obtain ⟨a, ha⟩ := takeRun_amu_only st run s
  rw [ha] at h
  exact ⟨h.record, h.group, h.move⟩

/-- Settles O28. -/
theorem reverseAndAbortEndTheContext : Obligations.ReverseAndAbortEndTheContext := by
  refine ⟨fun st run s hs => ?_, fun st run s hs => ?_⟩
  · have hhold := takeRun_holder st run s
    have hlive := takeRun_contextLive st run s
    refine ⟨fun hh => congrArg _ (serve_answered hs (ruleReverse_foreign (by rw [hhold]; exact hh))), fun hh => ?_⟩
    refine ⟨fun hl => congrArg _ (serve_answered hs (ruleReverse_dead (hhold.trans hh) (hlive.trans hl))), fun x hx hxs => ?_⟩
    have hx' : (s.takeRun st run).osq.context = some x := by rw [takeRun_osq]; exact hx
    have hrev : (s.takeRun st run).reverseOf x = s.reverseOf x := reverseOf_congr (takeRun_lst _ _ _) rfl
    refine ⟨fun ho => congrArg _ (serve_answered hs (ruleReverse_oneWay (hhold.trans hh) hx' hxs (hrev.trans ho))), fun r d ho => ?_⟩
    refine ⟨fun hb => congrArg _ (serve_answered hs (ruleReverse_barred (hhold.trans hh) hx' hxs (hrev.trans ho) (by rw [takeRun_mode, takeRun_ost]; exact hb))),
      fun hm hn => ?_⟩
    refine ⟨_, congrArg _ (serve_accepted hs (ruleReverse_accepted (hhold.trans hh) hx' hxs (hrev.trans ho) (by rw [takeRun_mode]; exact hm)
      (by rw [takeRun_ost]; exact hn))), ?_⟩
    obtain ⟨h1, h2, h3, h4, h5⟩ := reverse_effect (st := st) hx' hxs (hrev.trans ho)
    rw [takeRun_osq, takeRun_aeu] at h1
    rw [takeRun_aeu] at h2 h3
    refine ⟨by rw [h1]; rfl, by rw [h1], by rw [h1], h2, h3, ?_, h4, fun n hnx m hm => (h5 n hnx m hm).of_takeRun⟩
    rw [fixed_finish, fixed_reversal, State.beforeReversal]
    split
    · rw [fixed_giveCause]
    · rfl
  · have hhold := takeRun_holder st run s
    have hlive := takeRun_contextLive st run s
    refine ⟨fun hh => congrArg _ (serve_answered hs (ruleAbort_foreign (by rw [hhold]; exact hh))), fun hh => ?_⟩
    refine ⟨fun hl => congrArg _ (serve_answered hs (ruleAbort_dead (hhold.trans hh) (hlive.trans hl))), fun x hx hxs => ?_⟩
    have hx' : (s.takeRun st run).osq.context = some x := by rw [takeRun_osq]; exact hx
    refine ⟨_, congrArg _ (serve_accepted hs (ruleAbort_live (hhold.trans hh) hx' hxs)), ?_⟩
    obtain ⟨h1, h2, h3⟩ := abortContext_effect hx' hxs
    rw [takeRun_osq] at h1
    rw [takeRun_aeu] at h2
    exact ⟨h1, h2, by rw [fixed_finish, fixed_abortContext], fun n hnx m hm => (h3 n hnx m hm).of_takeRun⟩

end Sys2Proof.Machine
end

section
namespace Sys2Proof.Machine

/-! ### What a PUT of a whole record answers and stores (R183, R185) -/

theorem inRange_iff (lo hi x : Nat) : inRange lo hi x = true ↔ lo ≤ x ∧ x ≤ hi := by simp [inRange]

theorem inRange_zero (hi x : Nat) : inRange 0 hi x = decide (x ≤ hi) := by simp [inRange]

section WholeRecords
variable {s : State} {st : Station} {run : Bool} {k : Nat} {b : EditBuffer} {admits : EditBuffer → Bool} {fits : Bool} {f : Layout → Layout}

/-- The clauses that R185 gives for a whole record, in its order: no buffer, another's buffer, a TUNING buffer closed to the record, the range check. -/
structure State.PutAnswered (s t : State) (st : Station) (run : Bool) (k : Nat) (admits : EditBuffer → Bool) (fits : Bool)
    (f : Layout → Layout) : Prop where
  noBuffer : s.lst.buffer = none → t = s.answered st run k .refusedState
  foreign  : ∀ b, s.lst.buffer = some b → b.owner ≠ st → t = s.answered st run k .refusedAuthority
  region   : ∀ b, s.lst.buffer = some b → b.owner = st → b.region = .tuning → admits b = false → t = s.answered st run k .refusedState
  range    : ∀ b, s.lst.buffer = some b → b.owner = st → (b.region = .struct ∨ admits b = true) → fits = false →
    t = s.answered st run k .badValue
  stored   : ∀ b, s.lst.buffer = some b → b.owner = st → (b.region = .struct ∨ admits b = true) → fits = true →
    t = { s.takeRun st run with lst := { s.lst with buffer := some { b with content := f b.content } } }.setReply
      st (BitVec.ofNat 8 (k + 128)) .ok []

/-- A record that is stored where its fields lie in their ranges is answered in that order. -/
theorem serve_putAnswered (hr : s.Ready) (hb : s.busyPeriod = false) (k : Nat) (admits : EditBuffer → Bool) (fits : Bool) (f : Layout → Layout) :
    s.PutAnswered (s.serve st run k .setup (putWith admits (storeIf fits f) st)) st run k admits fits f := by
  have tuning {b : EditBuffer} (ha : b.region = .struct ∨ admits b = true) (hg : b.region = .tuning) : admits b = true :=
    ha.resolve_left (by simp [hg])
  refine ⟨serve_put_no_buffer hr hb k, fun b h ho => serve_put_other_owner hr hb k h ho, fun b h ho hg ha => serve_put_not_admitted hr hb k h ho hg ha,
    fun b h ho ha hf => ?_, fun b h ho ha hf => ?_⟩
  · subst hf
    exact serve_put_unstored hr hb k h ho (tuning ha) (c := b) rfl (by decide)
  · subst hf
    exact serve_put_stored hr hb k h ho (tuning ha) rfl

/-- The same of a record at an index of its table. -/
theorem serve_indexed_putAnswered (hr : s.Ready) (hb : s.busyPeriod = false) (k n i : Nat) (admits : EditBuffer → Bool) (ok : Bool) (f : Layout → Layout) :
    s.PutAnswered (s.serve st run k .setup (putWith admits (storeIf (inRange 0 n i && ok) f) st)) st run k admits (decide (i ≤ n) && ok) f := by
  rw [← inRange_zero]
  exact serve_putAnswered hr hb _ _ _ _

end WholeRecords

/-! ### The range of each field (R9) -/

theorem noRepeat_iff {α : Type} [BEq α] [LawfulBEq α] (xs : List α) : noRepeat xs = true ↔ xs.Nodup := by
  induction xs with
  | nil => simp [noRepeat]
  | cons x xs ih => simp [noRepeat, ih]

theorem transducerInRange_iff (t : Transducer) : transducerInRange t = true ↔
    (0 ≤ t.input ∧ t.input ≤ 11) ∧ (0 ≤ t.closedCount ∧ t.closedCount ≤ 4095) ∧ (0 ≤ t.openCount ∧ t.openCount ≤ 4095) := by
  simp [transducerInRange, inRange_iff, and_assoc]

/-! ### Which PUT_POINT a TUNING buffer admits (R183, R185) -/

/-- Two LOCK records agree outside the TUNING region exactly when they differ at most in the travel time limit. -/
theorem lockFixed_eq_iff (d e : LockDef) : lockFixed d = lockFixed e ↔ d = { e with travelLimit := d.travelLimit } := by
  cases d; cases e; simp [lockFixed]

/-- Two AXIS records agree outside the TUNING region exactly when they differ at most in its eleven fields. -/
theorem axisFixed_eq_iff (d e : AxisDef) : axisFixed d = axisFixed e ↔ d = { e with
    qFull := d.qFull, vMin := d.vMin, vOpen := d.vOpen, vClose := d.vClose, approach := d.approach, inPos := d.inPos
    settle := d.settle, stallDelta := d.stallDelta, stallWindow := d.stallWindow, limitOpen := d.limitOpen, limitClose := d.limitClose } := by
  cases d; cases e; simp [axisFixed]

theorem pointAdmitted_iff (i : Nat) (r : Given PointBody) (b : EditBuffer) : pointAdmitted i r b = true ↔
    ∃ p d, r = .present p ∧ tget b.content.points i = some d ∧ bodyFixed p = bodyFixed d.body := by
  cases r <;> cases h : tget b.content.points i <;> simp [pointAdmitted, h]

/-- Settles O52. -/
theorem putRecordsStore : Obligations.PutRecordsStore := by
  refine ⟨?_, ⟨?_, ?_, ?_, ?_, ?_, ?_, ?_, ?_, ?_, ?_, ?_⟩, ?_⟩
  · intro c st run k admits fits f s hr hb hc
    have answered : ∃ t, exec c s = .next t ∧ s.PutAnswered t st run k admits fits f := by
      rcases hc with ⟨h, rfl, rfl, rfl, rfl, rfl⟩ | ⟨t, rfl, rfl, rfl, rfl, rfl⟩ | ⟨i, r, rfl, rfl, rfl, rfl, rfl⟩ | ⟨i, r, rfl, rfl, rfl, rfl, hf⟩ |
        ⟨i, r, rfl, rfl, rfl, rfl, rfl⟩ | ⟨i, r, rfl, rfl, rfl, rfl, rfl⟩ | ⟨i, r, rfl, rfl, rfl, rfl, rfl⟩ | ⟨i, r, rfl, rfl, rfl, rfl, rfl⟩
      · exact ⟨_, rfl, serve_putAnswered hr hb _ _ _ _⟩
      · exact ⟨_, rfl, serve_putAnswered hr hb _ _ _ _⟩
      · exact ⟨_, rfl, serve_indexed_putAnswered hr hb _ _ _ _ _ _⟩
      · have hp : f = fun l => { l with points := tset l.points i (r.record.map (pointRecord l i)) } := by
          rw [hf]
          cases r with
          | absent => rfl
          | present p => cases p <;> rfl
          | outOfList => rfl
        rw [hp]
        exact ⟨_, rfl, serve_indexed_putAnswered hr hb _ _ _ _ _ _⟩
      · exact ⟨_, rfl, serve_indexed_putAnswered hr hb _ _ _ _ _ _⟩
      · exact ⟨_, rfl, serve_putAnswered hr hb _ _ _ _⟩
      · exact ⟨_, rfl, serve_indexed_putAnswered hr hb _ _ _ _ _ _⟩
      · exact ⟨_, rfl, serve_indexed_putAnswered hr hb _ _ _ _ _ _⟩
    obtain ⟨t, he, ht⟩ := answered
    rw [he]
    exact ⟨fun h => congrArg _ (ht.noBuffer h), fun b h => ⟨fun ho => congrArg _ (ht.foreign b h ho),
      fun ho => ⟨fun hg ha => congrArg _ (ht.region b h ho hg ha),
        fun ha => ⟨fun hf => congrArg _ (ht.range b h ho ha hf), fun hf => congrArg _ (ht.stored b h ho ha hf)⟩⟩⟩⟩
  · intro h
    simp [headerInRange, inRange_iff, and_assoc, Option.all_eq_true]
  · intro p
    simp [pumpInRange, inRange_iff, and_assoc]
  · intro d
    simp [bodyInRange, lockInRange, inRange_iff, and_assoc]
  · intro transducer d
    simp [bodyInRange, axisInRange, transducerInRange_iff, inRange_iff, and_assoc, Option.all_eq_true, transducer]
  · intro g
    simp [groupInRange, inRange_iff, and_assoc]
  · intro ts
    simp only [conditionInRange, Bool.and_eq_true, Bool.not_eq_true', List.isEmpty_eq_false_iff, List.all_eq_true, inRange_zero, decide_eq_true_eq]
    refine and_congr_right fun _ => forall₂_congr fun t _ => and_congr_right fun _ => ?_
    cases t.req <;> simp
  · intro e
    cases h : e.subject <;> simp [permInRange, h, noRepeat_iff, inRange_iff, and_assoc]
  · intro d
    simp [opInRange, printable, noRepeat_iff, inRange_iff, and_assoc, Option.all_eq_true]
  · intro t
    simp [tuningInRange, inRange_iff, and_assoc]
  · intro x
    cases h : x.kind with
    | moveAxis p target landing => cases target <;> simp [stepInRange, h, inRange_zero]
    | driveGroup g d => simp [stepInRange, h, inRange_zero]
    | floatAxis p => simp [stepInRange, h, inRange_zero]
    | wait c w limit => simp [stepInRange, h, inRange_zero]
    | pause time => simp [stepInRange, h, inRange_iff]
    | call i => simp [stepInRange, h, inRange_zero]
  · intro w
    simp [windowInRange, inRange_iff, and_assoc]
  · intro i r b
    rw [pointAdmitted_iff]
    constructor
    · rintro ⟨p, d, rfl, hd, he⟩
      cases p <;> cases d <;> simp only [PointDef.body, bodyFixed, reduceCtorEq, PointBody.lock.injEq, PointBody.axis.injEq] at he
      · exact .inl ⟨_, _, rfl, hd, (lockFixed_eq_iff _ _).1 he⟩
      · exact .inr ⟨_, _, _, rfl, hd, (axisFixed_eq_iff _ _).1 he⟩
    · rintro (⟨d, was, rfl, hd, he⟩ | ⟨d, was, ws, rfl, hd, he⟩)
      · exact ⟨_, _, rfl, hd, congrArg PointBody.lock ((lockFixed_eq_iff d was).2 he)⟩
      · exact ⟨_, _, rfl, hd, congrArg PointBody.axis ((axisFixed_eq_iff d was).2 he)⟩

end Sys2Proof.Machine
end

section
namespace Sys2Proof.Machine

/-! ### ATTITUDE_OK through the settling of reports (R44) -/

section Attitude
variable {l : Layout} {v : Vessel}

/-- Under the layout `l`, with the fresh vessel data `v`, c1 is TRUE. -/
structure State.AttitudeTrue (l : Layout) (v : Vessel) (s : State) : Prop where
  layout    : s.layout = l
  freshness : s.cev.freshness = .fresh
  vessel    : s.cev.vessel = some v
  value     : s.cond 1 = .yes

/-- An act that changes nothing of CEV and of what no report touches leaves c1. -/
theorem State.AttitudeTrue.of_cev_eq {s e : State} (h : s.AttitudeTrue l v) (hf : e.fixed = s.fixed) (hc : e.cev = s.cev) : e.AttitudeTrue l v where
  layout := (layout_of_fixed hf).trans h.layout
  freshness := (congrArg Cev.freshness hc).trans h.freshness
  vessel := (congrArg Cev.vessel hc).trans h.vessel
  value := by rw [State.cond, hc]; exact h.value

/-- The value that c1 is evaluated to. -/
theorem State.AttitudeTrue.evalCond {s : State} (h : s.AttitudeTrue l v) : s.evalCond 1 = attitudeOk l.tune v .yes := by
  simp [State.evalCond, h.freshness, h.vessel, h.value, State.tune, h.layout]

/-- Within the hysteresis band a recompute leaves c1 TRUE, whatever conditions it names. -/
theorem State.AttitudeTrue.recompute {s : State} (hk : attitudeOk l.tune v .yes = .yes) (h : s.AttitudeTrue l v) (ids : List Nat) :
    (s.recompute ids).AttitudeTrue l v := by
  obtain ⟨-, -, -, -, hfresh, hvessel, -, -⟩ := fixed_parts (fixed_recompute ids s)
  refine ⟨(layout_of_fixed (fixed_recompute ids s)).trans h.layout, hfresh.trans h.freshness, hvessel.trans h.vessel, ?_⟩
  rw [cond_recompute]
  split
  · exact h.evalCond.trans hk
  · exact h.value

theorem capacityDrop_cev (s : State) : s.capacityDrop.cev = s.cev := by
  obtain ⟨ts, h⟩ := capacityDrop_eq s
  rw [h]

theorem contactor_cev (i : Nat) (on : Bool) (s : State) : (s.contactor i on).cev = s.cev := by
  unfold State.contactor
  split <;> rfl

theorem demandProp_cev (m out x : Nat) (s : State) : (s.demandProp m out x).cev = s.cev := by
  unfold State.demandProp
  repeat' split
  all_goals rfl

theorem giveUpFlow_cev (m : Nat) (s : State) : (s.giveUpFlow m).cev = s.cev := by
  unfold State.giveUpFlow
  split <;> rfl

/-- Of CEV a pump's change of state touches c6 alone (R37). -/
theorem State.AttitudeTrue.setPump {s : State} (hk : attitudeOk l.tune v .yes = .yes) (h : s.AttitudeTrue l v) (i : Nat) (st : PumpState)
    (c : Option PumpCause) (r : Option Nat) : (s.setPump i st c r).AttitudeTrue l v := by
  unfold State.setPump
  split
  · exact h
  · rename_i p _
    dsimp only
    generalize hx : ({ s with hpa := _ } : State) = x
    have h0 : x.AttitudeTrue l v := by subst hx; exact h.of_cev_eq (fixed_hpa s _) rfl
    have h1 : ((x.contactor i (st == .starting || st == .running)).capacityDrop).AttitudeTrue l v :=
      h0.of_cev_eq (by simp) ((capacityDrop_cev _).trans (contactor_cev _ _ _))
    generalize (x.contactor i (st == .starting || st == .running)).capacityDrop = y at h1
    have h2 := h1.of_cev_eq (fixed_event (.pumpState i st (if st == .faulted then c else none)) y) rfl
    generalize y.event (.pumpState i st (if st == .faulted then c else none)) = z at h2
    have h3 : (if (st == .faulted) = true then z.raise .pumpFault i
        else if (p.state == .faulted) = true then z.clearAlarm .pumpFault i else z).AttitudeTrue l v := by
      split
      · exact h2.of_cev_eq (fixed_raise _ _ _) rfl
      · split
        · exact h2.of_cev_eq (fixed_clearAlarm _ _ _) rfl
        · exact h2
    have h4 := h3.recompute hk [6]
    split
    · exact h4
    · exact h4.of_cev_eq (fixed_emit _ _) rfl

theorem State.AttitudeTrue.pumpFeedback {s : State} (hk : attitudeOk l.tune v .yes = .yes) (h : s.AttitudeTrue l v) (i : Nat) (on : Bool) :
    (s.pumpFeedback i on).AttitudeTrue l v := by
  unfold State.pumpFeedback
  split
  · exact h
  · dsimp only
    generalize hx : ({ s with hpa := _ } : State) = x
    have h0 : x.AttitudeTrue l v := by subst hx; exact h.of_cev_eq (fixed_hpa s _) rfl
    repeat' split
    · exact h0.setPump hk _ _ _ _
    · exact h0
    · exact h0.setPump hk _ _ _ _
    · exact h0.setPump hk _ _ _ _
    · exact h0.setPump hk _ _ _ _
    · exact h0

theorem State.AttitudeTrue.grantPass {s : State} (hk : attitudeOk l.tune v .yes = .yes) (h : s.AttitudeTrue l v) : s.grantPass.AttitudeTrue l v := by
  unfold State.grantPass
  dsimp only
  generalize hx : List.foldl _ _ _ = x
  have h0 : x.AttitudeTrue l v := by
    rw [← hx, foldl_emit_eq]
    exact h.of_cev_eq rfl rfl
  split
  · exact h0.setPump hk _ _ _ _
  · exact h0

/-- Within the hysteresis band no report makes a TRUE c1 FALSE. -/
theorem attitudeTrue_keeps (hk : attitudeOk l.tune v .yes = .yes) : Keeps (State.AttitudeTrue l v) where
  todo _ _ h := h.of_cev_eq rfl rfl
  pmn _ _ h := h.of_cev_eq rfl rfl
  ldu _ _ h := h.of_cev_eq rfl rfl
  adu _ _ h := h.of_cev_eq rfl rfl
  recompute ids _ h := h.recompute hk ids
  event _ _ h := h.of_cev_eq (fixed_event _ _) rfl
  raise _ _ _ h := h.of_cev_eq (fixed_raise _ _ _) rfl
  clearAlarm _ _ _ h := h.of_cev_eq (fixed_clearAlarm _ _ _) rfl
  coil _ _ _ h := h.of_cev_eq rfl rfl
  zeroProps _ _ h := h.of_cev_eq rfl rfl
  demandProp m o x s h := h.of_cev_eq (fixed_demandProp m o x s) (demandProp_cev m o x s)
  setPump i st c r _ h := h.setPump hk i st c r
  feedback i on _ h := h.pumpFeedback hk i on
  request _ _ _ _ _ h := h.of_cev_eq rfl rfl
  giveUpFlow m s h := h.of_cev_eq (fixed_giveUpFlow m s) (giveUpFlow_cev m s)
  grantPass _ h := h.grantPass hk

theorem attitudeTrue_keepsOsq : KeepsOsq (State.AttitudeTrue l v) := fun _ _ h => h.of_cev_eq rfl rfl

end Attitude

/-! ### A STRUCTURE commit over a layout that defines c1 (R39, R44, R186)

The ended jog's flow goes to a waiting lock drive, whose coil lies in a bank that is OFF for STUCK. The COIL_FAULT follows to the conditions that name the
lock (R37); the old layout has one with the id of c1, so c1 is computed while that layout is still the active one and falls, where the new
layout's limits alone would have kept it. PUT_CONDITION stores ids 8 to 31 only (R39); the statement does not ask it of the layout that the commit finds. -/

namespace LayoutDefinesAttitude

/-- Lock `k`, with sensors and coils of its own. -/
def lockAt (k : Nat) : LockDef :=
  { role := .other, engagedIn := 2 * k, retractedIn := 2 * k + 1, engageCoil := 2 * k, retractCoil := 2 * k + 1, flow := 10, travelLimit := 50 }

/-- A tuning record with a heel limit and a hysteresis (R41). -/
def heelTuning (limit hyst : Nat) : Tuning := { noTuning with heelLimit := limit, pitchLimit := 100, attitudeHyst := hyst }

/-- A heel of 3.0 degrees: over the old layout's limit, within the new one's hysteresis band. -/
def heeling : Vessel := { heel := 30, pitch := 0, wind := 0 }

/-- The active layout: two locks, and a condition with id 1 that names the second. -/
def before : Layout :=
  { tuning := some (heelTuning 20 5), points := [(0, .lock (lockAt 0)), (1, .lock (lockAt 1))]
    conditions := [(1, [{ point := 1, req := .engaged }])] }

/-- The layout being written. -/
def after : Layout := { tuning := some (heelTuning 40 20) }

/-- The drive of the second lock, waiting for flow as motion 0. -/
def waitingDrive : GroupMotion :=
  { owner := { list := 0, index := 0 }, group := 0, dir := .engage, requested := 10, policy := .carryOn, retryLimit := 0, backOff := 3
    members := [{ point := 1, limit := 50 }] }

/-- The part as the write of `after` ends: c1 is TRUE, a jog of the first lock holds flow, and motion 0 waits for it with its bank OFF for STUCK. -/
def writing : State :=
  { State.reset with
    pmn := { points := [(0, .lock { reserved := some 7 }), (1, .lock { reserved := some 0 })] }
    cev := { conds := (List.replicate 32 .unknown).set 1 .yes, vessel := some heeling, freshness := .fresh, started := true }
    hpa :=
      { pumps := [(0, { capacity := 40, startTime := 20, state := .running })]
        requests := [{ motion := 0, cls := .locking, requested := 10, minimum := 10, stamp := 1, wait := 50 }]
        grants := [{ motion := 7, cls := .locking, flow := 10, requested := 10, minimum := 10, stamp := 0 }] }
    ldu := { motions := [(0, waitingDrive)] }
    osq := { jog := some { point := 0, dir := .lock .engage, station := .bridge, phase := .driving, duration := 10 } }
    ost := Ost.takeOwners before { banks := { stuck := true } :: List.replicate 5 {} }
    lst := { phase := .configured, active := some before, commit := .writing, pendingLayout := some (.struct, after) } }

theorem writing_ready : writing.Ready := ⟨rfl, rfl⟩

theorem exec_writing : exec .layoutWriteEnd writing = .next (finish writing.writeEnd) := by
  change Host.Outcome.next (writing.act State.writeEnd) = _
  rw [State.act, if_neg (by decide)]

/-- c1 ends FALSE, with the vessel data as they were. -/
theorem attitude_falls : (finish writing.writeEnd).cond 1 = .no ∧ (finish writing.writeEnd).cev.freshness = .fresh ∧
    (finish writing.writeEnd).cev.vessel = some heeling := by decide +kernel

/-- The state before the commit, with the new layout, gives c1 the value TRUE. -/
theorem attitude_kept (x : Lst) (hx : x.active = some after) : ({ writing with lst := x } : State).evalCond 1 = .yes := by
  have : ({ writing with lst := x } : State).tune = heelTuning 40 20 := by simp [State.tune, State.layout, hx, after, Layout.tune]
  simp only [State.evalCond, this]
  change attitudeOk (heelTuning 40 20) heeling .yes = .yes
  decide

/-- No state that settles to the outcome has c1 TRUE. -/
theorem attitude_not_true {e : State} (he : finish e = finish writing.writeEnd) (ha : (finish e).lst.active = some after) : e.cond 1 ≠ .yes := by
  intro hc
  obtain ⟨hfalls, hfreshEnd, hvesselEnd⟩ := attitude_falls
  have hfix : (finish writing.writeEnd).fixed = e.fixed := by rw [← he, fixed_finish]
  obtain ⟨-, -, -, -, hfresh, hvessel, -, -⟩ := fixed_parts hfix
  have hlayout : e.layout = after := by
    rw [← layout_of_fixed (fixed_finish e), State.layout, ha]
    rfl
  have start : e.AttitudeTrue after heeling := ⟨hlayout, hfresh.symm.trans hfreshEnd, hvessel.symm.trans hvesselEnd, hc⟩
  have hend := (attitudeTrue_keeps (by decide)).finish attitudeTrue_keepsOsq start
  rw [he] at hend
  exact absurd (hfalls.symm.trans hend.value) (by decide)

end LayoutDefinesAttitude

/-- Refutes O51: at a STRUCTURE commit c1 need not follow from its value before the commit and the new layout, because the reports that the ended jog sets going are
settled first, under the old layout, and recompute c1 where that layout defines a condition with its id. -/
theorem not_committedLayoutIsConsistentAndActive : ¬ Obligations.CommittedLayoutIsConsistentAndActive := by
  rintro ⟨-, -, hwrite⟩
  obtain ⟨-, -, hstruct⟩ := hwrite LayoutDefinesAttitude.writing LayoutDefinesAttitude.writing_ready
  obtain ⟨e, he, -, hactive, -, -, -, -, -, -, -, -, -, -, -, -, -, -, -, -, -, -, -, -, -, -, -, -, -, hcond, -, -⟩ := hstruct LayoutDefinesAttitude.after rfl rfl
  have hsame : finish e = finish LayoutDefinesAttitude.writing.writeEnd := by
    have := he.symm.trans LayoutDefinesAttitude.exec_writing
    injection this
  obtain ⟨hc, -⟩ := hcond rfl rfl
  exact LayoutDefinesAttitude.attitude_not_true hsame hactive (hc.trans (LayoutDefinesAttitude.attitude_kept _ hactive))

end Sys2Proof.Machine
end

section
namespace Sys2Proof.Machine

/-! ### Who is in charge: the holder, hold-to-run, mode, consent and the edit buffer -/

/-- What authority rests on: AMU and the edit buffer as they stand. -/
def State.rights (s : State) : Amu × Option EditBuffer := (s.amu, s.lst.buffer)

theorem rights_of_fixed {s e : State} (h : e.fixed = s.fixed) : e.rights = s.rights := by
  rw [State.rights, amu_of_fixed h, lst_of_fixed h, State.rights]

theorem rights_of_same {s e : State} (ha : e.amu = s.amu) (hl : e.lst = s.lst) : e.rights = s.rights := by rw [State.rights, ha, hl, State.rights]

theorem rights_foldl {α : Type} {f : State → α → State} (h : ∀ x a, (f x a).rights = x.rights) (l : List α) (s : State) : (l.foldl f s).rights = s.rights := by
  induction l generalizing s with
  | nil => rfl
  | cons a l ih => exact (ih _).trans (h s a)

theorem rights_ite {c : Prop} [Decidable c] {x y : State} {r : Amu × Option EditBuffer} (hx : x.rights = r) (hy : y.rights = r) :
    (if c then x else y).rights = r := by
  split <;> assumption

theorem State.AuthorityOk.congr {s e : State} (h : s.AuthorityOk) (he : e.rights = s.rights) : e.AuthorityOk := by
  obtain ⟨ha, hb⟩ := Prod.mk.inj he
  obtain ⟨hc, hr, ho, hg⟩ := h
  exact ⟨ha ▸ hc, ha ▸ hr, ha ▸ hb ▸ ho, ha ▸ hb ▸ hg⟩

/-- Where the edit buffer is closed, consent and hold-to-run alone are asked. -/
theorem State.AuthorityOk.of_closed {s : State} (hb : s.lst.buffer = none) (hc : s.amu.consent = true → s.amu.mode = .harbour)
    (hr : s.amu.runTimer ≠ none → s.amu.holder ≠ .none) : s.AuthorityOk :=
  ⟨hc, hr, fun b h => by simp [hb] at h, fun b h => by simp [hb] at h⟩

theorem regionAdmitted_iff (r : Region) (m : Mode) : regionAdmitted r m = true ↔ match r with
    | .tuning => m ≠ .sea
    | .struct => m = .maintenance := by
  cases r <;> cases m <;> decide

/-- The act keeps what `AuthorityOk` says. -/
def KeepsAuthority (f : State → State) : Prop := ∀ s : State, s.AuthorityOk → (f s).AuthorityOk

theorem KeepsAuthority.of_rights {f : State → State} (h : ∀ s, (f s).rights = s.rights) : KeepsAuthority f := fun s hs => hs.congr (h s)

theorem finish_keepsAuthority : KeepsAuthority finish := .of_rights fun s => rights_of_fixed (fixed_finish s)

theorem act_keepsAuthority {f : State → State} (h : KeepsAuthority f) : KeepsAuthority (fun s => s.act f) := by
  intro s hs
  simp only [State.act]
  split
  · exact hs
  · exact finish_keepsAuthority _ (h s hs)

/-! ### Holder, mode and consent -/

/-- LST drops the edit buffer that a test names, if it is open (R184). -/
theorem dropBuffer_if (p : EditBuffer → Bool) (s : State) :
    (if s.lst.buffer.any p then s.dropBuffer else s) = { s with lst := { s.lst with buffer := s.lst.buffer.filter (fun b => !p b) } } := by
  obtain ⟨sli, amu, isc, pmn, cev, hpa, ldu, adu, osq, ost, aeu, ⟨phase, stored, active, tag, buffer, commit, pendingLayout⟩, held, todo, free, pending⟩ := s
  cases buffer with
  | none => rfl
  | some b => cases hp : p b <;> simp [Option.filter, hp, State.dropBuffer]

theorem dropBufferOf_eq (st : Station) (s : State) :
    s.dropBufferOf st = { s with lst := { s.lst with buffer := s.lst.buffer.filter (fun b => b.owner != st) } } :=
  dropBuffer_if (fun b => b.owner == st) s

/-- The holder passes, with hold-to-run stopped (R178). -/
def State.passTo (new : Holder) (s : State) : State := { s with amu := { s.amu with holder := new, runTimer := none } }

theorem changeHolder_same {s : State} {new : Holder} (h : new = s.amu.holder) : s.changeHolder new = s := by simp [State.changeHolder, h]

/-- Authority passes away from a station (R178). -/
theorem changeHolder_from {s : State} {new : Holder} {st : Station} (h : s.amu.holder = holderOf st) (hn : new ≠ holderOf st) :
    s.changeHolder new = (((s.passTo new).event (.authorityChanged new (holderOf st))).authorityLost st).dropBufferOf st := by
  have hs : (holderOf st).station? = some st := by cases st <;> rfl
  have hne : (new == holderOf st) = false := by simp [hn]
  simp only [State.changeHolder, h, hs, hne]
  rfl

/-- A station gains authority that none held (R177). -/
theorem changeHolder_gain {s : State} {new : Holder} (h : s.amu.holder = .none) (hn : new ≠ .none) :
    s.changeHolder new = (s.passTo new).event (.authorityChanged new .none) := by
  have hne : (new == Holder.none) = false := by simp [hn]
  simp only [State.changeHolder, h, hne]
  rfl

/-- What a change of holder leaves of what no report touches (R178). -/
theorem fixed_changeHolder_from {s : State} {new : Holder} {st : Station} (h : s.amu.holder = holderOf st) (hn : new ≠ holderOf st) :
    (s.changeHolder new).fixed =
      { s.fixed with
        amu := { s.amu with holder := new, runTimer := none }
        lst := { s.lst with buffer := s.lst.buffer.filter (fun b => b.owner != st) } } := by
  have hk : (((s.passTo new).event (.authorityChanged new (holderOf st))).authorityLost st).fixed = (s.passTo new).fixed := by simp
  rw [changeHolder_from h hn, dropBufferOf_eq]
  have hl := lst_of_fixed hk
  generalize ((s.passTo new).event (.authorityChanged new (holderOf st))).authorityLost st = x at hk hl
  have : ({ x with lst := { x.lst with buffer := x.lst.buffer.filter (fun b => b.owner != st) } } : State).fixed =
      { x.fixed with lst := { x.lst with buffer := x.lst.buffer.filter (fun b => b.owner != st) } } := rfl
  rw [this, hk, hl]
  rfl

theorem holderOf_injective {a b : Station} (h : holderOf a = holderOf b) : a = b := by
  cases a <;> cases b
  · rfl
  · cases h
  · cases h
  · rfl

theorem holderOf_ne_none (st : Station) : holderOf st ≠ .none := by cases st <;> simp [holderOf]

theorem holder_cases (h : Holder) : h = .none ∨ ∃ st, h = holderOf st := by
  cases h
  · exact .inl rfl
  · exact .inr ⟨.bridge, rfl⟩
  · exact .inr ⟨.stand, rfl⟩

/-- A change of holder closes the buffer, since it was the old holder's, and stops hold-to-run (R178). -/
theorem changeHolder_keepsAuthority (new : Holder) : KeepsAuthority (State.changeHolder new) := by
  intro s hs
  by_cases hne : new = s.amu.holder
  · rwa [changeHolder_same hne]
  rcases holder_cases s.amu.holder with h | ⟨st, h⟩
  · have hb : s.lst.buffer = none := by
      cases hb : s.lst.buffer with
      | none => rfl
      | some b => exact absurd ((hs.owner b hb).symm.trans h) (holderOf_ne_none _)
    rw [changeHolder_gain h (h ▸ hne)]
    exact .of_closed hb hs.consent (fun hr => absurd rfl hr)
  · have hf := fixed_changeHolder_from h (h ▸ hne)
    have ha := congrArg Fixed.amu hf
    have hl := congrArg Fixed.lst hf
    simp only [State.fixed] at ha hl
    have hb : (s.changeHolder new).lst.buffer = none := by
      rw [hl]
      simp only [Option.filter_eq_none_iff]
      intro b hb
      simp [holderOf_injective ((hs.owner b hb).symm.trans h)]
    exact .of_closed hb (by rw [ha]; exact hs.consent) (by rw [ha]; exact fun hr => absurd rfl hr)

theorem takeRun_keepsAuthority (st : Station) (run : Bool) : KeepsAuthority (State.takeRun st run) := by
  intro s hs
  unfold State.takeRun
  split
  · rename_i h
    have hh : s.amu.holder = holderOf st := holds_iff.1 (by simp at h; exact h.2)
    exact ⟨hs.consent, fun _ => hh ▸ holderOf_ne_none st, hs.owner, hs.region⟩
  · exact hs

/-- AMU sets consent; what no report touches is else as it was (R46). -/
theorem fixed_setConsent (on : Bool) (s : State) : (s.setConsent on).fixed = { s.fixed with amu := { s.amu with consent := on } } := by
  unfold State.setConsent
  split
  · rename_i h
    rw [← eq_of_beq h]
    rfl
  · rw [fixed_recompute]
    rfl

theorem setConsent_keepsAuthority {on : Bool} {s : State} (h : on = true → s.amu.mode = .harbour) (hs : s.AuthorityOk) : (s.setConsent on).AuthorityOk := by
  have hf := fixed_setConsent on s
  have ha := amu_of_fixed (s := { s with amu := { s.amu with consent := on } }) hf
  have hl := lst_of_fixed (s := { s with amu := { s.amu with consent := on } }) hf
  exact State.AuthorityOk.congr (s := { s with amu := { s.amu with consent := on } }) ⟨h, hs.run, hs.owner, hs.region⟩ (rights_of_same ha hl)

/-! ### The parts of a change of mode (R158) -/

theorem clearKind_induction {P : Aeu → Prop} (h : ∀ a k i, P a → P (a.clear k i)) (k : AlarmKind) {a : Aeu} (ha : P a) : P (a.clearKind k) := by
  unfold Aeu.clearKind
  generalize (a.alarms.filter (fun e => e.kind == k)).map (fun e => e.subject) = l
  induction l generalizing a with
  | nil => exact ha
  | cons i l ih => exact ih (h a k i ha)

theorem clearKind_stamp (k : AlarmKind) (a : Aeu) : (a.clearKind k).stamp = a.stamp :=
  clearKind_induction (P := fun b => b.stamp = a.stamp) (fun b k i h => (Aeu.clear_stamp k i b).trans h) k rfl

theorem clearKind_demanding (k : AlarmKind) (a : Aeu) : (a.clearKind k).demanding = a.demanding :=
  clearKind_induction (P := fun b => b.demanding = a.demanding) (fun b k i h => (Aeu.clear_demanding k i b).trans h) k rfl

/-- The mode and consent are set and c3 and c7 follow, then MODE_CHANGED is recorded. -/
def State.modeEntered (new : Mode) (s : State) : State :=
  (State.recompute [3, 7] { s with amu := { s.amu with mode := new, consent := false } }).event (.modeChanged new s.amu.mode)

/-- At sea the POINT_FAULT alarm of every faulted point is raised. -/
def State.faultsRaised (new : Mode) (s : State) : State :=
  if new == .sea then s.faultedPoints.foldl (fun x p => x.raise .pointFault p) s else s

/-- On leaving SEA the conditions of its supervision have cleared. -/
def State.seaLeft (old new : Mode) (s : State) : State :=
  if old == .sea && new != .sea then s.withAeu (fun a => (a.clearKind .closureLost).clearKind .lockMovedAtSea) else s

/-- LST drops the edit buffer whose region a mode leaves closed (R184). -/
def State.dropUnadmitted (new : Mode) (s : State) : State :=
  if s.lst.buffer.any (fun b => !regionAdmitted b.region new) then s.dropBuffer else s

theorem changeMode_eq (new : Mode) (s : State) :
    s.changeMode new = ((((s.modeEntered new).faultsRaised new).supervise).seaLeft s.amu.mode new).dropUnadmitted new := rfl

theorem dropUnadmitted_eq (new : Mode) (s : State) :
    s.dropUnadmitted new = { s with lst := { s.lst with buffer := s.lst.buffer.filter (fun b => regionAdmitted b.region new) } } := by
  rw [State.dropUnadmitted, dropBuffer_if]
  simp

@[simp] theorem fixed_faultsRaised (new : Mode) (s : State) : (s.faultsRaised new).fixed = s.fixed := by
  unfold State.faultsRaised
  split <;> simp

@[simp] theorem fixed_seaLeft (old new : Mode) (s : State) : (s.seaLeft old new).fixed = s.fixed := by
  unfold State.seaLeft
  split
  · exact fixed_withAeu _ _ (by simp [clearKind_stamp]) (by simp [clearKind_demanding])
  · rfl

/-- What a change of mode leaves of what no report touches (R158, R184). -/
theorem fixed_changeMode (new : Mode) (s : State) : (s.changeMode new).fixed =
    { s.fixed with
      amu := { s.amu with mode := new, consent := false }
      lst := { s.lst with buffer := s.lst.buffer.filter (fun b => regionAdmitted b.region new) } } := by
  have hk : ((((s.modeEntered new).faultsRaised new).supervise).seaLeft s.amu.mode new).fixed =
      ({ s with amu := { s.amu with mode := new, consent := false } } : State).fixed := by
    rw [fixed_seaLeft, fixed_supervise, fixed_faultsRaised, State.modeEntered, fixed_event, fixed_recompute]
  rw [changeMode_eq, dropUnadmitted_eq]
  have hl := lst_of_fixed hk
  generalize (((s.modeEntered new).faultsRaised new).supervise).seaLeft s.amu.mode new = x at hk hl
  have : ({ x with lst := { x.lst with buffer := x.lst.buffer.filter (fun b => regionAdmitted b.region new) } } : State).fixed =
      { x.fixed with lst := { x.lst with buffer := x.lst.buffer.filter (fun b => regionAdmitted b.region new) } } := rfl
  rw [this, hk, hl]
  rfl

theorem changeMode_keepsAuthority (new : Mode) : KeepsAuthority (State.changeMode new) := by
  intro s hs
  have hf := fixed_changeMode new s
  have ha := congrArg Fixed.amu hf
  have hl := congrArg Fixed.lst hf
  simp only [State.fixed] at ha hl
  have hb {b : EditBuffer} (h : (s.changeMode new).lst.buffer = some b) : s.lst.buffer = some b ∧ regionAdmitted b.region new = true := by
    rw [hl] at h
    simpa [Option.filter_eq_some_iff] using h
  refine ⟨?_, ?_, fun b h => ?_, fun b h => ?_⟩
  · rw [ha]
    simp
  · rw [ha]
    exact hs.run
  · rw [ha]
    exact hs.owner b (hb h).1
  · rw [ha]
    have := (regionAdmitted_iff b.region new).1 (hb h).2
    cases hr : b.region <;> simpa [hr] using this

end Sys2Proof.Machine
end

section
namespace Sys2Proof.Machine

/-! ### Acts that leave AMU and the edit buffer alone -/

theorem State.ActsTo.rights {s e : State} (h : s.ActsTo e) : e.rights = s.rights := rights_of_fixed h.fixed

@[simp] theorem rights_emit (t : Task) (s : State) : (emit t s).rights = s.rights := rfl
@[simp] theorem rights_withAeu (f : Aeu → Aeu) (s : State) : (s.withAeu f).rights = s.rights := rfl
@[simp] theorem rights_event (e : Event) (s : State) : (s.event e).rights = s.rights := rfl
@[simp] theorem rights_raise (k : AlarmKind) (i : Nat) (s : State) : (s.raise k i).rights = s.rights := rfl
@[simp] theorem rights_clearAlarm (k : AlarmKind) (i : Nat) (s : State) : (s.clearAlarm k i).rights = s.rights := rfl
@[simp] theorem rights_modOst (f : Ost → Ost) (s : State) : (s.modOst f).rights = s.rights := rfl
@[simp] theorem rights_modLink (s : State) (st : Station) (f : Link → Link) : (s.modLink st f).rights = s.rights := by cases st <;> rfl
@[simp] theorem rights_recompute (ids : List Nat) (s : State) : (s.recompute ids).rights = s.rights := rights_of_fixed (fixed_recompute ids s)
@[simp] theorem rights_recordFault (i : Nat) (c : FaultCode) (s : State) : (s.recordFault i c).rights = s.rights := rights_of_fixed (fixed_recordFault i c s)
@[simp] theorem rights_setPump (i : Nat) (st : PumpState) (c : Option PumpCause) (r : Option Nat) (s : State) :
    (s.setPump i st c r).rights = s.rights := rights_of_fixed (fixed_setPump i st c r s)

/-! #### Sensing -/

theorem rights_firstScan (s : State) : s.firstScan.rights = s.rights := by
  by_cases h : s.scans
  · have hf := firstScan_fixed h
    rw [State.rights, show s.firstScan.amu = s.amu from congrArg Fixed.amu hf, show s.firstScan.lst = s.lst from congrArg Fixed.lst hf, State.rights]
  · rw [firstScan_of_not h]

theorem rights_handDiscrete_firstScan (field feedback : List Nat) (s : State) : ((s.handDiscrete field feedback).firstScan).rights = s.rights :=
  (rights_firstScan _).trans (State.ActsTo.handDiscrete field feedback s).rights

theorem rights_discreteSample (on : List DiscreteInput) (s : State) : (s.discreteSample on).rights = s.rights := rights_handDiscrete_firstScan _ _ _

theorem rights_debouncedChange (changes : List (DiscreteInput × Bool)) (s : State) : (s.debouncedChange changes).rights = s.rights :=
  rights_handDiscrete_firstScan _ _ _

theorem rights_analogSample (input count : Nat) (s : State) : (s.analogSample input count).rights = s.rights := by
  unfold State.analogSample
  split
  · rfl
  · exact rights_ite ((rights_firstScan _).trans (State.ActsTo.handAnalog _ input).rights) rfl

theorem rights_recovered (input : Nat) (s : State) : (s.recovered input).rights = s.rights := by
  unfold State.recovered
  split
  · rfl
  · exact rights_ite (State.ActsTo.handAnalog _ input).rights rfl

theorem rights_conflictOut (i : Nat) (s : State) : (s.conflictOut i).rights = s.rights := by
  unfold State.conflictOut
  split
  · exact rights_ite ((rights_recordFault _ _ _).trans (rights_of_fixed (fixed_modLock _ _ s))) rfl
  · rfl

theorem rights_staleOut (s : State) : s.staleOut.rights = s.rights := by
  unfold State.staleOut
  exact rights_ite (by rw [rights_raise, rights_recompute]; rfl) rfl

/-! #### Pumps and flow -/

theorem rights_startExpiry (i : Nat) (s : State) : (s.startExpiry i).rights = s.rights := by
  unfold State.startExpiry
  split
  · exact rights_ite (rights_setPump ..) rfl
  · rfl

theorem rights_runDownExpiry (i : Nat) (s : State) : (s.runDownExpiry i).rights = s.rights := by
  unfold State.runDownExpiry
  split
  · exact rights_ite (rights_ite (rights_setPump ..) rfl) rfl
  · rfl

theorem rights_idleOut (s : State) : s.idleOut.rights = s.rights := rights_ite (rights_of_fixed (fixed_stopPumps s)) rfl

theorem rights_flowWaitOut (m : Nat) (s : State) : (s.flowWaitOut m).rights = s.rights :=
  rights_ite (rights_of_fixed (by rw [fixed_noFlow, fixed_giveUpFlow])) rfl

theorem rights_hpaStop (s : State) : s.hpaStop.rights = s.rights :=
  (rights_of_fixed (fixed_stopPumps _)).trans (rights_foldl (fun x _ => rights_emit _ x) _ _)

/-! #### Outputs and the emergency stop -/

theorem rights_coilLatch (out : Nat) (f : CoilState) (s : State) : (s.coilLatch out f).rights = s.rights := by
  unfold State.coilLatch
  split
  · rw [rights_recordFault, rights_modOst]
  · rfl

theorem rights_propLatch (out : Nat) (f : PropState) (s : State) : (s.propLatch out f).rights = s.rights := by
  unfold State.propLatch
  split
  · refine rights_ite ?_ rfl
    dsimp only
    split
    · rw [rights_recordFault, rights_modOst]
    · rfl
  · rfl

theorem rights_propOpen (out : Nat) (s : State) : (s.propOpen out).rights = s.rights := rights_ite (rights_propLatch ..) rfl

theorem State.CoilFaults.rights {s e : State} (h : s.CoilFaults e) : e.rights = s.rights := rights_of_same h.amu (congrArg Fixed.lst h.fixed)

theorem rights_foundStuck (outs : List Nat) (s : State) : (s.foundStuck outs).rights = s.rights :=
  rights_foldl (f := fun x (e : Nat × Nat) => x.coilStuck e.1 e.2) (fun x e => (State.CoilFaults.coilStuck e.1 e.2 x).rights) _ s

theorem rights_darkPulse (out milliamps : Nat) (s : State) : (s.darkPulse out milliamps).rights = s.rights := by
  unfold State.darkPulse
  split
  · exact rights_ite (State.CoilFaults.coilStuck ..).rights rfl
  · rfl

theorem rights_estopActive (s : State) : s.estopActive.rights = s.rights := by
  unfold State.estopActive
  rw [rights_event, rights_raise, rights_recompute, rights_of_fixed (fixed_osqStop _), rights_hpaStop, rights_modOst]

theorem rights_firstReport (a b : Bool) (s : State) : (s.firstReport a b).rights = s.rights :=
  rights_ite (rights_ite (rights_estopActive _) (rights_recompute ..)) rfl

theorem rights_channelChange (second opened : Bool) (s : State) : (s.channelChange second opened).rights = s.rights :=
  rights_ite (rights_estopActive _) rfl

theorem rights_discrepancyOut (s : State) : s.discrepancyOut.rights = s.rights := rights_ite rfl rfl

theorem rights_estopOver (s : State) : s.estopOver.rights = s.rights := by
  unfold State.estopOver
  rw [rights_event]
  exact rights_ite (by rw [rights_clearAlarm, rights_clearAlarm, rights_recompute]; rfl) (by rw [rights_clearAlarm, rights_recompute]; rfl)

theorem rights_releaseLatches (coil prop : Nat → Bool) (s : State) : (s.releaseLatches coil prop).rights = s.rights := by
  rw [(releaseLatches_releases coil prop s).frame]
  rfl

theorem rights_clearPoint (p : Nat) (s : State) : (s.clearPoint p).rights = s.rights := by
  rw [clearPoint_eq, (State.ActsTo.tellCleared p _ _).rights]
  exact rights_releaseLatches _ _ (s.unfault p)

/-! #### Operations and the jog -/

theorem rights_startContext (op : Nat) (d : OpDef) (st : Station) (s : State) : (s.startContext op d st).rights = s.rights := rfl

theorem rights_startJog (st : Station) (p : Nat) (dir : JogDir) (n : Nat) (s : State) : (s.startJog st p dir n).rights = s.rights := by
  unfold State.startJog
  refine rights_ite rfl ?_
  split
  · rename_i s1 h
    have hc := rights_of_fixed (fixed_claim _ _ h)
    exact (rights_of_fixed (fixed_request ..)).trans hc
  · rfl

/-! #### The layout store -/

theorem rights_firstCompute (s : State) : s.firstCompute.rights = s.rights := rights_recompute _ _

theorem rights_endCheck (s : State) : s.endCheck.rights = s.rights :=
  rights_ite ((rights_withAeu _ _).trans (rights_ite rfl (rights_firstCompute _))) rfl

theorem rights_activate (r : Region) (l : Layout) (s : State) : (s.activate r l).rights = s.rights := rfl

theorem rights_commitTuning (l : Layout) (s : State) : (s.commitTuning l).rights = s.rights :=
  rights_ite (rights_recompute ..) (rights_recompute ..)

theorem rights_clearFaults (s : State) : s.clearFaults.rights = s.rights := by
  refine (rights_foldl (fun x e => ?_) _ _).trans rfl
  dsimp only
  split
  · exact rights_ite ((rights_clearAlarm _ _ _).trans (rights_ite rfl rfl)) (rights_ite rfl rfl)
  · exact rights_ite rfl rfl

theorem rights_takeFloats (old new : Layout) (s : State) : (s.takeFloats old new).rights = s.rights := by
  unfold State.takeFloats
  exact rights_foldl (f := fun x i => ({ x with adu := { x.adu with floats := tdel x.adu.floats i } }.clearAlarm .floatLimit i).clearAlarm .rampLiftoff i)
    (fun _ _ => rfl) _ s

theorem rights_handFloats (s : State) : s.handFloats.rights = s.rights :=
  rights_foldl (f := fun x (e : Nat × FloatRec) => x.handFloat e.1) (fun x e => (State.ActsTo.handFloat e.1 x).rights) _ s

theorem rights_takePumps (l : Layout) (s : State) : (s.takePumps l).rights = s.rights :=
  (rights_of_fixed (fixed_capacityDrop _)).trans
    (rights_foldl (f := fun x i => (x.stopPump i).clearAlarm .pumpFault i) (fun x i => rights_of_fixed (by rw [fixed_clearAlarm, fixed_stopPump])) _ s)

/-- What the blocks take from a new structure once authority has passed to none (R186). -/
def State.structureTaken (old l : Layout) (s : State) : State :=
  let s1 : State := { s.clearFaults with isc := s.clearFaults.isc.take l s.clearFaults.isc.scanPending }
  ((((((s1.takeFloats old l).takePoints l).handFloats).takePumps l).modOst (Ost.takeOwners l)).releaseLatches (fun _ => true) (fun _ => true)).recompute
    (List.range 32)

theorem commitStruct_eq (l : Layout) (s : State) : s.commitStruct l =
    (((finish (s.abortContext.endJog .authorityLost)).activate .struct l).changeHolder .none).structureTaken s.layout l := rfl

theorem rights_structureTaken (old l : Layout) (s : State) : (s.structureTaken old l).rights = s.rights := by
  unfold State.structureTaken
  rw [rights_recompute, rights_releaseLatches, rights_modOst, rights_takePumps, rights_handFloats]
  exact (rights_takeFloats old l _).trans (rights_clearFaults s)

theorem commitStruct_keepsAuthority (l : Layout) : KeepsAuthority (State.commitStruct l) := by
  intro s hs
  have hend : (finish (s.abortContext.endJog .authorityLost)).rights = s.rights :=
    rights_of_fixed (by rw [fixed_finish, fixed_endJog, fixed_abortContext])
  rw [commitStruct_eq]
  exact (changeHolder_keepsAuthority .none _ (hs.congr ((rights_activate _ _ _).trans hend))).congr (rights_structureTaken s.layout l _)

theorem firstCommit_keepsAuthority : KeepsAuthority State.firstCommit := fun s hs =>
  (changeMode_keepsAuthority .harbour { s with lst := { s.lst with phase := .configured } } (hs.congr rfl)).congr rfl

theorem writeEnd_keepsAuthority : KeepsAuthority State.writeEnd := by
  intro s hs
  unfold State.writeEnd
  split
  · exact hs.congr (rights_commitTuning _ s)
  · dsimp only
    split
    · exact firstCommit_keepsAuthority _ (commitStruct_keepsAuthority _ s hs)
    · exact commitStruct_keepsAuthority _ s hs
  · exact hs

/-! #### Links, time and resets -/

theorem linkSilent_keepsAuthority (st : Station) : KeepsAuthority (State.linkSilent st) := by
  intro s hs
  unfold State.linkSilent
  split
  · have h1 := hs.congr (rights_modLink s st (fun l => { l with silence := none, active := false }))
    dsimp only
    generalize s.modLink st (fun l => { l with silence := none, active := false }) = r at h1
    have h2 : (if r.holds st then r.changeHolder .none else r).AuthorityOk := by
      split
      · exact changeHolder_keepsAuthority .none r h1
      · exact h1
    cases st with
    | bridge => exact (setConsent_keepsAuthority (by simp) h2).congr (rights_raise _ _ _)
    | stand => exact h2
  · exact hs

theorem runOut_keepsAuthority : KeepsAuthority State.runOut := by
  intro s hs
  unfold State.runOut
  split
  · exact State.AuthorityOk.congr (s := { s with amu := { s.amu with runTimer := none } }) ⟨hs.consent, fun h => absurd rfl h, hs.owner, hs.region⟩
      (rights_of_fixed (fixed_runLapsed _))
  · exact hs

theorem rights_linkHeard (st : Station) (s : State) : (s.linkHeard st).rights = s.rights := by
  cases st with
  | bridge => exact rights_ite rfl rfl
  | stand => rfl

theorem tick_keepsAuthority : KeepsAuthority State.tick := by
  intro s hs
  unfold State.tick
  dsimp only
  split
  · exact hs.congr rfl
  · refine ⟨hs.consent, fun h => hs.run fun hn => h ?_, hs.owner, hs.region⟩
    show tickTimer s.amu.runTimer = none
    rw [hn]
    rfl

theorem restart_keepsAuthority (k : ResetKind) (straps : Straps) : KeepsAuthority (State.restart k straps) := fun s _ =>
  .of_closed rfl (fun h => by cases h) (fun h => absurd rfl h)

end Sys2Proof.Machine
end

section
namespace Sys2Proof.Machine

/-! ### Records -/

/-- The rule of a record keeps what `AuthorityOk` says. -/
def RuleKeepsAuthority (rule : State → Answer) : Prop := ∀ s : State, s.AuthorityOk → (rule s).1.AuthorityOk

theorem RuleKeepsAuthority.of_rights {rule : State → Answer} (h : ∀ s, (rule s).1.rights = s.rights) : RuleKeepsAuthority rule := fun s hs => hs.congr (h s)

theorem setReply_keepsAuthority (st : Station) (k : Byte) (r : Result) (f : List Byte) : KeepsAuthority (State.setReply st k r f) :=
  .of_rights fun s => rights_modLink s st _

theorem serve_keepsAuthority {rule : State → Answer} (h : RuleKeepsAuthority rule) (st : Station) (run : Bool) (k : Nat) (v : Service) :
    KeepsAuthority (fun s => s.serve st run k v rule) := by
  intro s hs
  have h0 := takeRun_keepsAuthority st run s hs
  simp only [State.serve]
  split
  · exact hs
  · refine setReply_keepsAuthority _ _ _ _ _ (finish_keepsAuthority _ ?_)
    split
    · exact h0
    · split
      · exact h0
      · exact h _ h0

theorem badRecord_keepsAuthority (st : Station) (k : Byte) : KeepsAuthority (State.badRecord st k) := fun s hs => setReply_keepsAuthority _ _ _ _ s hs

/-! #### Authority, mode, consent and vessel data -/

theorem ruleClaim_keepsAuthority (st : Station) (tag : Word32) : RuleKeepsAuthority (ruleClaim st tag) := by
  intro s hs
  unfold ruleClaim
  repeat' split
  any_goals exact hs
  all_goals exact changeHolder_keepsAuthority _ s hs

theorem ruleRelease_keepsAuthority (st : Station) : RuleKeepsAuthority (ruleRelease st) := by
  intro s hs
  unfold ruleRelease
  split
  · exact changeHolder_keepsAuthority .none s hs
  · exact hs

theorem ruleHoldToRun_keepsAuthority (st : Station) : RuleKeepsAuthority (ruleHoldToRun st) := by
  intro s hs
  unfold ruleHoldToRun
  split <;> exact hs

theorem ruleSetMode_keepsAuthority (st : Station) (code : Nat) : RuleKeepsAuthority (ruleSetMode st code) := by
  intro s hs
  unfold ruleSetMode
  repeat' split
  any_goals exact hs
  all_goals exact changeMode_keepsAuthority _ s hs

theorem ruleConsent_keepsAuthority (st : Station) (on : Option Bool) : RuleKeepsAuthority (ruleConsent st on) := by
  intro s hs
  unfold ruleConsent
  repeat' split
  any_goals exact hs
  rename_i x hx
  refine setConsent_keepsAuthority (fun hon => ?_) hs
  simpa [hon] using hx

theorem rights_takeVessel (heel pitch wind : Int) (s : State) : (s.takeVessel heel pitch wind).rights = s.rights :=
  rights_ite (by rw [rights_clearAlarm, rights_recompute]; rfl) (by rw [rights_recompute]; rfl)

theorem ruleVessel_keepsAuthority (st : Station) (heel pitch wind : Int) : RuleKeepsAuthority (ruleVessel st heel pitch wind) := by
  intro s hs
  unfold ruleVessel
  repeat' split
  any_goals exact hs
  exact hs.congr (rights_takeVessel heel pitch wind s)

/-! #### Operations, the jog and faults -/

theorem ruleStart_keepsAuthority (st : Station) (op : Nat) : RuleKeepsAuthority (ruleStart st op) := by
  intro s hs
  unfold ruleStart
  repeat' split
  any_goals exact hs
  exact hs.congr (rights_startContext ..)

theorem ruleStop_keepsAuthority (st : Station) : RuleKeepsAuthority (ruleStop st) :=
  .of_rights fun _ => rights_of_fixed ((fixed_giveCause _ _).trans (fixed_endJog _ _))

theorem ruleResume_keepsAuthority (st : Station) (run : Bool) : RuleKeepsAuthority (ruleResume st run) := by
  intro s hs
  unfold ruleResume
  repeat' split
  any_goals exact hs
  exact hs.congr (rights_of_fixed (fixed_resumeAccepted s))

theorem ruleReverse_keepsAuthority (st : Station) : RuleKeepsAuthority (ruleReverse st) := by
  intro s hs
  unfold ruleReverse
  split
  · exact hs
  split
  · exact hs
  split
  · exact hs
  split
  · exact hs
  split
  · exact hs
  split
  · exact hs
  · refine hs.congr ((rights_of_fixed (fixed_reversal st _)).trans ?_)
    exact rights_ite (rights_of_fixed (fixed_giveCause _ s)) rfl

theorem ruleAbort_keepsAuthority (st : Station) : RuleKeepsAuthority (ruleAbort st) := by
  intro s hs
  unfold ruleAbort
  repeat' split
  any_goals exact hs
  exact hs.congr (rights_of_fixed (fixed_abortContext s))

theorem ruleJog_keepsAuthority (st : Station) (run : Bool) (p d n : Nat) : RuleKeepsAuthority (ruleJog st run p d n) := by
  intro s hs
  unfold ruleJog
  repeat' split
  any_goals exact hs
  exact hs.congr (rights_startJog ..)

theorem ruleClearPoint_keepsAuthority (st : Station) (p : Nat) : RuleKeepsAuthority (ruleClearPoint st p) := by
  intro s hs
  unfold ruleClearPoint
  repeat' split
  any_goals exact hs
  exact hs.congr (rights_clearPoint p s)

theorem ruleClearPump_keepsAuthority (st : Station) (p : Nat) : RuleKeepsAuthority (ruleClearPump st p) := by
  intro s hs
  unfold ruleClearPump
  repeat' split
  any_goals exact hs
  exact hs.congr (rights_setPump ..)

theorem ruleResetEstop_keepsAuthority (st : Station) : RuleKeepsAuthority (ruleResetEstop st) := by
  intro s hs
  unfold ruleResetEstop
  repeat' split
  any_goals exact hs
  exact hs.congr (rights_estopOver s)

/-! #### Records that report -/

theorem report_keepsAuthority (r : Result) (f : State → List Byte) : RuleKeepsAuthority (fun x => (x, r, f x)) := fun _ hs => hs

theorem ruleReadPoint_keepsAuthority (i : Nat) : RuleKeepsAuthority (ruleReadPoint i) := by
  intro s hs
  unfold ruleReadPoint
  split <;> exact hs

theorem ruleReadPumps_keepsAuthority : RuleKeepsAuthority ruleReadPumps := .of_rights fun s => by
  unfold ruleReadPumps
  split <;> rfl

theorem ruleAckAlarm_keepsAuthority (st : Station) (what : AckWhat) : RuleKeepsAuthority (ruleAckAlarm st what) := by
  intro s hs
  unfold ruleAckAlarm
  repeat' split
  all_goals exact hs.congr rfl

theorem ruleSeekEvents_keepsAuthority (st : Station) (choice n : Nat) : RuleKeepsAuthority (ruleSeekEvents st choice n) := by
  intro s hs
  unfold ruleSeekEvents
  split
  · exact hs.congr (rights_modLink s st _)
  · exact hs.congr (rights_modLink s st _)
  · exact hs

theorem ruleReadEvents_keepsAuthority (st : Station) : RuleKeepsAuthority (ruleReadEvents st) := .of_rights fun s => rights_modLink s st _

theorem getWith_keepsAuthority (fields : Layout → Option (List Byte)) (st : Station) : RuleKeepsAuthority (getWith fields st) := by
  intro s hs
  unfold getWith
  split <;> exact hs

/-! #### The layout store -/

theorem ruleOpen_keepsAuthority (st : Station) (code : Nat) : RuleKeepsAuthority (ruleOpen st code) := by
  intro s hs
  unfold ruleOpen
  split
  · exact hs
  · rename_i r _
    split
    · exact hs
    · rename_i hh
      repeat' split
      any_goals exact hs
      rename_i hm _
      have hh : s.amu.holder = holderOf st := holds_iff.1 (by simpa using hh)
      have hm := (regionAdmitted_iff r s.amu.mode).1 (by simpa using hm)
      refine ⟨hs.consent, hs.run, fun b hb => ?_, fun b hb => ?_⟩
      · cases hb
        exact hh
      · cases hb
        exact hm

/-- A closed buffer leaves authority as it is. -/
theorem State.AuthorityOk.close {s : State} (hs : s.AuthorityOk) {x : Lst} (hx : x.buffer = none) : State.AuthorityOk { s with lst := x } :=
  .of_closed hx hs.consent hs.run

theorem ruleDiscard_keepsAuthority (st : Station) : RuleKeepsAuthority (ruleDiscard st) := by
  intro s hs
  unfold ruleDiscard
  split
  · exact hs
  · split
    · exact hs.close rfl
    · exact hs

theorem ruleCommit_keepsAuthority (st : Station) : RuleKeepsAuthority (ruleCommit st) := by
  intro s hs
  unfold ruleCommit
  repeat' split
  any_goals exact hs
  exact hs.close rfl

/-- What a PUT stores keeps the buffer's owner and its region. -/
def KeepsOwner (store : EditBuffer → Result × EditBuffer) : Prop := ∀ b, (store b).2.owner = b.owner ∧ (store b).2.region = b.region

theorem putWith_keepsAuthority {store : EditBuffer → Result × EditBuffer} (h : KeepsOwner store) (admits : EditBuffer → Bool) (st : Station) :
    RuleKeepsAuthority (putWith admits store st) := by
  intro s hs
  unfold putWith
  split
  · exact hs
  · rename_i b hb
    repeat' split
    any_goals exact hs
    rename_i c hc
    obtain ⟨ho, hr⟩ := h b
    rw [hc] at ho hr
    refine ⟨hs.consent, hs.run, fun d hd => ?_, fun d hd => ?_⟩
    · cases hd
      exact ho ▸ hs.owner b hb
    · cases hd
      exact hr ▸ hs.region b hb

theorem storeIf_keepsOwner (ok : Bool) (f : Layout → Layout) : KeepsOwner (storeIf ok f) := by
  intro b
  unfold storeIf
  split <;> exact ⟨rfl, rfl⟩

theorem storeWindow_keepsOwner (axis position : Nat) (r : Given Window) : KeepsOwner (storeWindow axis position r) := by
  intro b
  unfold storeWindow
  repeat' split
  all_goals exact ⟨rfl, rfl⟩

theorem storeList_keepsOwner (i : Nat) (present : Option Bool) : KeepsOwner (storeList i present) := by
  intro b
  unfold storeList
  repeat' split
  all_goals exact ⟨rfl, rfl⟩

theorem storeStep_keepsOwner (x : Option Step) : KeepsOwner (storeStep x) := by
  intro b
  unfold storeStep
  repeat' split
  all_goals exact ⟨rfl, rfl⟩

end Sys2Proof.Machine
end

section
namespace Sys2Proof.Machine

/-! ### Every command -/

section
variable (st : Station) (run : Bool)

theorem recOpen_keepsAuthority (region : Nat) : KeepsAuthority (recOpen st run region) :=
  serve_keepsAuthority (ruleOpen_keepsAuthority st region) st run _ _

theorem recDiscard_keepsAuthority : KeepsAuthority (recDiscard st run) :=
  serve_keepsAuthority (ruleDiscard_keepsAuthority st) st run _ _

theorem recCommit_keepsAuthority : KeepsAuthority (recCommit st run) :=
  serve_keepsAuthority (ruleCommit_keepsAuthority st) st run _ _

theorem recPutHeader_keepsAuthority (h : Option Header) : KeepsAuthority (recPutHeader st run h) :=
  serve_keepsAuthority (putWith_keepsAuthority (storeIf_keepsOwner _ _) _ st) st run _ _

theorem recPutTuning_keepsAuthority (t : Tuning) : KeepsAuthority (recPutTuning st run t) :=
  serve_keepsAuthority (putWith_keepsAuthority (storeIf_keepsOwner _ _) _ st) st run _ _

theorem recPutPump_keepsAuthority (index : Nat) (r : Given PumpDef) : KeepsAuthority (recPutPump st run index r) :=
  serve_keepsAuthority (putWith_keepsAuthority (storeIf_keepsOwner _ _) _ st) st run _ _

theorem recPutPoint_keepsAuthority (index : Nat) (r : Given PointBody) : KeepsAuthority (recPutPoint st run index r) :=
  serve_keepsAuthority (putWith_keepsAuthority (storeIf_keepsOwner _ _) _ st) st run _ _

theorem recPutWindow_keepsAuthority (axis position : Nat) (r : Given Window) : KeepsAuthority (recPutWindow st run axis position r) :=
  serve_keepsAuthority (putWith_keepsAuthority (storeWindow_keepsOwner _ _ _) _ st) st run _ _

theorem recPutGroup_keepsAuthority (index : Nat) (r : Given GroupDef) : KeepsAuthority (recPutGroup st run index r) :=
  serve_keepsAuthority (putWith_keepsAuthority (storeIf_keepsOwner _ _) _ st) st run _ _

theorem recPutCondition_keepsAuthority (index : Nat) (r : Given (List Term)) : KeepsAuthority (recPutCondition st run index r) :=
  serve_keepsAuthority (putWith_keepsAuthority (storeIf_keepsOwner _ _) _ st) st run _ _

theorem recPutPermissive_keepsAuthority (index : Nat) (r : Given PermEntry) : KeepsAuthority (recPutPermissive st run index r) :=
  serve_keepsAuthority (putWith_keepsAuthority (storeIf_keepsOwner _ _) _ st) st run _ _

theorem recPutOperation_keepsAuthority (index : Nat) (r : Given OpDef) : KeepsAuthority (recPutOperation st run index r) :=
  serve_keepsAuthority (putWith_keepsAuthority (storeIf_keepsOwner _ _) _ st) st run _ _

theorem recListBegin_keepsAuthority (list : Nat) (present : Option Bool) : KeepsAuthority (recListBegin st run list present) :=
  serve_keepsAuthority (putWith_keepsAuthority (storeList_keepsOwner _ _) _ st) st run _ _

theorem recPutStep_keepsAuthority (step : Option Step) : KeepsAuthority (recPutStep st run step) :=
  serve_keepsAuthority (putWith_keepsAuthority (storeStep_keepsOwner _) _ st) st run _ _

theorem recGetHeader_keepsAuthority : KeepsAuthority (recGetHeader st run) :=
  serve_keepsAuthority (getWith_keepsAuthority _ st) st run _ _

theorem recGetPump_keepsAuthority (index : Nat) : KeepsAuthority (recGetPump st run index) :=
  serve_keepsAuthority (getWith_keepsAuthority _ st) st run _ _

theorem recGetPoint_keepsAuthority (index : Nat) : KeepsAuthority (recGetPoint st run index) :=
  serve_keepsAuthority (getWith_keepsAuthority _ st) st run _ _

theorem recGetWindow_keepsAuthority (axis position : Nat) : KeepsAuthority (recGetWindow st run axis position) :=
  serve_keepsAuthority (getWith_keepsAuthority _ st) st run _ _

theorem recGetGroup_keepsAuthority (index : Nat) : KeepsAuthority (recGetGroup st run index) :=
  serve_keepsAuthority (getWith_keepsAuthority _ st) st run _ _

theorem recGetCondition_keepsAuthority (index : Nat) : KeepsAuthority (recGetCondition st run index) :=
  serve_keepsAuthority (getWith_keepsAuthority _ st) st run _ _

theorem recGetPermissive_keepsAuthority (index : Nat) : KeepsAuthority (recGetPermissive st run index) :=
  serve_keepsAuthority (getWith_keepsAuthority _ st) st run _ _

theorem recGetOperation_keepsAuthority (index : Nat) : KeepsAuthority (recGetOperation st run index) :=
  serve_keepsAuthority (getWith_keepsAuthority _ st) st run _ _

theorem recGetListBegin_keepsAuthority (list : Nat) : KeepsAuthority (recGetListBegin st run list) :=
  serve_keepsAuthority (getWith_keepsAuthority _ st) st run _ _

theorem recGetStep_keepsAuthority (list index : Nat) : KeepsAuthority (recGetStep st run list index) :=
  serve_keepsAuthority (getWith_keepsAuthority _ st) st run _ _

theorem recGetTuning_keepsAuthority : KeepsAuthority (recGetTuning st run) :=
  serve_keepsAuthority (getWith_keepsAuthority _ st) st run _ _

theorem recStatus_keepsAuthority : KeepsAuthority (recStatus st run) :=
  serve_keepsAuthority (report_keepsAuthority _ _) st run _ _

theorem recReadPoint_keepsAuthority (point : Nat) : KeepsAuthority (recReadPoint st run point) :=
  serve_keepsAuthority (ruleReadPoint_keepsAuthority point) st run _ _

theorem recReadConditions_keepsAuthority : KeepsAuthority (recReadConditions st run) :=
  serve_keepsAuthority (report_keepsAuthority _ _) st run _ _

theorem recReadOperation_keepsAuthority : KeepsAuthority (recReadOperation st run) :=
  serve_keepsAuthority (report_keepsAuthority _ _) st run _ _

theorem recReadPumps_keepsAuthority : KeepsAuthority (recReadPumps st run) :=
  serve_keepsAuthority (ruleReadPumps_keepsAuthority) st run _ _

theorem recReadAlarms_keepsAuthority (position : Nat) : KeepsAuthority (recReadAlarms st run position) :=
  serve_keepsAuthority (report_keepsAuthority _ _) st run _ _

theorem recAckAlarm_keepsAuthority (what : AckWhat) : KeepsAuthority (recAckAlarm st run what) :=
  serve_keepsAuthority (ruleAckAlarm_keepsAuthority st what) st run _ _

theorem recSeekEvents_keepsAuthority (choice n : Nat) : KeepsAuthority (recSeekEvents st run choice n) :=
  serve_keepsAuthority (ruleSeekEvents_keepsAuthority st choice n) st run _ _

theorem recReadEvents_keepsAuthority : KeepsAuthority (recReadEvents st run) :=
  serve_keepsAuthority (ruleReadEvents_keepsAuthority st) st run _ _

theorem recClaim_keepsAuthority (tag : Word32) : KeepsAuthority (recClaim st run tag) :=
  serve_keepsAuthority (ruleClaim_keepsAuthority st tag) st run _ _

theorem recRelease_keepsAuthority : KeepsAuthority (recRelease st run) :=
  serve_keepsAuthority (ruleRelease_keepsAuthority st) st run _ _

theorem recHoldToRun_keepsAuthority : KeepsAuthority (recHoldToRun st run) :=
  serve_keepsAuthority (ruleHoldToRun_keepsAuthority st) st run _ _

theorem recSetMode_keepsAuthority (mode : Nat) : KeepsAuthority (recSetMode st run mode) :=
  serve_keepsAuthority (ruleSetMode_keepsAuthority st mode) st run _ _

theorem recConsent_keepsAuthority (on : Option Bool) : KeepsAuthority (recConsent st run on) :=
  serve_keepsAuthority (ruleConsent_keepsAuthority st on) st run _ _

theorem recVessel_keepsAuthority (heel pitch wind : Int) : KeepsAuthority (recVessel st run heel pitch wind) :=
  serve_keepsAuthority (ruleVessel_keepsAuthority st heel pitch wind) st run _ _

theorem recStart_keepsAuthority (op : Nat) : KeepsAuthority (recStart st run op) :=
  serve_keepsAuthority (ruleStart_keepsAuthority st op) st run _ _

theorem recStop_keepsAuthority : KeepsAuthority (recStop st run) :=
  serve_keepsAuthority (ruleStop_keepsAuthority st) st run _ _

theorem recResume_keepsAuthority : KeepsAuthority (recResume st run) :=
  serve_keepsAuthority (ruleResume_keepsAuthority st run) st run _ _

theorem recReverse_keepsAuthority : KeepsAuthority (recReverse st run) :=
  serve_keepsAuthority (ruleReverse_keepsAuthority st) st run _ _

theorem recAbort_keepsAuthority : KeepsAuthority (recAbort st run) :=
  serve_keepsAuthority (ruleAbort_keepsAuthority st) st run _ _

theorem recJog_keepsAuthority (p d duration : Nat) : KeepsAuthority (recJog st run p d duration) :=
  serve_keepsAuthority (ruleJog_keepsAuthority st run p d duration) st run _ _

theorem recClearPoint_keepsAuthority (p : Nat) : KeepsAuthority (recClearPoint st run p) :=
  serve_keepsAuthority (ruleClearPoint_keepsAuthority st p) st run _ _

theorem recClearPump_keepsAuthority (p : Nat) : KeepsAuthority (recClearPump st run p) :=
  serve_keepsAuthority (ruleClearPump_keepsAuthority st p) st run _ _

theorem recResetEstop_keepsAuthority : KeepsAuthority (recResetEstop st run) :=
  serve_keepsAuthority (ruleResetEstop_keepsAuthority st) st run _ _

theorem recClear_keepsAuthority (what index : Nat) : KeepsAuthority (recClear st run what index) := by
  unfold recClear
  split
  · exact recClearPoint_keepsAuthority st run index
  · exact recClearPump_keepsAuthority st run index
  · exact serve_keepsAuthority (fun _ hs => hs) st run _ _

end

/-! #### A frame -/

theorem takeBody_keepsAuthority {α : Type} (rd : Reader α) {f : Bool → α → State → State} (h : ∀ bad a, KeepsAuthority (f bad a)) (st : Station)
    (r : RawRecord) : KeepsAuthority (takeBody rd f st r) := by
  intro s hs
  unfold takeBody
  split
  · exact badRecord_keepsAuthority st r.kind s hs
  · split
    · exact h _ _ s hs
    · exact badRecord_keepsAuthority st r.kind s hs

theorem handleControl_keepsAuthority (st : Station) (r : RawRecord) : KeepsAuthority (handleControl st r) := by
  intro s hs
  unfold handleControl
  dsimp only
  split
  · exact takeBody_keepsAuthority _ (fun _ _ => recStatus_keepsAuthority st _) st r s hs
  · exact takeBody_keepsAuthority _ (fun _ _ => recClaim_keepsAuthority st _ _) st r s hs
  · exact takeBody_keepsAuthority _ (fun _ _ => recRelease_keepsAuthority st _) st r s hs
  · exact takeBody_keepsAuthority _ (fun _ _ => recHoldToRun_keepsAuthority st _) st r s hs
  · exact takeBody_keepsAuthority _ (fun _ _ => recSetMode_keepsAuthority st _ _) st r s hs
  · exact takeBody_keepsAuthority _ (fun _ _ => recConsent_keepsAuthority st _ _) st r s hs
  · exact takeBody_keepsAuthority _ (fun _ _ => recVessel_keepsAuthority st _ _ _ _) st r s hs
  · exact takeBody_keepsAuthority _ (fun _ _ => recStart_keepsAuthority st _ _) st r s hs
  · exact takeBody_keepsAuthority _ (fun _ _ => recStop_keepsAuthority st _) st r s hs
  · exact takeBody_keepsAuthority _ (fun _ _ => recResume_keepsAuthority st _) st r s hs
  · exact takeBody_keepsAuthority _ (fun _ _ => recReverse_keepsAuthority st _) st r s hs
  · exact takeBody_keepsAuthority _ (fun _ _ => recAbort_keepsAuthority st _) st r s hs
  · exact takeBody_keepsAuthority _ (fun _ _ => recJog_keepsAuthority st _ _ _ _) st r s hs
  · exact takeBody_keepsAuthority _ (fun _ _ => recClear_keepsAuthority st _ _ _) st r s hs
  · exact takeBody_keepsAuthority _ (fun _ _ => recResetEstop_keepsAuthority st _) st r s hs
  · exact badRecord_keepsAuthority st r.kind s hs

theorem handleReads_keepsAuthority (st : Station) (r : RawRecord) : KeepsAuthority (handleReads st r) := by
  intro s hs
  unfold handleReads
  dsimp only
  split
  · exact takeBody_keepsAuthority _ (fun _ _ => recReadPoint_keepsAuthority st _ _) st r s hs
  · exact takeBody_keepsAuthority _ (fun _ _ => recReadConditions_keepsAuthority st _) st r s hs
  · exact takeBody_keepsAuthority _ (fun _ _ => recReadOperation_keepsAuthority st _) st r s hs
  · exact takeBody_keepsAuthority _ (fun _ _ => recReadPumps_keepsAuthority st _) st r s hs
  · exact takeBody_keepsAuthority _ (fun _ _ => recReadAlarms_keepsAuthority st _ _) st r s hs
  · exact takeBody_keepsAuthority _ (fun _ _ => recAckAlarm_keepsAuthority st _ _) st r s hs
  · exact takeBody_keepsAuthority _ (fun _ _ => recSeekEvents_keepsAuthority st _ _ _) st r s hs
  · exact takeBody_keepsAuthority _ (fun _ _ => recReadEvents_keepsAuthority st _) st r s hs
  · exact takeBody_keepsAuthority _ (fun _ _ => recOpen_keepsAuthority st _ _) st r s hs
  · exact takeBody_keepsAuthority _ (fun _ _ => recCommit_keepsAuthority st _) st r s hs
  · exact takeBody_keepsAuthority _ (fun _ _ => recDiscard_keepsAuthority st _) st r s hs
  · exact badRecord_keepsAuthority st r.kind s hs

theorem handlePuts_keepsAuthority (st : Station) (r : RawRecord) : KeepsAuthority (handlePuts st r) := by
  intro s hs
  unfold handlePuts
  dsimp only
  split
  · exact takeBody_keepsAuthority _ (fun _ _ => recPutHeader_keepsAuthority st _ _) st r s hs
  · exact takeBody_keepsAuthority _ (fun _ _ => recPutPump_keepsAuthority st _ _ _) st r s hs
  · exact takeBody_keepsAuthority _ (fun _ _ => recPutPoint_keepsAuthority st _ _ _) st r s hs
  · exact takeBody_keepsAuthority _ (fun _ _ => recPutWindow_keepsAuthority st _ _ _ _) st r s hs
  · exact takeBody_keepsAuthority _ (fun _ _ => recPutGroup_keepsAuthority st _ _ _) st r s hs
  · exact takeBody_keepsAuthority _ (fun _ _ => recPutCondition_keepsAuthority st _ _ _) st r s hs
  · exact takeBody_keepsAuthority _ (fun _ _ => recPutPermissive_keepsAuthority st _ _ _) st r s hs
  · exact takeBody_keepsAuthority _ (fun _ _ => recPutOperation_keepsAuthority st _ _ _) st r s hs
  · exact takeBody_keepsAuthority _ (fun _ _ => recListBegin_keepsAuthority st _ _ _) st r s hs
  · exact takeBody_keepsAuthority _ (fun _ _ => recPutStep_keepsAuthority st _ _) st r s hs
  · exact takeBody_keepsAuthority _ (fun _ _ => recPutTuning_keepsAuthority st _ _) st r s hs
  · exact badRecord_keepsAuthority st r.kind s hs

theorem handleGets_keepsAuthority (st : Station) (r : RawRecord) : KeepsAuthority (handleGets st r) := by
  intro s hs
  unfold handleGets
  dsimp only
  split
  · exact takeBody_keepsAuthority _ (fun _ _ => recGetHeader_keepsAuthority st _) st r s hs
  · exact takeBody_keepsAuthority _ (fun _ _ => recGetPump_keepsAuthority st _ _) st r s hs
  · exact takeBody_keepsAuthority _ (fun _ _ => recGetPoint_keepsAuthority st _ _) st r s hs
  · exact takeBody_keepsAuthority _ (fun _ _ => recGetWindow_keepsAuthority st _ _ _) st r s hs
  · exact takeBody_keepsAuthority _ (fun _ _ => recGetGroup_keepsAuthority st _ _) st r s hs
  · exact takeBody_keepsAuthority _ (fun _ _ => recGetCondition_keepsAuthority st _ _) st r s hs
  · exact takeBody_keepsAuthority _ (fun _ _ => recGetPermissive_keepsAuthority st _ _) st r s hs
  · exact takeBody_keepsAuthority _ (fun _ _ => recGetOperation_keepsAuthority st _ _) st r s hs
  · exact takeBody_keepsAuthority _ (fun _ _ => recGetListBegin_keepsAuthority st _ _) st r s hs
  · exact takeBody_keepsAuthority _ (fun _ _ => recGetStep_keepsAuthority st _ _ _) st r s hs
  · exact takeBody_keepsAuthority _ (fun _ _ => recGetTuning_keepsAuthority st _) st r s hs
  · exact badRecord_keepsAuthority st r.kind s hs

theorem handleRecord_keepsAuthority (st : Station) (r : RawRecord) : KeepsAuthority (handleRecord st r) := by
  intro s hs
  unfold handleRecord
  split
  · exact handleControl_keepsAuthority st r s hs
  split
  · exact handleReads_keepsAuthority st r s hs
  split
  · exact handlePuts_keepsAuthority st r s hs
  · exact handleGets_keepsAuthority st r s hs

theorem handleRecords_keepsAuthority (st : Station) (rs : List RawRecord) : KeepsAuthority (fun s => (handleRecords st rs s).1) := by
  induction rs with
  | nil => exact fun _ hs => hs
  | cons r rs ih => exact fun s hs => ih _ (handleRecord_keepsAuthority st r s hs)

theorem handleFrame_keepsAuthority (st : Station) (bytes : List Byte) : KeepsAuthority (State.handleFrame st bytes) := by
  intro s hs
  unfold State.handleFrame
  split
  · exact (handleRecords_keepsAuthority st _ s hs).congr (rights_modLink _ st _)
  · exact hs.congr (rights_modLink s st _)

theorem frameIn_keepsAuthority (st : Station) (bytes : List Byte) : KeepsAuthority (State.frameIn st bytes) := by
  intro s hs
  have h1 := hs.congr (rights_modLink s st Link.hunt)
  unfold State.frameIn
  dsimp only
  split
  · exact handleFrame_keepsAuthority st _ _ (h1.congr (rights_linkHeard st _))
  · exact h1

theorem takeByte_keepsAuthority (st : Station) (b : Byte) : KeepsAuthority (State.takeByte st b) := by
  intro s hs
  have hset (x : Link) : (s.modLink st (fun _ => x)).AuthorityOk := hs.congr (rights_modLink s st _)
  unfold State.takeByte
  dsimp only
  repeat' split
  any_goals exact hset _
  exact frameIn_keepsAuthority st _ _ (hset _)

/-! #### The commands -/

/-- Unless the part is held in reset, the act takes place. -/
theorem unheld_keepsAuthority {f : State → State} (h : KeepsAuthority f) : KeepsAuthority (fun s => if s.held then s else f s) := by
  intro s hs
  dsimp only
  split
  · exact hs
  · exact h s hs

theorem held_keepsAuthority {f : State → State} (h : KeepsAuthority f) : KeepsAuthority (fun s => if s.held then f s else s) := by
  intro s hs
  dsimp only
  split
  · exact h s hs
  · exact hs

theorem requestFrame_keepsAuthority (st : Station) (bytes : List Byte) :
    KeepsAuthority (fun s =>
      let s1 := s.modLink st (fun l => { l.hunt with gapOver := false })
      if s.completeFrame bytes then s1.frameIn st bytes.tail else s1) := by
  intro s hs
  have h1 := hs.congr (rights_modLink s st (fun l => { l.hunt with gapOver := false }))
  dsimp only
  split
  · exact frameIn_keepsAuthority st _ _ h1
  · exact h1

/-- An event of the part whose act leaves AMU and the edit buffer alone. -/
theorem act_of_rights {f : State → State} (h : ∀ s, (f s).rights = s.rights) : KeepsAuthority (fun s => s.act f) := act_keepsAuthority (.of_rights h)

/-- An event of the part whose act touches nothing that reports leave alone. -/
theorem act_of_fixed {f : State → State} (h : ∀ s, (f s).fixed = s.fixed) : KeepsAuthority (fun s => s.act f) := act_of_rights fun s => rights_of_fixed (h s)

/-- What every command does keeps what `AuthorityOk` says. -/
theorem exec_keepsAuthority (c : Instr) : ∃ f : State → State, KeepsAuthority f ∧ ∀ s, exec c s = .next (f s) :=
  match c with
  | .powerOnReset straps => ⟨_, restart_keepsAuthority .por straps, fun _ => rfl⟩
  | .xrst => ⟨_, unheld_keepsAuthority (.of_rights (f := State.enterReset) fun _ => rfl), fun _ => rfl⟩
  | .xrstRelease straps => ⟨_, held_keepsAuthority (restart_keepsAuthority .xrst straps), fun _ => rfl⟩
  | .startupCheckEnd => ⟨_, act_of_rights rights_endCheck, fun _ => rfl⟩
  | .estopFirstReport openA openB => ⟨_, act_of_rights (rights_firstReport openA openB), fun _ => rfl⟩
  | .timeStampTick => ⟨_, tick_keepsAuthority, fun _ => rfl⟩
  | .debouncedValueChange changes => ⟨_, act_of_rights (rights_debouncedChange changes), fun _ => rfl⟩
  | .analogFilteredValue input count => ⟨_, act_of_rights (rights_analogSample input count), fun _ => rfl⟩
  | .recoveryTimerExpiry input => ⟨_, act_of_rights (rights_recovered input), fun _ => rfl⟩
  | .conflictTimerExpiry point => ⟨_, act_of_rights (rights_conflictOut point), fun _ => rfl⟩
  | .stalenessTimerExpiry => ⟨_, act_of_rights rights_staleOut, fun _ => rfl⟩
  | .startTimerExpiry pump => ⟨_, act_of_rights (rights_startExpiry pump), fun _ => rfl⟩
  | .runDownTimerExpiry pump => ⟨_, act_of_rights (rights_runDownExpiry pump), fun _ => rfl⟩
  | .idleTimerExpiry => ⟨_, act_of_rights rights_idleOut, fun _ => rfl⟩
  | .flowWaitExpiry motion => ⟨_, act_of_rights (rights_flowWaitOut motion), fun _ => rfl⟩
  | .memberTravelTimeout motion point => ⟨_, act_of_fixed (fixed_lduTravelOut motion point), fun _ => rfl⟩
  | .backOffExpiry motion point => ⟨_, act_of_fixed (fixed_lduBackOut motion point), fun _ => rfl⟩
  | .controlInterval motion => ⟨_, act_of_fixed (fixed_aduInterval motion), fun _ => rfl⟩
  | .stallWindowEnd motion => ⟨_, act_of_fixed (fixed_aduStall motion), fun _ => rfl⟩
  | .axisTravelTimeout motion => ⟨_, act_of_fixed (fixed_aduTravelOut motion), fun _ => rfl⟩
  | .settleEnd motion => ⟨_, act_of_fixed (fixed_aduSettleEnd motion), fun _ => rfl⟩
  | .liftOffTimerExpiry point => ⟨_, act_of_fixed (fixed_liftOffOut point), fun _ => rfl⟩
  | .waitStepExpiry slot => ⟨_, act_of_fixed (fixed_waitOut slot), fun _ => rfl⟩
  | .pauseExpiry slot => ⟨_, act_of_fixed (fixed_pauseOut slot), fun _ => rfl⟩
  | .jogDurationExpiry => ⟨_, act_of_fixed fixed_jogOut, fun _ => rfl⟩
  | .jogAxisCheck => ⟨_, act_of_fixed fixed_jogCheck, fun _ => rfl⟩
  | .coilFaultOpen out => ⟨_, act_of_rights (rights_coilLatch out .faultOpen), fun _ => rfl⟩
  | .coilFaultShort out => ⟨_, act_of_rights (rights_coilLatch out .faultShort), fun _ => rfl⟩
  | .coilFaultStuck outs => ⟨_, act_of_rights (rights_foundStuck outs), fun _ => rfl⟩
  | .darkPulse out milliamps => ⟨_, act_of_rights (rights_darkPulse out milliamps), fun _ => rfl⟩
  | .propFaultOpen out => ⟨_, act_of_rights (rights_propOpen out), fun _ => rfl⟩
  | .propFaultShort out => ⟨_, act_of_rights (rights_propLatch out .faultShort), fun _ => rfl⟩
  | .estopChannelChange second opened => ⟨_, act_of_rights (rights_channelChange second opened), fun _ => rfl⟩
  | .discrepancyTimerExpiry => ⟨_, act_of_rights rights_discrepancyOut, fun _ => rfl⟩
  | .silenceTimerExpiry link => ⟨_, act_keepsAuthority (linkSilent_keepsAuthority link), fun _ => rfl⟩
  | .holdToRunExpiry => ⟨_, act_keepsAuthority runOut_keepsAuthority, fun _ => rfl⟩
  | .interByteGap link => ⟨_, unheld_keepsAuthority (.of_rights fun s => rights_modLink s link _), fun _ => rfl⟩
  | .requestFrame link bytes => ⟨_, unheld_keepsAuthority (requestFrame_keepsAuthority link bytes), fun _ => rfl⟩
  | .badRecord st kind => ⟨_, unheld_keepsAuthority (badRecord_keepsAuthority st kind), fun _ => rfl⟩
  | .status st run => ⟨_, recStatus_keepsAuthority st run, fun _ => rfl⟩
  | .claimControl st run tag => ⟨_, recClaim_keepsAuthority st run tag, fun _ => rfl⟩
  | .releaseControl st run => ⟨_, recRelease_keepsAuthority st run, fun _ => rfl⟩
  | .holdToRun st run => ⟨_, recHoldToRun_keepsAuthority st run, fun _ => rfl⟩
  | .setMode st run mode => ⟨_, recSetMode_keepsAuthority st run mode, fun _ => rfl⟩
  | .consent st run on => ⟨_, recConsent_keepsAuthority st run (some on), fun _ => rfl⟩
  | .vesselState st run heel pitch wind => ⟨_, recVessel_keepsAuthority st run heel pitch wind, fun _ => rfl⟩
  | .startOperation st run op => ⟨_, recStart_keepsAuthority st run op, fun _ => rfl⟩
  | .stop st run => ⟨_, recStop_keepsAuthority st run, fun _ => rfl⟩
  | .resume st run => ⟨_, recResume_keepsAuthority st run, fun _ => rfl⟩
  | .reverse st run => ⟨_, recReverse_keepsAuthority st run, fun _ => rfl⟩
  | .abort st run => ⟨_, recAbort_keepsAuthority st run, fun _ => rfl⟩
  | .jog st run point dir duration => ⟨_, recJog_keepsAuthority st run point dir duration, fun _ => rfl⟩
  | .clearFaultPoint st run point => ⟨_, recClearPoint_keepsAuthority st run point, fun _ => rfl⟩
  | .clearFaultPump st run pump => ⟨_, recClearPump_keepsAuthority st run pump, fun _ => rfl⟩
  | .resetEstop st run => ⟨_, recResetEstop_keepsAuthority st run, fun _ => rfl⟩
  | .readPoint st run point => ⟨_, recReadPoint_keepsAuthority st run point, fun _ => rfl⟩
  | .readConditions st run => ⟨_, recReadConditions_keepsAuthority st run, fun _ => rfl⟩
  | .readOperation st run => ⟨_, recReadOperation_keepsAuthority st run, fun _ => rfl⟩
  | .readPumps st run => ⟨_, recReadPumps_keepsAuthority st run, fun _ => rfl⟩
  | .readAlarms st run position => ⟨_, recReadAlarms_keepsAuthority st run position, fun _ => rfl⟩
  | .ackAlarm st run what => ⟨_, recAckAlarm_keepsAuthority st run what, fun _ => rfl⟩
  | .seekEvents st run choice n => ⟨_, recSeekEvents_keepsAuthority st run choice n, fun _ => rfl⟩
  | .readEvents st run => ⟨_, recReadEvents_keepsAuthority st run, fun _ => rfl⟩
  | .layoutOpen st run region => ⟨_, recOpen_keepsAuthority st run region, fun _ => rfl⟩
  | .layoutDiscard st run => ⟨_, recDiscard_keepsAuthority st run, fun _ => rfl⟩
  | .layoutCommit st run => ⟨_, recCommit_keepsAuthority st run, fun _ => rfl⟩
  | .layoutWriteEnd => ⟨_, act_keepsAuthority writeEnd_keepsAuthority, fun _ => rfl⟩
  | .putHeader st run h => ⟨_, recPutHeader_keepsAuthority st run h, fun _ => rfl⟩
  | .putPump st run index r => ⟨_, recPutPump_keepsAuthority st run index r, fun _ => rfl⟩
  | .putPoint st run index r => ⟨_, recPutPoint_keepsAuthority st run index r, fun _ => rfl⟩
  | .putWindow st run axis position r => ⟨_, recPutWindow_keepsAuthority st run axis position r, fun _ => rfl⟩
  | .putGroup st run index r => ⟨_, recPutGroup_keepsAuthority st run index r, fun _ => rfl⟩
  | .putCondition st run index r => ⟨_, recPutCondition_keepsAuthority st run index r, fun _ => rfl⟩
  | .putPermissive st run index r => ⟨_, recPutPermissive_keepsAuthority st run index r, fun _ => rfl⟩
  | .putOperation st run index r => ⟨_, recPutOperation_keepsAuthority st run index r, fun _ => rfl⟩
  | .listBegin st run list present => ⟨_, recListBegin_keepsAuthority st run list present, fun _ => rfl⟩
  | .putStep st run step => ⟨_, recPutStep_keepsAuthority st run step, fun _ => rfl⟩
  | .putTuning st run t => ⟨_, recPutTuning_keepsAuthority st run t, fun _ => rfl⟩
  | .getHeader st run => ⟨_, recGetHeader_keepsAuthority st run, fun _ => rfl⟩
  | .getPump st run index => ⟨_, recGetPump_keepsAuthority st run index, fun _ => rfl⟩
  | .getPoint st run index => ⟨_, recGetPoint_keepsAuthority st run index, fun _ => rfl⟩
  | .getWindow st run axis position => ⟨_, recGetWindow_keepsAuthority st run axis position, fun _ => rfl⟩
  | .getGroup st run index => ⟨_, recGetGroup_keepsAuthority st run index, fun _ => rfl⟩
  | .getCondition st run index => ⟨_, recGetCondition_keepsAuthority st run index, fun _ => rfl⟩
  | .getPermissive st run index => ⟨_, recGetPermissive_keepsAuthority st run index, fun _ => rfl⟩
  | .getOperation st run index => ⟨_, recGetOperation_keepsAuthority st run index, fun _ => rfl⟩
  | .getListBegin st run list => ⟨_, recGetListBegin_keepsAuthority st run list, fun _ => rfl⟩
  | .getStep st run list index => ⟨_, recGetStep_keepsAuthority st run list index, fun _ => rfl⟩
  | .getTuning st run => ⟨_, recGetTuning_keepsAuthority st run, fun _ => rfl⟩
  | .discreteSample on => ⟨_, act_of_rights (rights_discreteSample on), fun _ => rfl⟩
  | .receivedByte link b => ⟨_, unheld_keepsAuthority (takeByte_keepsAuthority link b), fun _ => rfl⟩

/-- Settles O12: every command keeps the authority invariant, the acts of AMU and LST by their own lemmas and every other because it leaves AMU and the edit buffer
alone. -/
theorem stepKeepsAuthorityConsistent : Obligations.StepKeepsAuthorityConsistent := by
  intro s t hs h
  unfold step at h
  split at h
  · rename_i c rest _
    obtain ⟨f, hf, he⟩ := exec_keepsAuthority c
    rw [he] at h
    injection h with h
    exact h ▸ hf { s with pending := rest } (hs.congr rfl)
  · injection h with h
    exact h ▸ hs

end Sys2Proof.Machine
end

section
namespace Sys2Proof.Machine

/-! ### The first unsatisfied condition (R49) -/

/-- The first condition of a set, in ascending id, whose value is not the one wanted. -/
def State.firstUnlike (s : State) (want : Tri) (ids : List Nat) : Option Nat := (List.range 32).find? (fun i => ids.contains i && s.cond i != want)

section
variable {s : State} {want : Tri} {ids : List Nat}

theorem firstUnlike_none (h : ∀ i ∈ ids, i < 32) : s.firstUnlike want ids = none ↔ ∀ i ∈ ids, s.cond i = want := by
  simp only [State.firstUnlike, List.find?_eq_none, List.mem_range, Bool.and_eq_true, List.contains_iff_mem, bne_iff_ne, ne_eq, not_and, not_not]
  exact ⟨fun k i hi => k i (h i hi) hi, fun k i _ hi => k i hi⟩

theorem firstUnlike_some (h : ∀ i ∈ ids, i < 32) {c : Nat} :
    s.firstUnlike want ids = some c ↔ c ∈ ids ∧ s.cond c ≠ want ∧ ∀ i ∈ ids, i < c → s.cond i = want := by
  simp only [State.firstUnlike, List.find?_range_eq_some, List.mem_range, Bool.and_eq_true, List.contains_iff_mem, bne_iff_ne, ne_eq, Bool.not_eq_true',
    ← Bool.not_eq_true, not_and, not_not]
  constructor
  · rintro ⟨⟨hc, hne⟩, -, hlt⟩
    exact ⟨hc, hne, fun i hi hic => hlt i hic hi⟩
  · rintro ⟨hc, hne, hlt⟩
    exact ⟨⟨hc, hne⟩, h c hc, fun i hic hi => hlt i hi hic⟩

end

theorem firstUnsatisfied_eq (e : PermEntry) (s : State) :
    s.firstUnsatisfied e = if s.cond 0 = .yes then (s.firstUnlike .yes e.require).or (s.firstUnlike .no e.forbid) else some 0 := by
  unfold State.firstUnsatisfied
  by_cases h : s.cond 0 = .yes
  · rw [if_neg (by simp [h]), if_pos h]
    show (match s.firstUnlike .yes e.require with
      | some i => some i
      | none => s.firstUnlike .no e.forbid) = _
    cases s.firstUnlike .yes e.require <;> rfl
  · rw [if_pos (by simpa using h), if_neg h]

/-- Settles O40. -/
theorem permissiveNamesTheFirstUnsatisfied : Obligations.PermissiveNamesTheFirstUnsatisfied := by
  intro e s hrequire hforbid
  rw [firstUnsatisfied_eq]
  by_cases h0 : s.cond 0 = .yes
  · simp only [h0, if_true, Option.or_eq_none_iff, Option.or_eq_some_iff, firstUnlike_none hrequire, firstUnlike_none hforbid, firstUnlike_some hrequire,
      firstUnlike_some hforbid, true_and, ne_eq, not_true_eq_false, false_and, false_or, implies_true, and_self]
  · simp only [h0, if_false, reduceCtorEq, false_and, Option.some.injEq, ne_eq, not_false_eq_true, true_and, or_false, eq_comm, implies_true, and_self]

end Sys2Proof.Machine
end
section
namespace Sys2Proof.Machine

/-! ### Records served while no write is under way and in a BUSY period alike (R175) -/

section
variable {s e : State} {st : Station} {run : Bool} {k : Nat} {rule : State → Answer} {r : Result} {f : List Byte}

/-- A record of a kind that a BUSY period does not stop, whose rule changes nothing. -/
theorem serve_work_answered (hr : s.Ready) (hp : s.lst.phase ≠ .unconfigured) (h : rule (s.takeRun st run) = (s.takeRun st run, r, f)) :
    s.serve st run k .work rule = s.answered st run k r f := by
  have ht : (s.takeRun st run).todo = [] := by simpa using hr.2
  rw [serve_work hr.1 hp, h]
  simp only [State.answered]
  rw [finish_of_todo_nil ht]

/-- A record of such a kind that its rule accepts. -/
theorem serve_work_accepted (hr : s.Ready) (hp : s.lst.phase ≠ .unconfigured) (h : rule (s.takeRun st run) = (e, .ok, f)) :
    s.serve st run k .work rule = e.acceptedAs st k f := by
  rw [serve_work hr.1 hp, h]
  rfl

end

theorem bareCheck_iff (s : State) : s.bareCheck = true ↔ s.lst.phase = .checking ∧ s.lst.active = none := by simp [State.bareCheck]

theorem bareCheck_takeRun (s : State) (st : Station) (run : Bool) : (s.takeRun st run).bareCheck = s.bareCheck := by simp [State.bareCheck]

/-! ### VESSEL_STATE (R42, R44, R45) -/

/-- The vessel data as they are stored. -/
def clampVessel (heel pitch wind : Int) : Vessel := { heel := clampAngle heel, pitch := clampAngle pitch, wind := clampWind wind }

/-- The data are stored, fresh, with the staleness timer at its start. -/
def State.withVessel (v : Vessel) (s : State) : State := { s with cev := { s.cev with vessel := some v, freshness := .fresh, staleness := some 50 } }

theorem takeVessel_eq (heel pitch wind : Int) (s : State) :
    s.takeVessel heel pitch wind =
      (if s.cev.freshness = .stale then ((s.withVessel (clampVessel heel pitch wind)).recompute [1, 2]).clearAlarm .vesselDataLost 0
      else (s.withVessel (clampVessel heel pitch wind)).recompute [1, 2]) := by
  unfold State.takeVessel
  simp only [beq_iff_eq]
  rfl

theorem attitudeOk_eq (t : Tuning) (v : Vessel) (c : Tri) : attitudeOk t v c =
    if t.heelLimit < v.heel.natAbs ∨ t.pitchLimit < v.pitch.natAbs then .no
    else if v.heel.natAbs + t.attitudeHyst ≤ t.heelLimit ∧ v.pitch.natAbs + t.attitudeHyst ≤ t.pitchLimit then .yes
    else if c = .yes then .yes else .no := by
  have hle (a l h : Nat) : (a : Int) ≤ (l : Int) - h ↔ a + h ≤ l := by omega
  simp only [attitudeOk, hysteresis, hle, Bool.or_eq_true, Bool.and_eq_true, decide_eq_true_eq, gt_iff_lt, beq_iff_eq]

theorem windOk_eq (t : Tuning) (v : Vessel) (c : Tri) : windOk t v c =
    if t.windLimit < v.wind then .no else if v.wind + t.windHyst ≤ t.windLimit then .yes else if c = .yes then .yes else .no := by
  have hle (a l h : Nat) : (a : Int) ≤ (l : Int) - h ↔ a + h ≤ l := by omega
  simp [windOk, hysteresis, hle]

section
variable (heel pitch wind : Int) (s : State)

/-- What VESSEL_STATE leaves of what no report touches, and of the units. -/
theorem takeVessel_frame :
    (s.takeVessel heel pitch wind).fixed = (s.withVessel (clampVessel heel pitch wind)).fixed ∧ (s.takeVessel heel pitch wind).units = s.units ∧
      (s.takeVessel heel pitch wind).pmn = s.pmn := by
  have hu : ((s.withVessel (clampVessel heel pitch wind)).recompute [1, 2]).units = s.units := units_recompute _ _
  have hp : ((s.withVessel (clampVessel heel pitch wind)).recompute [1, 2]).pmn = s.pmn := recompute_pmn _ _
  rw [takeVessel_eq]
  split
  · exact ⟨by rw [fixed_clearAlarm, fixed_recompute], hu, hp⟩
  · exact ⟨fixed_recompute _ _, hu, hp⟩

/-- The conditions after VESSEL_STATE: c1 and c2 from the stored data. -/
theorem cond_takeVessel (i : Nat) : (s.takeVessel heel pitch wind).cond i =
    if s.cev.started = true ∧ i ∈ [1, 2] ∧ i < s.cev.conds.length then (s.withVessel (clampVessel heel pitch wind)).evalCond i else s.cond i := by
  have h := cond_recompute [1, 2] (s.withVessel (clampVessel heel pitch wind)) i
  rw [takeVessel_eq]
  split <;> exact h

theorem takeVessel_cleared (hs : s.cev.freshness = .stale) (ha : s.aeu.AlarmsOk) : (s.takeVessel heel pitch wind).aeu.Cleared .vesselDataLost 0 := by
  rw [takeVessel_eq, if_pos hs]
  exact clearAlarm_cleared (recompute_alarmsOk (s := s.withVessel _) ha [1, 2]) _ _

end

/-- Settles O24. -/
theorem vesselStateStoresTheData : Obligations.VesselStateStoresTheData := by
  intro run heel pitch wind s hr hp
  refine ⟨fun hc hn st => ?_, fun hb => ?_⟩
  · have hbare : (s.takeRun st run).bareCheck = true := by rw [bareCheck_takeRun, bareCheck_iff]; exact ⟨hc, hn⟩
    exact congrArg _ (serve_work_answered hr hp (by simp [ruleVessel, hbare, State.refuse]))
  · have hbare (st : Station) : (s.takeRun st run).bareCheck = false := by
      rw [bareCheck_takeRun, ← Bool.not_eq_true, bareCheck_iff]
      rintro ⟨hc, hn⟩
      exact hb.elim (fun h => h hc) (fun h => h hn)
    refine ⟨congrArg _ (serve_work_answered hr hp (by simp [ruleVessel, hbare, State.refuse])), ?_⟩
    obtain ⟨hfix, hunits, hpmn⟩ := takeVessel_frame heel pitch wind (s.takeRun .bridge run)
    have hfin := (fixed_finish _).trans hfix
    obtain ⟨hhpa, hldu, hadu, hosq, -⟩ := State.units_eq hunits
    have hcond := cond_takeVessel heel pitch wind (s.takeRun .bridge run)
    simp only [takeRun_cev, cond_takeRun] at hcond
    have htune : ((s.takeRun .bridge run).withVessel (clampVessel heel pitch wind)).tune = s.tune := by
      show (s.takeRun .bridge run).layout.tune = _
      rw [takeRun_layout]
      rfl
    have hkept (i : Nat) : ((s.takeRun .bridge run).withVessel (clampVessel heel pitch wind)).cond i = s.cond i := cond_takeRun .bridge run s i
    refine ⟨(s.takeRun .bridge run).takeVessel heel pitch wind, congrArg _ (serve_work_accepted hr hp (by simp only [ruleVessel, hbare]; rfl)),
      congrArg Fixed.vessel hfin, congrArg Fixed.freshness hfin, congrArg Fixed.staleness hfin, fun hst hn => ⟨?_, ?_⟩, fun hs ha => ?_, fun i h1 h2 => ?_,
      congrArg Fixed.amu hfin, (congrArg Fixed.lst hfin).trans (takeRun_lst ..), (congrArg Fixed.isc hfin).trans (takeRun_isc ..),
      hosq.trans (takeRun_osq ..), hhpa.trans (takeRun_hpa ..), hldu.trans (takeRun_ldu ..), hadu.trans (takeRun_adu ..), hpmn.trans (takeRun_pmn ..)⟩
    · rw [hcond, if_pos ⟨hst, by simp, by omega⟩, ← attitudeOk_eq, ← htune, ← hkept]
      rfl
    · rw [hcond, if_pos ⟨hst, by simp, by omega⟩, ← windOk_eq, ← htune, ← hkept]
      rfl
    · exact takeVessel_cleared _ _ _ _ (by rw [takeRun_cev]; exact hs) (by rw [takeRun_aeu]; exact ha)
    · rw [hcond, if_neg (by simp [h1, h2])]

end Sys2Proof.Machine
end
section
namespace Sys2Proof.Machine

/-! ### The clear of a kind (R158) -/

/-- A clear of every subject of a list leaves no entry of the kind active, where it stood active under a subject of the list alone. -/
theorem foldl_clear_cleared (k : AlarmKind) {l : List Nat} {a : Aeu} (h : a.AlarmsOk)
    (hl : ∀ x ∈ a.alarms, x.kind = k → x.subject ∈ l ∨ x.state = .unackCleared) (i : Nat) :
    (l.foldl (fun b j => b.clear k j) a).Cleared k i := by
  induction l generalizing a with
  | nil => exact fun x hx hk _ => (hl x hx hk).resolve_left List.not_mem_nil
  | cons j l ih =>
    refine ih (h.clear k j) fun x hx hk => ?_
    by_cases hj : x.subject = j
    · exact .inr (Aeu.clear_cleared h k j x hx hk hj)
    · rcases Aeu.mem_clear hx with hm | ⟨hs, -⟩
      · exact (hl x hm hk).imp_left fun hs => (List.mem_cons.1 hs).resolve_left hj
      · exact .inr hs

/-- The clear of a kind leaves no entry of it active. -/
theorem clearKind_cleared {a : Aeu} (h : a.AlarmsOk) (k : AlarmKind) (i : Nat) : (a.clearKind k).Cleared k i :=
  foldl_clear_cleared k h (fun x hx hk => .inl (List.mem_map.2 ⟨x, List.mem_filter.2 ⟨hx, by simp [hk]⟩, rfl⟩)) i

/-! ### The end of the start-up check (R171, R188) -/

theorem banks_modBanks_all {o : Ost} (h : o.banks.length = 6) (f : Bank → Bank) : (o.modBanks [0, 1, 2, 3, 4, 5] f).banks = o.banks.map f := by
  match hb : o.banks, h with
  | [b0, b1, b2, b3, b4, b5], _ => simp [Ost.modBanks, banks_modBank, hb, lmod]

/-- The phase is set by whether the layout is valid: STARTUP leaves the banks of a CONFIGURED part, CEV computes the conditions of an UNCONFIGURED one. -/
def State.phaseSet (s : State) : State :=
  if s.lst.active.isSome then { s with lst := { s.lst with phase := .configured } }.modOst Ost.startupOver
  else { s with lst := { s.lst with phase := .unconfigured } }.firstCompute

/-- The condition of every RESTART entry clears, and the first relay demands are made. -/
def State.demandsMade (s : State) : State :=
  s.withAeu (fun a => { (a.clearKind .restart) with demanding := true, sea := wantsSea s.amu.mode s.cev.closure })

section
variable {s : State}

theorem endCheck_eq (h : s.lst.phase = .checking) : s.endCheck = s.phaseSet.demandsMade := by
  rw [State.endCheck, if_pos (by simp [h])]
  rfl

theorem phaseSet_valid (h : s.lst.active.isSome = true) :
    s.phaseSet = { s with lst := { s.lst with phase := .configured } }.modOst Ost.startupOver := if_pos h

theorem phaseSet_invalid (h : s.lst.active.isSome = false) :
    s.phaseSet = { s with lst := { s.lst with phase := .unconfigured } }.firstCompute := if_neg (by simp [h])

theorem fixed_phaseSet_invalid (h : s.lst.active.isSome = false) :
    s.phaseSet.fixed = { s.fixed with lst := { s.lst with phase := .unconfigured }, started := true } := by
  rw [phaseSet_invalid h, State.firstCompute, fixed_recompute]
  rfl

theorem phaseSet_lst : s.phaseSet.lst = { s.lst with phase := if s.lst.active.isSome then .configured else .unconfigured } := by
  cases h : s.lst.active.isSome with
  | true => rw [phaseSet_valid h]; rfl
  | false => exact congrArg Fixed.lst (fixed_phaseSet_invalid h)

theorem phaseSet_banks (hb : s.ost.banks.length = 6) :
    s.phaseSet.ost.banks = if s.lst.active.isSome then s.ost.banks.map (fun b => { b with startup := false }) else s.ost.banks := by
  cases h : s.lst.active.isSome with
  | true =>
    rw [phaseSet_valid h]
    exact banks_modBanks_all hb _
  | false => exact congrArg Fixed.banks (fixed_phaseSet_invalid h)

theorem phaseSet_started : s.phaseSet.cev.started = (s.cev.started || s.lst.active.isNone) := by
  cases h : s.lst.active.isSome with
  | true =>
    rw [phaseSet_valid h, ← Option.not_isSome, h]
    exact (Bool.or_false _).symm
  | false =>
    rw [← Option.not_isSome, h]
    exact (congrArg Fixed.started (fixed_phaseSet_invalid h)).trans (Bool.or_true _).symm

theorem phaseSet_alarmsOk (ha : s.aeu.AlarmsOk) : s.phaseSet.aeu.AlarmsOk := by
  cases h : s.lst.active.isSome with
  | true => rw [phaseSet_valid h]; exact ha
  | false =>
    rw [phaseSet_invalid h]
    exact recompute_alarmsOk (s := { s with lst := { s.lst with phase := .unconfigured }, cev := { s.cev with started := true } }) ha _

/-- The blocks that the end of the check does not touch. -/
theorem phaseSet_frame : s.phaseSet.sli = s.sli ∧ s.phaseSet.amu = s.amu ∧ s.phaseSet.isc = s.isc ∧ s.phaseSet.pmn = s.pmn ∧
    s.phaseSet.hpa = s.hpa ∧ s.phaseSet.ldu = s.ldu ∧ s.phaseSet.adu = s.adu ∧ s.phaseSet.osq = s.osq := by
  cases h : s.lst.active.isSome with
  | true => rw [phaseSet_valid h]; exact ⟨rfl, rfl, rfl, rfl, rfl, rfl, rfl, rfl⟩
  | false =>
    have hf := fixed_phaseSet_invalid h
    rw [phaseSet_invalid h, State.firstCompute] at hf ⊢
    have hu := units_recompute (List.range 32) { s with lst := { s.lst with phase := .unconfigured }, cev := { s.cev with started := true } }
    exact ⟨congrArg Fixed.sli hf, congrArg Fixed.amu hf, congrArg Fixed.isc hf, recompute_pmn _ _,
      hpa_of_units hu, ldu_of_units hu, adu_of_units hu, osq_of_units hu⟩

end

/-- No RESTART entry stays active. -/
theorem demandsMade_restart {s : State} (h : s.aeu.AlarmsOk) {x : Alarm} (hx : x ∈ s.demandsMade.aeu.alarms) (hk : x.kind = .restart) :
    x.state = .unackCleared :=
  clearKind_cleared h .restart x.subject x hx hk rfl

/-- Settles O5. -/
theorem startupCheckEndSetsPhase : Obligations.StartupCheckEndSetsPhase := by
  unfold Obligations.StartupCheckEndSetsPhase
  intro s hh hp ha hb
  obtain ⟨hsli, hamu, hisc, hpmn, hhpa, hldu, hadu, hosq⟩ := phaseSet_frame (s := s)
  refine ⟨s.endCheck, congrArg Host.Outcome.next (act_of_not_held hh _), ?_⟩
  rw [endCheck_eq hp]
  exact ⟨phaseSet_lst, phaseSet_banks hb, phaseSet_started, rfl, fun x hx hk => demandsMade_restart (phaseSet_alarmsOk ha) hx hk, rfl, rfl,
    fixed_finish _, hsli, hamu, hisc, hpmn, hhpa, hldu, hadu, hosq⟩

end Sys2Proof.Machine
end
section
namespace Sys2Proof.Machine

/-! ### Acts that log no change of authority (R168, R178) -/

/-- From `a` to `b` AEU has recorded events, none of them a change of authority, and the event list has stayed in order. -/
def Aeu.LogsAside (a b : Aeu) : Prop :=
  ∃ es, a.Logged b es ∧ (∀ n o, Event.authorityChanged n o ∉ es) ∧ (a.EventsOk → b.EventsOk)

section
variable {a b c : Aeu} {n : Nat}

theorem Aeu.LogsAside.refl (a : Aeu) : a.LogsAside a := ⟨[], .refl a, fun _ _ => List.not_mem_nil, id⟩

theorem Aeu.LogsAside.of_eq (h : b = a) : a.LogsAside b := h ▸ .refl a

theorem Aeu.LogsAside.trans (h : a.LogsAside b) (k : b.LogsAside c) : a.LogsAside c := by
  obtain ⟨es, hl, hn, ho⟩ := h
  obtain ⟨fs, kl, kn, ko⟩ := k
  exact ⟨es ++ fs, hl.trans kl, fun n o hm => (List.mem_append.1 hm).elim (hn n o) (kn n o), ko ∘ ho⟩

theorem Aeu.LoggedRaises.aside (h : a.LoggedRaises n b) (ho : a.EventsOk → b.EventsOk) : a.LogsAside b := by
  obtain ⟨es, hl, -, hr⟩ := h
  refine ⟨es, hl, fun n o hm => ?_, ho⟩
  obtain ⟨k, i, d, he⟩ := hr _ hm
  cases he

theorem Aeu.LogsAside.raise (a : Aeu) (k : AlarmKind) (i : Nat) : a.LogsAside (a.raise k i) :=
  (Aeu.LoggedRaises.raise a k i).aside fun h => Aeu.raise_eventsOk h k i

theorem Aeu.LogsAside.recompute (ids : List Nat) (s : State) : s.aeu.LogsAside (s.recompute ids).aeu :=
  (recompute_logged ids s).aside fun h => recompute_eventsOk h ids

theorem Aeu.LogsAside.event {x : Event} (hx : ∀ n o, x ≠ .authorityChanged n o) (s : State) : s.aeu.LogsAside (s.event x).aeu :=
  ⟨[x], event_logged x s, fun n o hm => hx n o (List.mem_singleton.1 hm).symm, fun h => (h.record x).remake⟩

end

/-! ### A hold cause given (R127, R128) -/

/-- A context that holds: no entry of it stays ACTIVE (R128). -/
def Context.held (x : Context) : Context :=
  { x with
    state := .holding
    inFlight := x.inFlight.map (fun e => { e with state := if e.state == .active then .halted else e.state, due := false }) }

theorem Context.held_not_active (x : Context) : ∀ n ∈ x.held.inFlight, n.state ≠ .active := by
  intro n hn
  obtain ⟨e, -, rfl⟩ := List.mem_map.1 hn
  show (if e.state == .active then EntryState.halted else e.state) ≠ .active
  split
  · simp
  · rename_i h
    simpa using h

/-- OSQ adds a cause at the end of the set, and the hold is an event (R127). -/
def State.causeAdded (c : HoldCause) (s : State) : State := (s.modCtx (fun y => { y with causes := y.causes ++ [c] })).event (.hold c)

section
variable {s : State} {x : Context} {c : HoldCause}

/-- A hold halts the ACTIVE motions by what their units do, which touches no context. -/
theorem hold_calms (s : State) : (s.modCtx Context.held).Calms s.hold :=
  (haltEntries_effect s.inFlight (s.modCtx Context.held)).1

theorem giveCause_none (h : s.osq.context = none) : s.giveCause c = s := by rw [State.giveCause, h]

theorem giveCause_terminal (hx : s.osq.context = some x) (h : x.state = .complete ∨ x.state = .aborted) : s.giveCause c = s := by
  rcases h with h | h <;> simp [State.giveCause, hx, h]

theorem giveCause_known (hx : s.osq.context = some x) (h : x.causes.any (fun k => k.kind == c.kind) = true) : s.giveCause c = s := by
  simp [State.giveCause, hx, h]

theorem giveCause_holding (hx : s.osq.context = some x) (hs : x.state = .holding) (h : x.causes.any (fun k => k.kind == c.kind) = false) :
    s.giveCause c = s.causeAdded c := by
  simp [State.giveCause, State.causeAdded, hx, hs, h]

theorem giveCause_runs (hx : s.osq.context = some x) (hs : x.state = .running) (h : x.causes.any (fun k => k.kind == c.kind) = false) :
    s.giveCause c = (s.causeAdded c).hold := by
  simp [State.giveCause, State.causeAdded, hx, hs, h]

theorem causeAdded_osq (hx : s.osq.context = some x) : (s.causeAdded c).osq = { s.osq with context := some { x with causes := x.causes ++ [c] } } := by
  simp [State.causeAdded, hx]

theorem causeAdded_aside (c : HoldCause) (s : State) : s.aeu.LogsAside (s.causeAdded c).aeu :=
  .event (by simp) (s.modCtx _)

end

/-- What OSQ's and its units' taking of a report leaves: CEV, and all but the context and the jog in OSQ; AEU logs no change of authority. -/
structure State.OsqTakes (s e : State) : Prop where
  cev : e.cev = s.cev
  aeu : s.aeu.LogsAside e.aeu

theorem State.OsqTakes.refl (s : State) : s.OsqTakes s := ⟨rfl, .refl _⟩

theorem State.OsqTakes.trans {s m e : State} (h : s.OsqTakes m) (k : m.OsqTakes e) : s.OsqTakes e := ⟨k.cev.trans h.cev, h.aeu.trans k.aeu⟩

theorem State.Calms.osqTakes {s e : State} (h : s.Calms e) : s.OsqTakes e := ⟨h.cev, .of_eq h.aeu⟩

theorem hold_osqTakes (s : State) : s.OsqTakes s.hold :=
  State.OsqTakes.trans (m := s.modCtx Context.held) ⟨rfl, .refl _⟩ (hold_calms s).osqTakes

theorem causeAdded_osqTakes (c : HoldCause) (s : State) : s.OsqTakes (s.causeAdded c) := ⟨rfl, causeAdded_aside c s⟩

section
variable {s : State} {x : Context}

/-- A terminal context takes no cause (R127). -/
theorem terminal_givenCause (h : x.state = .complete ∨ x.state = .aborted) (c : HoldCause) : x.GivenCause c x := by
  refine ⟨fun _ => rfl, fun hs => ?_, fun hs => ?_⟩
  · rcases h with h | h <;> rw [hs] at h <;> cases h
  · rcases h with h | h <;> rw [hs] at h <;> cases h

/-- What a cause given to a context leaves, and what the context becomes (R127, R128). -/
theorem giveCause_given (hx : s.osq.context = some x) (c : HoldCause) :
    s.OsqTakes (s.giveCause c) ∧ ∃ y, (s.giveCause c).osq = { s.osq with context := some y } ∧ x.GivenCause c y := by
  have hself : ({ s.osq with context := some x } : Osq) = s.osq := by rw [← hx]
  cases hk : x.causes.any (fun k => k.kind == c.kind) with
  | true =>
    rw [giveCause_known hx hk]
    refine ⟨.refl s, x, hself.symm, fun _ => rfl, fun _ => by rw [if_pos hk], fun _ hn => ?_⟩
    rw [hn] at hk
    cases hk
  | false =>
    cases hs : x.state with
    | running =>
      rw [giveCause_runs hx hs hk]
      refine ⟨(causeAdded_osqTakes c s).trans (hold_osqTakes _), ({ x with causes := x.causes ++ [c] } : Context).held, ?_, fun h => ?_, fun h => ?_, fun _ hn => ?_⟩
      · rw [(hold_calms _).osq, modCtx_osq, causeAdded_osq hx]
        rfl
      · rcases h with h | h <;> rw [hs] at h <;> cases h
      · rw [hs] at h; cases h
      · refine ⟨rfl, ?_, rfl, rfl, rfl, ?_, Context.held_not_active _⟩
        · show x.causes ++ [c] = [c]
          rw [hn]; rfl
        · simp [Context.held, Function.comp_def]
    | holding =>
      rw [giveCause_holding hx hs hk]
      refine ⟨causeAdded_osqTakes c s, _, causeAdded_osq hx, fun h => ?_, fun _ => by rw [hk]; rfl, fun h => ?_⟩
      · rcases h with h | h <;> rw [hs] at h <;> cases h
      · rw [hs] at h; cases h
    | complete =>
      rw [giveCause_terminal hx (.inl hs)]
      exact ⟨.refl s, x, hself.symm, terminal_givenCause (.inl hs) c⟩
    | aborted =>
      rw [giveCause_terminal hx (.inr hs)]
      exact ⟨.refl s, x, hself.symm, terminal_givenCause (.inr hs) c⟩

theorem giveCause_osqTakes (c : HoldCause) (s : State) : s.OsqTakes (s.giveCause c) := by
  cases h : s.osq.context with
  | none => rw [giveCause_none h]; exact .refl s
  | some x => exact (giveCause_given h c).1

theorem giveCause_jog (c : HoldCause) (s : State) : (s.giveCause c).osq.jog = s.osq.jog := by
  cases h : s.osq.context with
  | none => rw [giveCause_none h]
  | some x =>
    obtain ⟨-, y, hy, -⟩ := giveCause_given h c
    rw [hy]

end

/-! ### The end of a jog (R141) -/

/-- The outputs of a jog go off, its flow and its point are given up, and its axis rests. -/
def State.jogStopped (j : Jog) (s : State) : State := (((s.jogOff j).giveUpFlow Config.jogMotion).release Config.jogMotion).jogRest j

theorem State.Calms.jogOff (j : Jog) (s : State) : s.Calms (s.jogOff j) := by
  unfold State.jogOff
  split
  · exact (State.CoilsOff.driveLock _ _ _ s).calms
  · exact .zeroProps _ s

theorem State.Calms.jogRest (j : Jog) (s : State) : s.Calms (s.jogRest j) := by
  unfold State.jogRest
  split
  · exact .refl s
  · exact .restDrive _ s

theorem State.Calms.jogStopped (j : Jog) (s : State) : s.Calms (s.jogStopped j) :=
  ((State.Calms.jogOff j s).trans (.letGo _ _)).trans (.jogRest j _)

theorem endJog_osqTakes (cause : JogEnd) (s : State) : s.OsqTakes (s.endJog cause) := by
  unfold State.endJog
  split
  · exact .refl s
  · rename_i j _
    split
    · exact .refl s
    · exact (State.Calms.jogStopped j s).osqTakes.trans ⟨rfl, .refl _⟩

theorem endJog_osq (cause : JogEnd) (s : State) : (s.endJog cause).osq = { s.osq with jog := s.osq.jog.map (Jog.ended cause) } := by
  cases hj : s.osq.jog with
  | none =>
    have he : s.endJog cause = s := by simp only [State.endJog, hj]
    rw [he, Option.map_none, ← hj]
  | some j =>
    by_cases hp : j.phase = .ended
    · have he : s.endJog cause = s := by simp [State.endJog, hj, hp]
      rw [he, Option.map_some, Jog.ended, if_pos hp, ← hj]
    · have he : s.endJog cause = (s.jogStopped j).modJog (fun x => { x with phase := .ended, granted := none, timer := none, cause := some cause }) := by
        simp [State.endJog, hj, hp, State.jogStopped]
      rw [he, modJog_osq, (State.Calms.jogStopped j s).osq, hj]
      simp [Jog.ended, hp]

/-! ### Authority passes away from a station (R130, R141, R178) -/

/-- OSQ's context is given the loss of a station's authority. -/
def State.lossGiven (st : Station) (s : State) : State :=
  if s.running then s.giveCause { kind := .authorityLost, subject := .station st } else s

theorem authorityLost_eq (st : Station) (s : State) : s.authorityLost st =
    if (s.lossGiven st).osq.jog.any (fun j => j.station == st) then (s.lossGiven st).endJog .authorityLost else s.lossGiven st := rfl

theorem lossGiven_osqTakes (st : Station) (s : State) : s.OsqTakes (s.lossGiven st) := by
  unfold State.lossGiven
  split
  · exact giveCause_osqTakes _ s
  · exact .refl s

theorem lossGiven_jog (st : Station) (s : State) : (s.lossGiven st).osq.jog = s.osq.jog := by
  unfold State.lossGiven
  split
  · exact giveCause_jog _ s
  · rfl

theorem authorityLost_osqTakes (st : Station) (s : State) : s.OsqTakes (s.authorityLost st) := by
  rw [authorityLost_eq]
  split
  · exact (lossGiven_osqTakes st s).trans (endJog_osqTakes _ _)
  · exact lossGiven_osqTakes st s

theorem authorityLost_context {st : Station} {s : State} {x : Context} (hx : s.osq.context = some x) (hs : x.state = .running) :
    ∃ y, (s.authorityLost st).osq.context = some y ∧ x.GivenCause { kind := .authorityLost, subject := .station st } y := by
  have hrun : s.running = true := by simp [State.running, hx, hs]
  have hg : s.lossGiven st = s.giveCause { kind := .authorityLost, subject := .station st } := if_pos hrun
  obtain ⟨-, y, hy, hgiven⟩ := giveCause_given hx { kind := .authorityLost, subject := .station st }
  refine ⟨y, ?_, hgiven⟩
  rw [authorityLost_eq]
  split
  · rw [endJog_osq, hg, hy]
  · rw [hg, hy]

theorem authorityLost_jog {st : Station} {s : State} {j : Jog} (hj : s.osq.jog = some j) (hs : j.station = st) :
    (s.authorityLost st).osq.jog = some (j.ended .authorityLost) := by
  have hl := (lossGiven_jog st s).trans hj
  rw [authorityLost_eq, if_pos (by simp [hl, hs]), endJog_osq, hl]
  rfl

/-! ### A link that falls silent (R179) -/

/-- The link of a station is SILENT. -/
def State.silenced (st : Station) (s : State) : State := s.modLink st (fun l => { l with silence := none, active := false })

/-- The authority that a station holds passes to NONE (R178). -/
def State.passAway (st : Station) (s : State) : State := if s.holds st then s.changeHolder .none else s

/-- A silent bridge takes consent away and is reported (R179). -/
def State.bridgeGone (s : State) : State := (s.setConsent false).raise .bridgeLinkLost 0

theorem linkSilent_stopped {st : Station} {s : State} (h : (s.link st).silence = none) : s.linkSilent st = s := by simp [State.linkSilent, h]

theorem linkSilent_running {st : Station} {s : State} (h : (s.link st).silence ≠ none) :
    s.linkSilent st = match st with
      | .bridge => ((s.silenced st).passAway st).bridgeGone
      | .stand => (s.silenced st).passAway st := by
  have hs : (s.link st).silence.isSome = true := Option.isSome_iff_ne_none.2 h
  cases st <;> exact if_pos hs

section
variable {st : Station} {s : State}

theorem passAway_held (h : s.amu.holder = holderOf st) :
    s.passAway st = (((s.passTo .none).event (.authorityChanged .none (holderOf st))).authorityLost st).dropBufferOf st := by
  rw [State.passAway, if_pos (holds_iff.2 h), changeHolder_from h (holderOf_ne_none st).symm]

theorem passAway_other (h : s.amu.holder ≠ holderOf st) : s.passAway st = s := if_neg fun hh => h (holds_iff.1 hh)

theorem fixed_passAway (st : Station) (s : State) : (s.passAway st).fixed =
    { s.fixed with
      amu := { s.amu with
        holder := if s.amu.holder = holderOf st then .none else s.amu.holder
        runTimer := if s.amu.holder = holderOf st then none else s.amu.runTimer }
      lst := { s.lst with buffer := if s.amu.holder = holderOf st then s.lst.buffer.filter (fun b => b.owner != st) else s.lst.buffer } } := by
  by_cases h : s.amu.holder = holderOf st
  · rw [State.passAway, if_pos (holds_iff.2 h), fixed_changeHolder_from h (holderOf_ne_none st).symm]
    simp only [if_pos h]
  · rw [passAway_other h]
    simp only [if_neg h]
    rfl

/-- The passing of authority is one event, logged first; what the units and OSQ do is logged after it. -/
theorem passAway_logged (st : Station) (s : State) : ∃ m : Aeu, m.LogsAside (s.passAway st).aeu ∧
    s.aeu.Logged m (if s.amu.holder = holderOf st then [.authorityChanged .none (holderOf st)] else []) ∧ (s.aeu.EventsOk → m.EventsOk) := by
  by_cases h : s.amu.holder = holderOf st
  · refine ⟨((s.passTo .none).event (.authorityChanged .none (holderOf st))).aeu, ?_, ?_, fun ho => (ho.record _).remake⟩
    · rw [passAway_held h, dropBufferOf_eq]
      exact (authorityLost_osqTakes st _).aeu
    · rw [if_pos h]
      exact event_logged _ (s.passTo .none)
  · rw [passAway_other h, if_neg h]
    exact ⟨s.aeu, .refl _, .refl _, id⟩

theorem passAway_cev (st : Station) (s : State) : (s.passAway st).cev = s.cev := by
  by_cases h : s.amu.holder = holderOf st
  · rw [passAway_held h, dropBufferOf_eq]
    exact (authorityLost_osqTakes st _).cev
  · rw [passAway_other h]

theorem passAway_osq (h : s.amu.holder = holderOf st) :
    (s.passAway st).osq = (((s.passTo .none).event (.authorityChanged .none (holderOf st))).authorityLost st).osq := by
  rw [passAway_held h, dropBufferOf_eq]

theorem setConsent_eq (on : Bool) (s : State) :
    s.setConsent on = s ∧ s.amu.consent = on ∨ s.setConsent on = State.recompute [3] { s with amu := { s.amu with consent := on } } ∧ s.amu.consent ≠ on := by
  unfold State.setConsent
  split
  · rename_i h
    exact .inl ⟨rfl, eq_of_beq h⟩
  · rename_i h
    exact .inr ⟨rfl, fun he => h (beq_iff_eq.2 he)⟩

theorem setConsent_aside (on : Bool) (s : State) : s.aeu.LogsAside (s.setConsent on).aeu := by
  rcases setConsent_eq on s with ⟨h, -⟩ | ⟨h, -⟩
  · rw [h]; exact .refl _
  · rw [h]; exact .recompute _ { s with amu := { s.amu with consent := on } }

theorem setConsent_units (on : Bool) (s : State) : (s.setConsent on).units = s.units := by
  rcases setConsent_eq on s with ⟨h, -⟩ | ⟨h, -⟩
  · rw [h]
  · rw [h, units_recompute]; rfl

/-- A change of consent is followed by c3 (R37, R38). -/
theorem setConsent_cond {on : Bool} (hc : s.amu.consent ≠ on) (hs : s.cev.started = true) (hl : s.cev.conds.length = 32) :
    (s.setConsent on).cond 3 = Tri.ofBool on := by
  rcases setConsent_eq on s with ⟨-, h⟩ | ⟨h, -⟩
  · exact absurd h hc
  · rw [h, cond_recompute, if_pos ⟨hs, List.mem_singleton_self 3, by rw [hl]; decide⟩]
    rfl

theorem fixed_bridgeGone (s : State) : s.bridgeGone.fixed = { s.fixed with amu := { s.amu with consent := false } } := by
  rw [State.bridgeGone, fixed_raise, fixed_setConsent]

theorem bridgeGone_aside (s : State) : s.aeu.LogsAside s.bridgeGone.aeu :=
  (setConsent_aside false s).trans (Aeu.LogsAside.trans (.raise _ .bridgeLinkLost 0) ⟨[], Aeu.Logged.remake (.refl _), fun _ _ => List.not_mem_nil, Aeu.EventsOk.remake⟩)

theorem bridgeGone_osq (s : State) : s.bridgeGone.osq = s.osq := osq_of_units (setConsent_units false s)

theorem bridgeGone_raised (s : State) : s.bridgeGone.aeu.Raised .bridgeLinkLost 0 :=
  Aeu.StandsMaybeAcked.raised (a := ((s.setConsent false).aeu.raise .bridgeLinkLost 0)) (Aeu.raise_standsMaybeAcked _ _ _)

/-- What a link that falls silent leaves of what no report touches. -/
theorem fixed_linkSilent (h : (s.link st).silence ≠ none) : (s.linkSilent st).fixed =
    { s.fixed with
      sli := (s.silenced st).sli
      amu :=
        { holder := if s.amu.holder = holderOf st then .none else s.amu.holder
          runTimer := if s.amu.holder = holderOf st then none else s.amu.runTimer
          mode := s.amu.mode
          consent := if st = .bridge then false else s.amu.consent }
      lst := { s.lst with buffer := if s.amu.holder = holderOf st then s.lst.buffer.filter (fun b => b.owner != st) else s.lst.buffer } } := by
  have hp := fixed_passAway st (s.silenced st)
  rw [linkSilent_running h]
  cases st with
  | bridge => rw [fixed_bridgeGone, amu_of_fixed (s := { s.silenced .bridge with amu := _, lst := _ }) hp, hp]; rfl
  | stand => exact hp

theorem linkSilent_osq (h : (s.link st).silence ≠ none) : (s.linkSilent st).osq = ((s.silenced st).passAway st).osq := by
  rw [linkSilent_running h]
  cases st with
  | bridge => exact bridgeGone_osq _
  | stand => rfl

theorem linkSilent_aside (h : (s.link st).silence ≠ none) : ((s.silenced st).passAway st).aeu.LogsAside (s.linkSilent st).aeu := by
  rw [linkSilent_running h]
  cases st with
  | bridge => exact bridgeGone_aside _
  | stand => exact .refl _

/-- The passing of authority is the first event of a link's silence, and the only one of its kind (R178). -/
theorem linkSilent_events (h : (s.link st).silence ≠ none) (ho : s.aeu.EventsOk) : ∃ es : List Event, (∀ n o, Event.authorityChanged n o ∉ es) ∧
    (s.linkSilent st).aeu.events = newestRecords (s.aeu.events ++ s.aeu.dated
      ((if s.amu.holder = holderOf st then [.authorityChanged .none (holderOf st)] else []) ++ es)) := by
  obtain ⟨m, hm, hl, hk⟩ := passAway_logged st (s.silenced st)
  rw [State.silenced, modLink_aeu] at hl hk
  rw [modLink_amu] at hl
  obtain ⟨es, hes, hn, hok⟩ := hm.trans (linkSilent_aside h)
  exact ⟨es, hn, (hl.trans hes).events_eq (hok (hk ho))⟩

/-- Consent that a silent bridge takes away is followed by c3 (R37, R38, R179). -/
theorem linkSilent_cond (h : (s.link .bridge).silence ≠ none) (hc : s.amu.consent = true) (hs : s.cev.started = true) (hl : s.cev.conds.length = 32) :
    (s.linkSilent .bridge).cond 3 = .no := by
  have hcev : ((s.silenced .bridge).passAway .bridge).cev = s.cev := (passAway_cev _ _).trans (modLink_cev _ _ _)
  have hamu := congrArg (fun f => f.amu.consent) (fixed_passAway .bridge (s.silenced .bridge))
  rw [linkSilent_running h]
  refine setConsent_cond (on := false) (fun hf => ?_) ?_ ?_
  · exact absurd (hc.symm.trans (hamu.symm.trans hf)) (by simp)
  · rw [hcev]; exact hs
  · rw [hcev]; exact hl

end

/-- Settles O42. -/
theorem silentLinkLosesAuthority : Obligations.SilentLinkLosesAuthority := by
  unfold Obligations.SilentLinkLosesAuthority
  refine fun st s hr => ⟨fun h => exec_act_same hr (linkSilent_stopped h), fun h => ?_⟩
  obtain ⟨hisc, hamu, hlst, hsli⟩ := finish_parts (s.linkSilent st)
  have hf := fixed_linkSilent h
  have hlink (x : Station) : (finish (s.linkSilent st)).link x = (s.silenced st).link x := by
    have hs := hsli.trans (congrArg Fixed.sli hf)
    cases x
    · exact congrArg Sli.bridge hs
    · exact congrArg Sli.stand hs
  have haway : s.amu.holder = holderOf st → (s.linkSilent st).osq =
      ((((s.silenced st).passTo .none).event (.authorityChanged .none (holderOf st))).authorityLost st).osq := fun hh =>
    (linkSilent_osq h).trans (passAway_osq (by rw [State.silenced, modLink_amu]; exact hh))
  have hosq : ((((s.silenced st).passTo .none).event (.authorityChanged .none (holderOf st)))).osq = s.osq := modLink_osq _ _ _
  refine ⟨s.linkSilent st, exec_act hr _, (hlink st).trans (link_modLink_self _ _ _), fun x hx => (hlink x).trans (link_modLink_of_ne hx.symm _ _),
    hamu.trans (congrArg Fixed.amu hf), hlst.trans (congrArg Fixed.lst hf), hisc.trans (congrArg Fixed.isc hf), linkSilent_events h, ?_, ?_, fun hh => ?_,
    fun hh => ⟨fun x hx hs => ?_, fun j hj hs => ?_⟩⟩
  · rintro rfl
    rw [linkSilent_running h]
    exact bridgeGone_raised _
  · rintro rfl
    exact linkSilent_cond h
  · rw [linkSilent_osq h, passAway_other (by rw [State.silenced, modLink_amu]; exact hh)]
    exact modLink_osq _ _ _
  · rw [haway hh]
    exact authorityLost_context (hosq ▸ hx) hs
  · rw [haway hh]
    exact authorityLost_jog (hosq ▸ hj) hs

end Sys2Proof.Machine
end
section
namespace Sys2Proof.Machine

/-! ### Conditions and their terms (R36, R39, R40) -/

section
variable {xs ys : List Tri} {s : State}

theorem all_no : Tri.all xs = .no ↔ .no ∈ xs := by
  by_cases h : .no ∈ xs <;> by_cases hu : .unknown ∈ xs <;> simp [Tri.all, h, hu]

theorem all_unknown (h : .no ∉ xs) (hu : .unknown ∈ xs) : Tri.all xs = .unknown := by simp [Tri.all, h, hu]

theorem all_yes (h : ∀ v ∈ xs, v = .yes) : Tri.all xs = .yes := by
  have hn : Tri.no ∉ xs := fun hm => absurd (h _ hm) (by simp)
  have hu : Tri.unknown ∉ xs := fun hm => absurd (h _ hm) (by simp)
  simp [Tri.all, hn, hu]

/-- The order of the terms does not count: the value turns on which values stand among them. -/
theorem all_perm (h : xs.Perm ys) : Tri.all xs = Tri.all ys := by
  simp only [Tri.all, h.any_eq]

theorem evalCond_undefined {i : Nat} (h : 8 ≤ i) (hn : tget s.layout.conditions i = none) : s.evalCond i = .unknown := by
  rw [evalCond_layout s h, hn]
  rfl

theorem evalCond_defined {i : Nat} {ts : List Term} (h : 8 ≤ i) (ht : tget s.layout.conditions i = some ts) :
    s.evalCond i = Tri.all (ts.map s.termValue) := by
  rw [evalCond_layout s h, ht]
  rfl

theorem layoutCondition_combines {i : Nat} {ts : List Term} (h : 8 ≤ i) (ht : tget s.layout.conditions i = some ts) :
    ((∃ t ∈ ts, s.termValue t = .no) → s.evalCond i = .no) ∧
    ((∀ t ∈ ts, s.termValue t ≠ .no) → (∃ t ∈ ts, s.termValue t = .unknown) → s.evalCond i = .unknown) ∧
    ((∀ t ∈ ts, s.termValue t = .yes) → s.evalCond i = .yes) := by
  rw [evalCond_defined h ht]
  refine ⟨fun hn => all_no.2 (List.mem_map.2 hn), fun hn hu => all_unknown (fun hm => ?_) (List.mem_map.2 hu), fun hy => all_yes fun v hv => ?_⟩
  · obtain ⟨t, htm, hv⟩ := List.mem_map.1 hm
    exact hn t htm hv
  · obtain ⟨t, htm, rfl⟩ := List.mem_map.1 hv
    exact hy t htm

theorem ofBool_decide (p : Prop) [Decidable p] : Tri.ofBool (decide p) = if p then .yes else .no := by
  by_cases h : p <;> simp [Tri.ofBool, h]

/-- A lock term whose lock's sensors conflict (R39). -/
theorem termValue_lock_conflict {p : Nat} {d : LockDyn} (hd : s.lock? p = some d) (h : d.fault = some .sensorConflict ∨ d.confirmed = .conflict) :
    s.termValue ⟨p, .engaged⟩ = .unknown ∧ s.termValue ⟨p, .retracted⟩ = .unknown := by
  simp only [State.termValue, lock?_iff.1 hd]
  rcases h with h | h <;> simp [h]

theorem termValue_lock {p : Nat} {d : LockDyn} (hd : s.lock? p = some d) (hf : d.fault ≠ some .sensorConflict) (hc : d.confirmed ≠ .conflict) :
    s.termValue ⟨p, .engaged⟩ = (if d.confirmed = .engaged then .yes else .no) ∧
      s.termValue ⟨p, .retracted⟩ = (if d.confirmed = .retracted then .yes else .no) := by
  simp only [State.termValue, lock?_iff.1 hd]
  simp [hf, hc, Tri.ofBool]

/-- An axis term whose axis has no trusted position (R39). -/
theorem termValue_axis_unknown {p : Nat} {d : AxisDyn} (hd : s.axis? p = some d) (h : d.p = none ∨ d.fault = some .channelFault ∨ d.fault = some .skew)
    (req : Requirement) : s.termValue ⟨p, req⟩ = .unknown := by
  have hp := axis?_iff.1 hd
  rcases h with h | h | h <;> cases req <;> simp [State.termValue, hp, h]

theorem termValue_axis {p q : Nat} {d : AxisDyn} (hd : s.axis? p = some d) (hq : d.p = some q) (hf : d.fault ≠ some .channelFault) (hk : d.fault ≠ some .skew) :
    s.termValue ⟨p, .atClosed⟩ = (if d.zone = .closedEnd then .yes else .no) ∧
      s.termValue ⟨p, .atOpen⟩ = (if d.zone = .openEnd then .yes else .no) ∧
      (∀ x, s.termValue ⟨p, .atLeast x⟩ = if x ≤ q then .yes else .no) ∧
      (∀ x, s.termValue ⟨p, .atMost x⟩ = if q ≤ x then .yes else .no) := by
  simp only [State.termValue, axis?_iff.1 hd]
  simp [hq, hf, hk, Tri.ofBool]

/-! ### The built-in conditions (R38) -/

theorem evalCond_estop (s : State) : s.evalCond 0 = match s.ost.estop with
    | .clear => .yes
    | .active => .no
    | .undecided => .unknown := rfl

theorem evalCond_input (s : State) (k : Option Nat) : (k = none → s.inputCondition k = .unknown) ∧
    ∀ n d, k = some n → tget s.isc.field n = some d → s.inputCondition k = if d.debounced = true then .yes else .no := by
  refine ⟨?_, ?_⟩
  · rintro rfl
    rfl
  · rintro n d rfl hd
    simp only [State.inputCondition, Option.bind_some, hd]
    rfl

theorem evalCond_pumps (s : State) : ((∃ q ∈ s.hpa.pumps, q.2.state ≠ .faulted) → s.evalCond 6 = .yes) ∧
    ((∀ q ∈ s.hpa.pumps, q.2.state = .faulted) → s.evalCond 6 = .no) := by
  have hv : s.evalCond 6 = Tri.ofBool (s.hpa.pumps.any (fun e => e.2.state != .faulted)) := rfl
  rw [hv]
  refine ⟨fun ⟨q, hq, hs⟩ => ?_, fun h => ?_⟩
  · rw [List.any_eq_true.2 ⟨q, hq, by simp [hs]⟩]; rfl
  · rw [List.any_eq_false.2 fun q hq => by simp [h q hq]]; rfl

theorem evalCond_mode (s : State) : s.evalCond 7 = if s.amu.mode = .harbour then .yes else .no := by
  have hv : s.evalCond 7 = Tri.ofBool (s.amu.mode == .harbour) := rfl
  simp [hv, Tri.ofBool]

end

/-! ### A recompute (R37, R154, R155) -/

section
variable {s : State} {ids : List Nat}

theorem ofTri_eq (v i : Tri) : Closure.ofTri v i =
    { visor := Closed.ofTri v, inner := Closed.ofTri i
      overall := if v = .yes ∧ i = .yes then .secured else if v = .no ∨ i = .no then .notSecured else .unknown } := by
  cases v <;> cases i <;> rfl

theorem recompute_unchanged (h : s.cev.started = true) (hc : s.changes ids = []) (hn : (s.withConds (s.condsWith ids)).closureNow = s.cev.closure) :
    s.recompute ids = s := by
  show (if s.cev.started then if ((s.changes ids).isEmpty && (s.withConds (s.condsWith ids)).closureNow == s.cev.closure) = true then s else _ else s) = s
  rw [if_pos h, if_pos (by simp [hc, hn])]

/-- A recompute that leaves CEV leaves the state: a value or the closure state that changes is stored. -/
theorem recompute_of_cev (hlt : ∀ i ∈ ids, i < s.cev.conds.length) (h : s.cev.started = true) (hc : (s.recompute ids).cev = s.cev) : s.recompute ids = s := by
  have hcev := (recompute_cev h ids).symm.trans hc
  refine recompute_unchanged h (List.eq_nil_iff_forall_not_mem.2 fun e he => ?_) (congrArg Cev.closure hcev)
  obtain ⟨hi, -, hne⟩ := State.mem_changes.1 he
  have hcond := cond_recompute ids s e.1
  rw [if_pos ⟨h, hi, hlt _ hi⟩, State.cond, hc] at hcond
  exact hne hcond.symm

/-- A recompute that changes CEV is handed to AEU, then to the other blocks. -/
theorem recompute_handed (h : s.cev.started = true) (hc : (s.recompute ids).cev ≠ s.cev) :
    (s.recompute ids).aeu = ({ s with cev := (s.recompute ids).cev } : State).supervise.aeu ∧
      ∃ cs, (s.recompute ids).todo = s.todo ++ [.changed cs] ∧ ∀ c, c ∈ cs ↔ c.1 ∈ ids ∧ c.2 = s.evalCond c.1 ∧ c.2 ≠ s.cond c.1 := by
  rcases recompute_started h ids with ⟨he, -⟩ | he
  · exact absurd (congrArg State.cev he) hc
  · refine ⟨by rw [he]; rfl, s.changes ids, by rw [he]; rfl, fun c => State.mem_changes.trans ⟨?_, ?_⟩⟩
    · rintro ⟨hi, hv, hne⟩
      exact ⟨hi, hv, hv ▸ hne⟩
    · rintro ⟨hi, hv, hne⟩
      exact ⟨hi, hv, hv ▸ hne⟩

theorem closureNow_header {h : Header} (hh : s.layout.header = some h) : s.closureNow =
    { visor := Closed.ofTri (s.cond h.visorCond), inner := Closed.ofTri (s.cond h.innerCond)
      overall :=
        if s.cond h.visorCond = .yes ∧ s.cond h.innerCond = .yes then .secured
        else if s.cond h.visorCond = .no ∨ s.cond h.innerCond = .no then .notSecured
        else .unknown } := by
  rw [State.closureNow, hh]
  exact ofTri_eq _ _

theorem closureNow_no_header (hh : s.layout.header = none) : s.closureNow = { visor := .unknown, inner := .unknown, overall := .unknown } := by
  rw [State.closureNow, hh]

theorem layout_recompute (ids : List Nat) (s : State) : (s.recompute ids).layout = s.layout := layout_of_fixed (fixed_recompute ids s)

end

/-! ### Supervision of the closure (R160) -/

section
variable {a : Aeu} {m : Mode} {c : Closure}

/-- The element is lost at sea (R160). -/
def lostAtSea (m : Mode) (c : Closed) : Bool := m == .sea && c != .secured

theorem lostAtSea_iff {c : Closed} : lostAtSea m c = true ↔ m = .sea ∧ c ≠ .secured := by simp [lostAtSea]

theorem supervise_alarms (m : Mode) (c : Closure) (a : Aeu) :
    (a.supervise m c).alarms = ((a.element a.lostVisor (lostAtSea m c.visor) 0).element a.lostInner (lostAtSea m c.inner) 1).alarms ∧
      (a.supervise m c).overflow = ((a.element a.lostVisor (lostAtSea m c.visor) 0).element a.lostInner (lostAtSea m c.inner) 1).overflow := ⟨rfl, rfl⟩

theorem element_raises (i : Nat) : a.element false true i = a.raise .closureLost i := rfl

theorem element_clears (i : Nat) : a.element true false i = a.clear .closureLost i := rfl

/-- An alarm that stands is left by what becomes of another closure element. -/
theorem Aeu.Stands.element {i j : Nat} (h : a.Stands .closureLost i) (hne : i ≠ j) (was now : Bool) : (a.element was now j).Stands .closureLost i := by
  have hraise : (a.raise .closureLost j).Stands .closureLost i := by
    rcases h with ⟨x, hx, hp, hs⟩ | ⟨ho, hn⟩
    · obtain ⟨y, hy, hyp, hys⟩ := Aeu.raise_keeps_active hx hs .closureLost j
      exact .inl ⟨y, hy, (Alarm.is_iff .closureLost i y).2 (hyp.trans ((Alarm.is_iff .closureLost i x).1 hp)), hys⟩
    · exact .inr ⟨Aeu.raise_overflow ho _ _, Aeu.noAcked_raise hn _ _⟩
  have hclear : (a.clear .closureLost j).Stands .closureLost i := by
    rcases h with ⟨x, hx, hp, hs⟩ | ⟨ho, hn⟩
    · refine .inl ⟨x, Aeu.mem_clear_of_mem hx ?_, hp, hs⟩
      simp [Alarm.is, (Alarm.is_kind hp).2, hne]
    · exact .inr ⟨by rw [Aeu.clear_overflow hn, ho], Aeu.noAcked_clear hn _ _⟩
  unfold Aeu.element
  split
  · exact hraise
  · split
    · exact hclear
    · exact h

/-- A pair whose condition has cleared is left by what becomes of another closure element. -/
theorem Aeu.Cleared.otherElement {i j : Nat} (h : a.Cleared .closureLost i) (hne : j ≠ i) (was now : Bool) :
    (a.element was now j).Cleared .closureLost i := by
  unfold Aeu.element
  split
  · exact h.raise fun _ => hne
  · split
    · exact h.clear _ _
    · exact h

theorem Aeu.Stands.congr {k : AlarmKind} {i : Nat} {b : Aeu} (h : a.Stands k i) (h1 : b.alarms = a.alarms) (h2 : b.overflow = a.overflow) : b.Stands k i := by
  rw [Aeu.Stands, h1, h2]
  exact h

theorem Aeu.Raised.congr {k : AlarmKind} {i : Nat} {b : Aeu} (h : a.Raised k i) (h1 : b.alarms = a.alarms) (h2 : b.overflow = a.overflow) : b.Raised k i := by
  rw [Aeu.Raised, h1, h2]
  exact h

theorem supervise_raises_visor (hl : lostAtSea m c.visor = true) (hw : a.lostVisor = false) (hn : a.NotAcked .closureLost 0) :
    (a.supervise m c).Raised .closureLost 0 := by
  have h : (a.element a.lostVisor (lostAtSea m c.visor) 0).Stands .closureLost 0 := by
    rw [hw, hl, element_raises]
    exact Aeu.raise_stands hn
  exact (h.element (by decide) a.lostInner (lostAtSea m c.inner)).raised.congr (supervise_alarms m c a).1 (supervise_alarms m c a).2

theorem supervise_raises_inner (hl : lostAtSea m c.inner = true) (hw : a.lostInner = false) : (a.supervise m c).Raised .closureLost 1 := by
  have h : ((a.element a.lostVisor (lostAtSea m c.visor) 0).element a.lostInner (lostAtSea m c.inner) 1).StandsMaybeAcked .closureLost 1 := by
    rw [hw, hl, element_raises]
    exact Aeu.raise_standsMaybeAcked _ _ _
  exact h.raised.congr (supervise_alarms m c a).1 (supervise_alarms m c a).2

theorem supervise_clears_visor (ha : a.AlarmsOk) (hl : lostAtSea m c.visor = false) (hw : a.lostVisor = true) : (a.supervise m c).Cleared .closureLost 0 := by
  have h : (a.element a.lostVisor (lostAtSea m c.visor) 0).Cleared .closureLost 0 := by
    rw [hw, hl, element_clears]
    exact Aeu.clear_cleared ha _ _
  exact (h.otherElement (by decide) a.lostInner (lostAtSea m c.inner)).congr (supervise_alarms m c a).1

theorem supervise_clears_inner (ha : a.AlarmsOk) (hl : lostAtSea m c.inner = false) (hw : a.lostInner = true) : (a.supervise m c).Cleared .closureLost 1 := by
  have h : ((a.element a.lostVisor (lostAtSea m c.visor) 0).element a.lostInner (lostAtSea m c.inner) 1).Cleared .closureLost 1 := by
    rw [hw, hl, element_clears]
    exact Aeu.clear_cleared (ha.element _ _ _) _ _
  exact h.congr (supervise_alarms m c a).1

end

/-! ### Supervision of a lock at sea (R161) -/

section
variable {s : State} {p : Nat} {d : LockDef} {y : LockDyn}

theorem sensed_engaged : s.sensed d = .engaged ↔ s.debounced d.engagedIn = true ∧ s.debounced d.retractedIn = false := by
  unfold State.sensed Confirmed.ofSensors
  cases s.debounced d.engagedIn <;> cases s.debounced d.retractedIn <;> simp

/-- The emission to the unit of a reserving motion is the last act. -/
theorem lockSensors_aeu (hd : s.layout.lock? p = some d) (hy : s.lock? p = some y) (h : s.sensed d ≠ y.confirmed) : (s.lockSensors p).aeu =
    (State.superviseLock p d.role y.confirmed (s.sensed d) ((s.modLock p (fun x => x.moved (s.sensed d))).pointToCev p)).aeu := by
  rw [lockSensors_moved hd hy h]
  split <;> rfl

theorem superviseLock_left {r : Role} {new : Confirmed} (hs : s.amu.mode = .sea) (hr : r = .visorLock ∨ r = .cleat) (hn : new ≠ .engaged) :
    s.superviseLock p r .engaged new = s.raise .lockMovedAtSea p := by
  rcases hr with rfl | rfl <;> simp [State.superviseLock, hs, hn]

theorem superviseLock_back {r : Role} {old : Confirmed} (hs : s.amu.mode = .sea) (hr : r = .visorLock ∨ r = .cleat) :
    s.superviseLock p r old .engaged = s.clearAlarm .lockMovedAtSea p := by
  rcases hr with rfl | rfl <;> simp [State.superviseLock, hs]

theorem pointToCev_mode (f : LockDyn → LockDyn) (s : State) : ((s.modLock p f).pointToCev p).amu = s.amu :=
  amu_of_fixed ((State.ActsTo.modLock p f s).trans (.pointToCev p _)).fixed

theorem lockSensors_leaves_engaged (hd : s.layout.lock? p = some d) (hy : s.lock? p = some y) (hs : s.amu.mode = .sea) (hr : d.role = .visorLock ∨ d.role = .cleat)
    (hold : y.confirmed = .engaged) (hn : s.sensed d ≠ .engaged) : (s.lockSensors p).aeu.Raised .lockMovedAtSea p := by
  rw [lockSensors_aeu hd hy (hold ▸ hn), hold, superviseLock_left ((congrArg Amu.mode (pointToCev_mode _ s)).trans hs) hr hn]
  exact (Aeu.raise_standsMaybeAcked _ .lockMovedAtSea p).raised.congr rfl rfl

theorem lockSensors_returns (hd : s.layout.lock? p = some d) (hy : s.lock? p = some y) (hs : s.amu.mode = .sea) (hr : d.role = .visorLock ∨ d.role = .cleat)
    (ha : s.aeu.AlarmsOk) (hold : y.confirmed ≠ .engaged) (hn : s.sensed d = .engaged) : (s.lockSensors p).aeu.Cleared .lockMovedAtSea p := by
  rw [lockSensors_aeu hd hy (hn ▸ hold.symm), hn, superviseLock_back ((congrArg Amu.mode (pointToCev_mode _ s)).trans hs) hr]
  refine clearAlarm_cleared (recompute_alarmsOk ?_ _) _ _
  rw [modLock_present hy]
  exact ha

end

/-- Settles O39. -/
theorem conditionCombinesItsTerms : Obligations.ConditionCombinesItsTerms := by
  unfold Obligations.ConditionCombinesItsTerms
  refine ⟨fun i s h => ⟨evalCond_undefined h, fun ts ht => layoutCondition_combines h ht⟩, fun xs ys h => all_perm h,
    fun p s => ⟨fun d hd => ⟨termValue_lock_conflict hd, termValue_lock hd⟩, fun d hd => ⟨termValue_axis_unknown hd, fun q => termValue_axis hd⟩⟩,
    fun s => ⟨evalCond_estop s, rfl, ⟨evalCond_input s _, evalCond_input s _⟩, (evalCond_pumps s).1, (evalCond_pumps s).2, evalCond_mode s⟩,
    fun ids s hlt hl => ⟨fun h => recompute_not_started h ids, fun h => ⟨fun i hi => ?_, ⟨fun hd hh => ?_, fun hh => ?_⟩, ?_, recompute_handed h⟩⟩,
    fun s ha => ⟨fun hl hw hn => ?_, fun hl hw => ?_, fun hl hw => ?_, fun hl hw => ?_, lostAtSea_iff, lostAtSea_iff⟩,
    fun p d y s hd hy ha hs hr => ⟨fun hold hn => ?_, fun hold hn => ?_⟩⟩
  · simp [cond_recompute, h, hl, hi]
  · rw [closure_recompute h, closureNow_header ((congrArg Layout.header (layout_recompute ids s)).trans hh)]
    rfl
  · rw [closure_recompute h, closureNow_no_header ((congrArg Layout.header (layout_recompute ids s)).trans hh)]
  · exact recompute_of_cev (fun i hi => by rw [hl]; exact hlt i hi) h
  · exact (supervise_raises_visor (lostAtSea_iff.2 hl) hw hn).congr rfl rfl
  · exact (supervise_raises_inner (lostAtSea_iff.2 hl) hw).congr rfl rfl
  · exact (supervise_clears_visor ha (Bool.eq_false_iff.2 (mt lostAtSea_iff.1 hl)) hw).remake
  · exact (supervise_clears_inner ha (Bool.eq_false_iff.2 (mt lostAtSea_iff.1 hl)) hw).remake
  · exact lockSensors_leaves_engaged hd hy hs hr hold (mt sensed_engaged.1 hn)
  · exact lockSensors_returns hd hy hs hr ha hold (sensed_engaged.2 hn)

end Sys2Proof.Machine
end
section
namespace Sys2Proof.Machine

/-! ### The event list stays short (R168) -/

/-- The event list holds at most 128 records. -/
def Aeu.Short (a : Aeu) : Prop := a.events.length ≤ Config.eventMax

section
variable {a b : Aeu} {es : List Event}

theorem Aeu.Short.congr (h : a.Short) (hb : b.events = a.events) : b.Short := by rw [Aeu.Short, hb]; exact h

theorem Aeu.Short.remake (h : a.Short) : a.remake.Short := h.congr rfl

theorem Aeu.Short.record (e : Event) (a : Aeu) : (a.record e).Short := by
  rw [Aeu.Short, Aeu.record_events, newestRecords, List.length_drop]
  omega

theorem Aeu.Short.raise (h : a.Short) (k : AlarmKind) (i : Nat) : (a.raise k i).Short := by
  rcases Aeu.raise_cases a k i with ⟨he, -⟩ | ⟨b, d, he, -⟩
  · rw [he]; exact h
  · rw [he]; exact .record _ b

theorem Aeu.Short.element (h : a.Short) (was now : Bool) (i : Nat) : (a.element was now i).Short := by
  unfold Aeu.element
  split
  · exact h.raise _ _
  · split
    · exact h.congr (Aeu.clear_events _ _ _)
    · exact h

/-- What has been logged stands at the end of a short list. -/
theorem Aeu.Logged.events_of_short (h : a.Logged b es) (hs : b.Short) : b.events = newestRecords (a.events ++ a.dated es) :=
  (newestRecords_of_short hs).symm.trans h.events

end

/-! ### What supervision logs (R160) -/

/-- From `a` to `b` AEU has recorded at most two closure losses, and nothing else. -/
def Aeu.LogsLosses (a b : Aeu) : Prop :=
  (∃ es, a.Logged b es ∧ es.length ≤ 2 ∧ ∀ e ∈ es, ∃ i d, e = .alarmRaised .closureLost i d) ∧ (a.Short → b.Short)

section
variable {a b c : Aeu}

theorem Aeu.LogsLosses.refl (a : Aeu) : a.LogsLosses a := ⟨⟨[], .refl a, Nat.zero_le _, by simp⟩, id⟩

theorem element_logged (was now : Bool) (i : Nat) (a : Aeu) :
    ∃ es, a.Logged (a.element was now i) es ∧ es.length ≤ 1 ∧ ∀ e ∈ es, ∃ i d, e = .alarmRaised .closureLost i d := by
  unfold Aeu.element
  split
  · rcases Aeu.Logged.raise a .closureLost i with h | ⟨d, h⟩
    · exact ⟨[], h, Nat.zero_le _, by simp⟩
    · exact ⟨_, h, Nat.le_refl _, fun e he => ⟨i, d, List.mem_singleton.1 he⟩⟩
  · split
    · exact ⟨[], .clear a _ _, Nat.zero_le _, by simp⟩
    · exact ⟨[], .refl a, Nat.zero_le _, by simp⟩

theorem Aeu.LogsLosses.supervise (m : Mode) (c : Closure) (a : Aeu) : a.LogsLosses (a.supervise m c) := by
  obtain ⟨es, hl, hn, he⟩ := element_logged a.lostVisor (lostAtSea m c.visor) 0 a
  obtain ⟨fs, kl, kn, ke⟩ := element_logged a.lostInner (lostAtSea m c.inner) 1 (a.element a.lostVisor (lostAtSea m c.visor) 0)
  refine ⟨⟨es ++ fs, (hl.trans kl).congr rfl rfl rfl, ?_, fun e hm => (List.mem_append.1 hm).elim (he e) (ke e)⟩, fun h => ((h.element _ _ _).element _ _ _).congr rfl⟩
  rw [List.length_append]
  omega

theorem Aeu.LogsLosses.congr (h : a.LogsLosses b) (h1 : c.events = b.events) (h2 : c.nextSerial = b.nextSerial) (h3 : c.stamp = b.stamp) : a.LogsLosses c := by
  obtain ⟨⟨es, hl, hr⟩, hs⟩ := h
  exact ⟨⟨es, hl.congr h1 h2 h3, hr⟩, fun ha => (hs ha).congr h1⟩

theorem supervise_losses (s : State) : s.aeu.LogsLosses s.supervise.aeu := (Aeu.LogsLosses.supervise s.amu.mode s.cev.closure s.aeu).congr rfl rfl rfl

theorem Aeu.LogsLosses.recompute (ids : List Nat) (s : State) : s.aeu.LogsLosses (s.recompute ids).aeu := by
  cases hs : s.cev.started with
  | false => rw [recompute_not_started hs]; exact .refl _
  | true =>
    rcases recompute_started hs ids with ⟨he, -⟩ | he
    · rw [he]; exact .refl _
    · rw [he]; exact (Aeu.LogsLosses.supervise s.amu.mode _ s.aeu).congr rfl rfl rfl

/-- Outside SEA supervision logs nothing (R160). -/
theorem supervise_events_ashore {m : Mode} (hm : m ≠ .sea) (c : Closure) (a : Aeu) : (a.supervise m c).events = a.events := by
  have element (b : Aeu) (was : Bool) (x : Closed) (i : Nat) : (b.element was (lostAtSea m x) i).events = b.events := by
    have hl : lostAtSea m x = false := by simp [lostAtSea, hm]
    rw [hl]
    unfold Aeu.element
    split
    · rename_i h; simp at h
    · split
      · exact Aeu.clear_events _ _ _
      · rfl
  exact (element _ a.lostInner c.inner 1).trans (element a a.lostVisor c.visor 0)

theorem recompute_events_ashore {s : State} (hm : s.amu.mode ≠ .sea) (ids : List Nat) : (s.recompute ids).aeu.events = s.aeu.events := by
  cases hs : s.cev.started with
  | false => rw [recompute_not_started hs]
  | true =>
    rcases recompute_started hs ids with ⟨he, -⟩ | he
    · rw [he]
    · rw [he]; exact supervise_events_ashore hm _ _

end

/-! ### The POINT_FAULT alarms that entry to SEA raises (R162) -/

/-- The point whose POINT_FAULT alarm an event raises. -/
def Event.alarmedPoint? : Event → Option Nat
  | .alarmRaised .pointFault p _ => some p
  | _ => none

theorem alarmedPoint?_loss (i : Nat) (d : RaiseDetail) : (Event.alarmRaised .closureLost i d).alarmedPoint? = none := rfl

/-- The raises of the POINT_FAULT alarms of a list of points log each at most once, in the order of the list. -/
theorem foldl_raise_logged (l : List Nat) (s : State) : ∃ es, s.aeu.Logged (l.foldl (fun x p => x.raise .pointFault p) s).aeu es ∧ es.length ≤ l.length ∧
    (es.filterMap Event.alarmedPoint?).Sublist l ∧ (s.aeu.Short → (l.foldl (fun x p => x.raise .pointFault p) s).aeu.Short) := by
  induction l generalizing s with
  | nil => exact ⟨[], .refl _, Nat.le_refl _, .slnil, id⟩
  | cons p l ih =>
    obtain ⟨es, hl, hn, hsub, hshort⟩ := ih (s.raise .pointFault p)
    have hkeep (h : s.aeu.Short) : (s.raise .pointFault p).aeu.Short := (h.raise .pointFault p).congr rfl
    rcases Aeu.Logged.raise s.aeu .pointFault p with h | ⟨d, h⟩
    · exact ⟨es, Aeu.Logged.trans h.remake hl, Nat.le_succ_of_le hn, hsub.cons p, hshort ∘ hkeep⟩
    · exact ⟨_ :: es, Aeu.Logged.trans h.remake hl, Nat.succ_le_succ hn, hsub.cons_cons p, hshort ∘ hkeep⟩

theorem faultedPoints_pairwise (s : State) : s.faultedPoints.Pairwise (fun a b => a < b) := List.pairwise_lt_range.filter _

theorem mem_faultedPoints {s : State} {p : Nat} : p ∈ s.faultedPoints ↔ p < 48 ∧ s.faultOf p ≠ none := by
  simp [State.faultedPoints, Option.isSome_iff_ne_none]

theorem length_faultedPoints (s : State) : s.faultedPoints.length ≤ 48 := (List.length_filter_le _ _).trans_eq List.length_range

/-- What entry to a mode logs for the faulted points: nothing outside SEA (R162). -/
theorem faultsRaised_logged (new : Mode) (s : State) : ∃ es, s.aeu.Logged (s.faultsRaised new).aeu es ∧ es.length ≤ 48 ∧
    (es.filterMap Event.alarmedPoint?).Pairwise (fun a b => a < b) ∧ (∀ p ∈ es.filterMap Event.alarmedPoint?, new = .sea ∧ p < 48 ∧ s.faultOf p ≠ none) ∧
    (s.aeu.Short → (s.faultsRaised new).aeu.Short) := by
  unfold State.faultsRaised
  split
  · rename_i hm
    obtain ⟨es, hl, hn, hsub, hshort⟩ := foldl_raise_logged s.faultedPoints s
    exact ⟨es, hl, hn.trans (length_faultedPoints s), (faultedPoints_pairwise s).sublist hsub, fun p hp => ⟨eq_of_beq hm, mem_faultedPoints.1 (hsub.subset hp)⟩, hshort⟩
  · exact ⟨[], .refl _, Nat.zero_le _, .nil, by simp, id⟩

/-! ### The alarm of a faulted point stands, or the list is full (R162, R164) -/

/-- An alarm of the pair stands, or the alarm list is full. -/
def Aeu.StandsOrFull (k : AlarmKind) (i : Nat) (a : Aeu) : Prop :=
  (∃ x ∈ a.alarms, x.kind = k ∧ x.subject = i ∧ x.state ≠ .unackCleared) ∨ 32 ≤ a.alarms.length

/-- How a raise changes the alarm list (R164). -/
theorem raise_alarms_cases (a : Aeu) (k : AlarmKind) (i : Nat) :
    let new : Alarm := { kind := k, subject := i, state := .unackActive, stamp := a.stamp }
    (a.raise k i).alarms = a.alarms.map (fun x => if Alarm.is k i x then new else x) ∧ (∃ x ∈ a.alarms, Alarm.is k i x = true) ∨
    (a.raise k i).alarms = a.alarms ∧ (∃ x ∈ a.alarms, Alarm.is k i x = true ∧ x.state ≠ .unackCleared) ∨
    (a.raise k i).alarms = a.alarms ++ [new] ∨
    32 ≤ a.alarms.length ∧ (a.raise k i).alarms.length = a.alarms.length := by
  intro new
  unfold Aeu.raise
  split
  · rename_i x hx
    have hm := List.mem_of_find?_eq_some hx
    have hp := List.find?_some hx
    split
    · exact .inl ⟨rfl, x, hm, hp⟩
    · rename_i hc
      exact .inr (.inl ⟨rfl, x, hm, hp, by simpa using hc⟩)
  · split
    · exact .inr (.inr (.inl rfl))
    · rename_i hfull
      have hlen : 32 ≤ a.alarms.length := Nat.le_of_not_lt hfull
      refine .inr (.inr (.inr ⟨hlen, ?_⟩))
      split
      · rename_i hany
        obtain ⟨x, hx, hp⟩ := List.any_eq_true.1 hany
        show (a.alarms.eraseP (fun x => x.state != .unackActive) ++ [new]).length = _
        rw [List.length_append, List.length_eraseP_of_mem hx hp, List.length_singleton]
        omega
      · rfl

section
variable {a b : Aeu} {k : AlarmKind} {i : Nat}

theorem Aeu.StandsOrFull.congr (h : a.StandsOrFull k i) (hb : b.alarms = a.alarms) : b.StandsOrFull k i := by rw [Aeu.StandsOrFull, hb]; exact h

theorem Aeu.StandsOrFull.raise (h : a.StandsOrFull k i) (k' : AlarmKind) (j : Nat) : (a.raise k' j).StandsOrFull k i := by
  rcases raise_alarms_cases a k' j with ⟨he, -⟩ | ⟨he, -⟩ | he | ⟨hfull, he⟩
  · rw [Aeu.StandsOrFull, he, List.length_map]
    refine h.imp_left fun ⟨x, hx, hk, hi, hs⟩ => ⟨_, List.mem_map_of_mem hx, ?_⟩
    split
    · rename_i hp
      exact ⟨(Alarm.is_kind hp).1.symm.trans hk, (Alarm.is_kind hp).2.symm.trans hi, by simp⟩
    · exact ⟨hk, hi, hs⟩
  · exact h.congr he
  · rw [Aeu.StandsOrFull, he, List.length_append]
    exact h.imp (fun ⟨x, hx, hr⟩ => ⟨x, List.mem_append_left _ hx, hr⟩) fun hl => Nat.le_add_right_of_le hl
  · exact .inr (he ▸ hfull)

theorem raise_standsOrFull (a : Aeu) (k : AlarmKind) (i : Nat) : (a.raise k i).StandsOrFull k i := by
  rcases raise_alarms_cases a k i with ⟨he, x, hx, hp⟩ | ⟨he, x, hx, hp, hs⟩ | he | ⟨hfull, he⟩
  · refine .inl ⟨_, he ▸ List.mem_map_of_mem hx, ?_⟩
    rw [if_pos hp]
    exact ⟨rfl, rfl, by simp⟩
  · exact .inl ⟨x, he ▸ hx, (Alarm.is_kind hp).1, (Alarm.is_kind hp).2, hs⟩
  · exact .inl ⟨_, he ▸ List.mem_append_right _ (List.mem_singleton_self _), rfl, rfl, by simp⟩
  · exact .inr (he ▸ hfull)

/-- Supervision that finds no loss gone leaves what stands. -/
theorem Aeu.StandsOrFull.supervise {m : Mode} {c : Closure} (h : a.StandsOrFull k i) (hv : a.lostVisor = true → lostAtSea m c.visor = true)
    (hi : a.lostInner = true → lostAtSea m c.inner = true) : (a.supervise m c).StandsOrFull k i := by
  have element {b : Aeu} {was now : Bool} {j : Nat} (hb : b.StandsOrFull k i) (hw : was = true → now = true) : (b.element was now j).StandsOrFull k i := by
    unfold Aeu.element
    split
    · exact hb.raise _ _
    · split
      · rename_i hc
        simp only [Bool.and_eq_true, Bool.not_eq_true'] at hc
        rw [hw hc.1] at hc
        cases hc.2
      · exact hb
  exact (element (element h hv) hi).congr (supervise_alarms m c a).1

end

theorem foldl_raise_standsOrFull {l : List Nat} {s : State} {p : Nat} (h : p ∈ l ∨ s.aeu.StandsOrFull .pointFault p) :
    (l.foldl (fun x p => x.raise .pointFault p) s).aeu.StandsOrFull .pointFault p := by
  induction l generalizing s with
  | nil => exact h.resolve_left List.not_mem_nil
  | cons q l ih =>
    refine ih ?_
    rcases h with h | h
    · rcases List.mem_cons.1 h with rfl | h
      · exact .inr ((raise_standsOrFull s.aeu .pointFault p).congr rfl)
      · exact .inl h
    · exact .inr ((h.raise .pointFault q).congr rfl)

/-! ### The closure-loss marks (R160) -/

/-- Each closure-loss mark that is set stands for a loss at sea. -/
def State.MarksHold (s : State) : Prop :=
  (s.aeu.lostVisor = true → lostAtSea s.amu.mode s.cev.closure.visor = true) ∧ (s.aeu.lostInner = true → lostAtSea s.amu.mode s.cev.closure.inner = true)

section
variable {s e : State}

theorem State.MarksHold.congr (h : s.MarksHold) (ha : e.amu.mode = s.amu.mode) (hc : e.cev = s.cev) (h1 : e.aeu.lostVisor = s.aeu.lostVisor)
    (h2 : e.aeu.lostInner = s.aeu.lostInner) : e.MarksHold := by
  rw [State.MarksHold, ha, hc, h1, h2]
  exact h

theorem raise_marks (k : AlarmKind) (i : Nat) (a : Aeu) : (a.raise k i).lostVisor = a.lostVisor ∧ (a.raise k i).lostInner = a.lostInner := by
  unfold Aeu.raise
  repeat' split
  all_goals exact ⟨rfl, rfl⟩

theorem recompute_marksHold (hv : s.aeu.lostVisor = false) (hi : s.aeu.lostInner = false) (ids : List Nat) : (s.recompute ids).MarksHold := by
  have hnone : s.MarksHold := ⟨fun h => by simp [hv] at h, fun h => by simp [hi] at h⟩
  cases hs : s.cev.started with
  | false => rw [recompute_not_started hs]; exact hnone
  | true =>
    rcases recompute_started hs ids with ⟨he, -⟩ | he
    · rw [he]; exact hnone
    · rw [he]; exact ⟨id, id⟩

theorem State.MarksHold.supervised (h : s.MarksHold) {k : AlarmKind} {i : Nat} (hs : s.aeu.StandsOrFull k i) : s.supervise.aeu.StandsOrFull k i :=
  (hs.supervise h.1 h.2).congr rfl

theorem event_marks (x : Event) (s : State) : (s.event x).aeu.lostVisor = s.aeu.lostVisor ∧ (s.event x).aeu.lostInner = s.aeu.lostInner := by
  simp only [event_aeu, Aeu.remake, Aeu.record, and_self]

theorem State.MarksHold.event (h : s.MarksHold) (x : Event) : (s.event x).MarksHold :=
  h.congr (congrArg Amu.mode (event_amu x s)) (event_cev x s) (event_marks x s).1 (event_marks x s).2

theorem State.MarksHold.foldl_raise (h : s.MarksHold) (k : AlarmKind) (l : List Nat) : (l.foldl (fun x p => x.raise k p) s).MarksHold := by
  induction l generalizing s with
  | nil => exact h
  | cons p l ih => exact ih (h.congr rfl rfl (raise_marks k p s.aeu).1 (raise_marks k p s.aeu).2)

end

/-! ### A change of mode (R158, R162, R184) -/

/-- The mode and consent are set, and c3 and c7 follow. -/
def State.modeSet (new : Mode) (s : State) : State := State.recompute [3, 7] { s with amu := { s.amu with mode := new, consent := false } }

section
variable {s : State} {new : Mode}

theorem modeEntered_eq (new : Mode) (s : State) : s.modeEntered new = (s.modeSet new).event (.modeChanged new s.amu.mode) := rfl

theorem fixed_modeSet (new : Mode) (s : State) : (s.modeSet new).fixed = { s.fixed with amu := { s.amu with mode := new, consent := false } } :=
  fixed_recompute _ _

theorem modeSet_amu : (s.modeSet new).amu = { s.amu with mode := new, consent := false } := congrArg Fixed.amu (fixed_modeSet new s)

theorem foldl_raise_rest (k : AlarmKind) (l : List Nat) (s : State) : (l.foldl (fun x p => x.raise k p) s).cev = s.cev ∧
    (l.foldl (fun x p => x.raise k p) s).pmn = s.pmn ∧ (l.foldl (fun x p => x.raise k p) s).units = s.units := by
  induction l generalizing s with
  | nil => exact ⟨rfl, rfl, rfl⟩
  | cons p l ih => exact ih (s.raise k p)

theorem faultsRaised_rest (new : Mode) (s : State) :
    (s.faultsRaised new).cev = s.cev ∧ (s.faultsRaised new).pmn = s.pmn ∧ (s.faultsRaised new).units = s.units := by
  unfold State.faultsRaised
  split
  · exact foldl_raise_rest _ _ s
  · exact ⟨rfl, rfl, rfl⟩

theorem seaLeft_rest (old new : Mode) (s : State) : (s.seaLeft old new).cev = s.cev ∧ (s.seaLeft old new).pmn = s.pmn ∧ (s.seaLeft old new).units = s.units := by
  unfold State.seaLeft
  split <;> exact ⟨rfl, rfl, rfl⟩

/-- After the mode is set AEU alone, and LST's buffer, are touched. -/
theorem changeMode_rest (new : Mode) (s : State) : (s.changeMode new).cev = (s.modeSet new).cev ∧ (s.changeMode new).pmn = s.pmn ∧ (s.changeMode new).units = s.units := by
  obtain ⟨hc, hp, hu⟩ := faultsRaised_rest new (s.modeEntered new)
  obtain ⟨kc, kp, ku⟩ := seaLeft_rest s.amu.mode new ((s.modeEntered new).faultsRaised new).supervise
  rw [changeMode_eq, dropUnadmitted_eq]
  exact ⟨kc.trans hc, kp.trans (hp.trans (recompute_pmn _ _)), ku.trans (hu.trans (units_recompute _ _))⟩

/-- The conditions that follow the mode (R37, R38). -/
theorem changeMode_cond (hs : s.cev.started = true) (hl : s.cev.conds.length = 32) :
    (s.changeMode new).cond 3 = .no ∧ (s.changeMode new).cond 7 = if new = .harbour then .yes else .no := by
  have hc (i : Nat) : (s.changeMode new).cond i = (s.modeSet new).cond i := by rw [State.cond, (changeMode_rest new s).1]; rfl
  rw [hc, hc, State.modeSet, cond_recompute, cond_recompute, if_pos ⟨hs, by simp, by simp [hl]⟩, if_pos ⟨hs, by simp, by simp [hl]⟩, evalCond_mode]
  exact ⟨rfl, rfl⟩

theorem changeMode_aeu (new : Mode) (s : State) :
    (s.changeMode new).aeu = (((s.modeEntered new).faultsRaised new).supervise.seaLeft s.amu.mode new).aeu := by
  rw [changeMode_eq, dropUnadmitted_eq]

/-! #### Events -/

theorem clearKind_events (k : AlarmKind) (a : Aeu) : (a.clearKind k).events = a.events ∧ (a.clearKind k).nextSerial = a.nextSerial :=
  clearKind_induction (P := fun b => b.events = a.events ∧ b.nextSerial = a.nextSerial)
    (fun b k i h => ⟨(Aeu.clear_events k i b).trans h.1, (Aeu.clear_nextSerial k i b).trans h.2⟩) k ⟨rfl, rfl⟩

theorem seaLeft_logged (old new : Mode) (s : State) :
    s.aeu.Logged (s.seaLeft old new).aeu [] ∧ (s.seaLeft old new).aeu.events = s.aeu.events := by
  unfold State.seaLeft
  split
  · have h1 := clearKind_events .closureLost s.aeu
    have h2 := clearKind_events .lockMovedAtSea (s.aeu.clearKind .closureLost)
    have h3 := (clearKind_stamp .lockMovedAtSea (s.aeu.clearKind .closureLost)).trans (clearKind_stamp .closureLost s.aeu)
    exact ⟨.of_same (h2.1.trans h1.1) (h2.2.trans h1.2) h3, h2.1.trans h1.1⟩
  · exact ⟨.refl _, rfl⟩

theorem modeEntered_short (new : Mode) (s : State) : (s.modeEntered new).aeu.Short := by
  rw [modeEntered_eq, event_aeu]
  exact (Aeu.Short.record _ _).remake

/-- The events of a change of mode: closure losses may come before MODE_CHANGED, the alarms of the faulted points after it (R158, R162). -/
theorem changeMode_logged (new : Mode) (s : State) : ∃ before after : List Event,
    s.aeu.Logged (s.changeMode new).aeu (before ++ [.modeChanged new s.amu.mode] ++ after) ∧ (s.changeMode new).aeu.Short ∧
      (before ++ [Event.modeChanged new s.amu.mode] ++ after).length ≤ 128 ∧ (∀ p d, Event.alarmRaised .pointFault p d ∉ before) ∧
      (after.filterMap Event.alarmedPoint?).Pairwise (fun a b => a < b) ∧ ∀ p ∈ after.filterMap Event.alarmedPoint?, new = .sea ∧ p < 48 ∧ s.faultOf p ≠ none := by
  obtain ⟨⟨before, hb, hbn, hbk⟩, -⟩ := Aeu.LogsLosses.recompute [3, 7] { s with amu := { s.amu with mode := new, consent := false } }
  obtain ⟨fs, hf, hfn, hfp, hfk, hfs⟩ := faultsRaised_logged new (s.modeEntered new)
  obtain ⟨⟨gs, hg, hgn, hgk⟩, hgs⟩ := supervise_losses ((s.modeEntered new).faultsRaised new)
  obtain ⟨hz, hze⟩ := seaLeft_logged s.amu.mode new ((s.modeEntered new).faultsRaised new).supervise
  have hset : s.aeu.Logged (s.modeSet new).aeu before := hb
  have hm : s.aeu.Logged (s.modeEntered new).aeu (before ++ [Event.modeChanged new s.amu.mode]) := by
    rw [modeEntered_eq]
    exact hset.trans (event_logged _ _)
  have hnone : gs.filterMap Event.alarmedPoint? = [] := List.filterMap_eq_nil_iff.2 fun e he => by
    obtain ⟨i, d, rfl⟩ := hgk e he
    exact alarmedPoint?_loss i d
  have hafter : (fs ++ gs).filterMap Event.alarmedPoint? = fs.filterMap Event.alarmedPoint? := by rw [List.filterMap_append, hnone, List.append_nil]
  have hpmn : (s.modeEntered new).pmn = s.pmn := recompute_pmn _ _
  have hfault (p : Nat) : (s.modeEntered new).faultOf p = s.faultOf p := by rw [State.faultOf, hpmn]; rfl
  refine ⟨before, fs ++ gs, ?_, ?_, ?_, fun p d hp => ?_, ?_, ?_⟩
  · rw [changeMode_aeu]
    have := ((hm.trans hf).trans hg).trans hz
    rw [List.append_nil, List.append_assoc _ fs gs] at this
    exact this
  · rw [changeMode_aeu]
    exact Aeu.Short.congr (hgs (hfs (modeEntered_short new s))) hze
  · simp only [List.length_append, List.length_singleton]
    omega
  · obtain ⟨i, e, he⟩ := hbk _ hp
    cases he
  · rw [hafter]; exact hfp
  · rw [hafter]
    exact fun p hp => ⟨(hfk p hp).1, (hfk p hp).2.1, hfault p ▸ (hfk p hp).2.2⟩

/-! #### Alarms -/

/-- Entry to SEA leaves each faulted point's alarm standing, unless the list is full (R162). -/
theorem changeMode_pointFaults (hv : s.aeu.lostVisor = false) (hi : s.aeu.lostInner = false) {p : Nat} (hp : p < 48)
    (hf : s.faultOf p ≠ none) : (s.changeMode .sea).aeu.StandsOrFull .pointFault p := by
  have hpmn : (s.modeEntered .sea).pmn = s.pmn := recompute_pmn _ _
  have hmem : p ∈ (s.modeEntered .sea).faultedPoints := mem_faultedPoints.2 ⟨hp, by rw [State.faultOf, hpmn]; exact hf⟩
  have hset : (s.modeSet .sea).MarksHold := recompute_marksHold (s := { s with amu := { s.amu with mode := .sea, consent := false } }) hv hi [3, 7]
  have hmarks : (s.modeEntered .sea).MarksHold := by
    rw [modeEntered_eq]
    exact hset.event _
  have hraised : (s.modeEntered .sea).faultsRaised .sea = (s.modeEntered .sea).faultedPoints.foldl (fun x p => x.raise .pointFault p) (s.modeEntered .sea) :=
    if_pos rfl
  have hleft : ((s.modeEntered .sea).faultsRaised .sea).supervise.seaLeft s.amu.mode .sea = ((s.modeEntered .sea).faultsRaised .sea).supervise :=
    if_neg (by simp)
  rw [changeMode_aeu, hleft, hraised]
  exact (hmarks.foldl_raise _ _).supervised (foldl_raise_standsOrFull (.inl hmem))

theorem clearKind_alarmsOk {a : Aeu} (h : a.AlarmsOk) (k : AlarmKind) : (a.clearKind k).AlarmsOk := clearKind_induction (fun _ k i h => h.clear k i) k h

theorem modeEntered_alarmsOk (h : s.aeu.AlarmsOk) : (s.modeEntered new).aeu.AlarmsOk := by
  have hset : (s.modeSet new).aeu.AlarmsOk := recompute_alarmsOk (s := { s with amu := { s.amu with mode := new, consent := false } }) h _
  rw [modeEntered_eq]
  exact event_alarmsOk hset _

theorem supervise_alarmsOk (h : s.aeu.AlarmsOk) : s.supervise.aeu.AlarmsOk := (h.supervise _ _).remake

theorem Aeu.Lasting.supervised {P : Aeu → Prop} (h : Aeu.Lasting (s.amu.mode = .sea) P) (hp : P s.aeu) : P s.supervise.aeu := h.remake (h.supervise hp _)

theorem Aeu.Lasting.event {sea : Prop} {P : Aeu → Prop} (h : Aeu.Lasting sea P) (hp : P s.aeu) (x : Event) : P (s.event x).aeu := h.remake (h.record hp x)

theorem faultsRaised_ashore (h : new ≠ .sea) : s.faultsRaised new = s := if_neg (by simp [h])

theorem remake_alarms (a : Aeu) : a.remake.alarms = a.alarms := rfl

theorem seaLeft_alarms (h : new ≠ .sea) : (s.seaLeft .sea new).aeu.alarms = ((s.aeu.clearKind .closureLost).clearKind .lockMovedAtSea).alarms := by
  rw [State.seaLeft, if_pos (by simp [h]), withAeu_aeu, remake_alarms]

/-- On leaving SEA the conditions of its supervision have cleared (R158). -/
theorem changeMode_leaves_sea (hs : s.amu.mode = .sea) (hn : new ≠ .sea) (ha : s.aeu.AlarmsOk) {x : Alarm} (hx : x ∈ (s.changeMode new).aeu.alarms)
    (hk : x.kind = .closureLost ∨ x.kind = .lockMovedAtSea) : x.state = .unackCleared := by
  have hok : (s.modeEntered new).supervise.aeu.AlarmsOk := supervise_alarmsOk (modeEntered_alarmsOk ha)
  rw [changeMode_aeu, faultsRaised_ashore hn, hs, seaLeft_alarms hn] at hx
  rcases hk with hk | hk
  · have hc := clearKind_cleared hok .closureLost x.subject
    exact clearKind_induction (P := fun b => b.Cleared .closureLost x.subject) (fun _ k i h => h.clear k i) .lockMovedAtSea hc x hx hk rfl
  · exact clearKind_cleared (clearKind_alarmsOk hok .closureLost) .lockMovedAtSea x.subject x hx hk rfl

/-- An entry of another kind lasts through clears of closure losses. -/
theorem mem_alarms_lasting {x : Alarm} (hk : x.kind ≠ .closureLost) : Aeu.Lasting False (fun a => x ∈ a.alarms) where
  plain _ _ h _ hx := h ▸ hx
  raise _ _ _ h _ := h.elim
  clear _ _ hx := Aeu.mem_clear_of_mem hx (by simp [Alarm.is, hk])

theorem clearKind_keeps {a : Aeu} {x : Alarm} {k : AlarmKind} (hx : x ∈ a.alarms) (hk : x.kind ≠ k) : x ∈ (a.clearKind k).alarms := by
  unfold Aeu.clearKind
  generalize (a.alarms.filter (fun e => e.kind == k)).map (fun e => e.subject) = l
  induction l generalizing a with
  | nil => exact hx
  | cons i l ih => exact ih (Aeu.mem_clear_of_mem hx (by simp [Alarm.is, hk]))

/-- On leaving SEA the POINT_FAULT entries are left (R162). -/
theorem changeMode_keeps_pointFaults (hs : s.amu.mode = .sea) (hn : new ≠ .sea) {x : Alarm} (hx : x ∈ s.aeu.alarms) (hk : x.kind = .pointFault) :
    x ∈ (s.changeMode new).aeu.alarms := by
  have hlast (m : Mode) (hm : m = new) : Aeu.Lasting (m = .sea) (fun a => x ∈ a.alarms) :=
    (mem_alarms_lasting (by simp [hk])).mono fun h => hn (hm.symm.trans h)
  have hset : x ∈ (s.modeSet new).aeu.alarms :=
    Aeu.Lasting.recompute (s := { s with amu := { s.amu with mode := new, consent := false } }) (hlast new rfl) hx _
  have hmode : (s.modeEntered new).amu.mode = new := congrArg Amu.mode (modeSet_amu (s := s) (new := new))
  have hentered : x ∈ (s.modeEntered new).aeu.alarms := by
    rw [modeEntered_eq]
    exact (hlast new rfl).event hset _
  have hsup : x ∈ (s.modeEntered new).supervise.aeu.alarms := (hlast _ hmode).supervised hentered
  rw [changeMode_aeu, faultsRaised_ashore hn, hs, seaLeft_alarms hn]
  exact clearKind_keeps (clearKind_keeps hsup (by simp [hk])) (by simp [hk])

/-! #### The SEA relay's demand -/

theorem clear_sea (k : AlarmKind) (i : Nat) (a : Aeu) : (a.clear k i).sea = a.sea := by
  unfold Aeu.clear
  repeat' split
  all_goals rfl

theorem clearKind_sea (k : AlarmKind) (a : Aeu) : (a.clearKind k).sea = a.sea :=
  clearKind_induction (P := fun b => b.sea = a.sea) (fun b k i h => (clear_sea k i b).trans h) k rfl

theorem supervise_sea (m : Mode) (c : Closure) (a : Aeu) : (a.supervise m c).sea = ((a.supervise m c).demanding && wantsSea m c) := by
  have h : (a.supervise m c).demanding = a.demanding := (Aeu.element_demanding _ _ _ _).trans (Aeu.element_demanding _ _ _ _)
  rw [h]
  rfl

theorem seaLeft_sea (old new : Mode) (s : State) : (s.seaLeft old new).aeu.sea = s.aeu.sea ∧ (s.seaLeft old new).aeu.demanding = s.aeu.demanding := by
  unfold State.seaLeft
  split
  · exact ⟨(clearKind_sea _ _).trans (clearKind_sea _ _), (clearKind_demanding _ _).trans (clearKind_demanding _ _)⟩
  · exact ⟨rfl, rfl⟩

theorem changeMode_sea (new : Mode) (s : State) :
    (s.changeMode new).aeu.sea = ((s.changeMode new).aeu.demanding && (new == .sea && (s.changeMode new).cev.closure.overall != .secured)) := by
  obtain ⟨hc, -⟩ := faultsRaised_rest new (s.modeEntered new)
  obtain ⟨h1, h2⟩ := seaLeft_sea s.amu.mode new ((s.modeEntered new).faultsRaised new).supervise
  have hm : ((s.modeEntered new).faultsRaised new).amu.mode = new :=
    congrArg Amu.mode ((congrArg Fixed.amu (fixed_faultsRaised new (s.modeEntered new))).trans (modeSet_amu (s := s) (new := new)))
  have hcev : (s.changeMode new).cev.closure = ((s.modeEntered new).faultsRaised new).cev.closure := congrArg Cev.closure ((changeMode_rest new s).1.trans hc.symm)
  rw [changeMode_aeu, h1, h2, hcev]
  rw [supervise_aeu, hm]
  exact supervise_sea _ _ _

end

/-! ### SET_MODE's answers (R157) -/

/-- A change to a mode is admitted. -/
def State.modeAdmitted (s : State) : Mode → Prop
  | .sea => s.amu.mode = .harbour ∧ s.contextLive = false ∧ s.cev.closure.overall = .secured
  | .maintenance => s.amu.mode = .harbour ∧ s.contextLive = false
  | .harbour => s.contextLive = false ∧ s.jogActive = false

section
variable {s : State} {m : Mode} {code : Nat}

theorem modeAdmitted_takeRun (st : Station) (run : Bool) (s : State) (m : Mode) : (s.takeRun st run).modeAdmitted m ↔ s.modeAdmitted m := by
  cases m <;> simp [State.modeAdmitted]

theorem modeOf_none (h : 3 ≤ code) : modeOf code = none := by
  match code, h with
  | n + 3, _ => rfl

theorem ruleSetMode_unknown (h : modeOf code = none) : ruleSetMode .bridge code s = s.refuse .badValue := by simp only [ruleSetMode, h]

theorem ruleSetMode_same (h : modeOf code = some m) (hm : m = s.amu.mode) : ruleSetMode .bridge code s = s.accept := by
  simp [ruleSetMode, h, hm]

theorem ruleSetMode_admitted (h : modeOf code = some m) (hm : m ≠ s.amu.mode) (ha : s.modeAdmitted m) :
    ruleSetMode .bridge code s = (s.changeMode m).accept := by
  have hne : (m == s.amu.mode) = false := by simp [hm]
  simp only [ruleSetMode, h, hne]
  cases m with
  | sea => obtain ⟨h1, h2, h3⟩ := ha; simp [h1, h2, h3]
  | maintenance => obtain ⟨h1, h2⟩ := ha; simp [h1, h2]
  | harbour => obtain ⟨h1, h2⟩ := ha; simp [h1, h2]

theorem ruleSetMode_refused (h : modeOf code = some m) (hm : m ≠ s.amu.mode) (ha : ¬ s.modeAdmitted m) :
    ruleSetMode .bridge code s = s.refuse (if m = .harbour then .busy else .refusedState) := by
  have hne : (m == s.amu.mode) = false := by simp [hm]
  simp only [ruleSetMode, h, hne]
  cases m with
  | sea =>
    refine (if_neg Bool.false_ne_true).trans (if_pos ?_)
    simp only [State.modeAdmitted, not_and_or] at ha
    simpa [or_assoc] using ha
  | maintenance =>
    refine (if_neg Bool.false_ne_true).trans (if_pos ?_)
    simp only [State.modeAdmitted, not_and_or] at ha
    simpa using ha
  | harbour =>
    refine (if_neg Bool.false_ne_true).trans (if_pos ?_)
    simp only [State.modeAdmitted, not_and_or] at ha
    simpa using ha

end

/-! ### CONSENT (R46) -/

section
variable {s : State} {on : Bool}

theorem setConsent_pmn (on : Bool) (s : State) : (s.setConsent on).pmn = s.pmn := by
  rcases setConsent_eq on s with ⟨h, -⟩ | ⟨h, -⟩
  · rw [h]
  · rw [h, recompute_pmn]

theorem setConsent_other {i : Nat} (hi : i ≠ 3) : (s.setConsent on).cond i = s.cond i := by
  rcases setConsent_eq on s with ⟨h, -⟩ | ⟨h, -⟩
  · rw [h]
  · rw [h, cond_recompute, if_neg (by simp [hi])]
    rfl

/-- Outside SEA a change of consent loses no closure (R160). -/
theorem setConsent_events (hm : s.amu.mode ≠ .sea) : (s.setConsent on).aeu.events = s.aeu.events := by
  rcases setConsent_eq on s with ⟨h, -⟩ | ⟨h, -⟩
  · rw [h]
  · rw [h]
    exact recompute_events_ashore (s := { s with amu := { s.amu with consent := on } }) hm _

/-- An argument that CONSENT admits (R46). -/
theorem ruleConsent_admitted (hb : s.bareCheck = false) (h : on = false ∨ s.amu.mode = .harbour) :
    ruleConsent .bridge (some on) s = (s.setConsent on).accept := by
  rcases h with h | h <;> simp [ruleConsent, hb, h]

theorem setConsent_same (h : s.amu.consent = on) : s.setConsent on = s := by simp [State.setConsent, h]

end

/-- Settles O23. -/
theorem modeAndConsentAnswers : Obligations.ModeAndConsentAnswers := by
  unfold Obligations.ModeAndConsentAnswers
  refine ⟨fun run code s hs => ⟨fun n => congrArg _ (serve_answered hs rfl), fun hc => ?_, fun m hm => ?_⟩, fun run on s hr hp hon => ⟨fun hc hn st => ?_, fun hb => ?_⟩⟩
  · exact congrArg _ (serve_answered hs (ruleSetMode_unknown (modeOf_none hc)))
  · intro admitted
    have hmode (st : Station) : (s.takeRun st run).amu.mode = s.amu.mode := takeRun_mode st run s
    refine ⟨fun hsame => congrArg _ (serve_answered hs (ruleSetMode_same hm (hsame.trans (hmode _).symm))), fun hne hadm => ?_, fun hne hadm => ?_⟩
    · exact congrArg _ (serve_answered hs (ruleSetMode_refused hm (hmode .bridge ▸ hne) (mt (modeAdmitted_takeRun .bridge run s m).1 hadm)))
    · have hne' : m ≠ (s.takeRun .bridge run).amu.mode := hmode .bridge ▸ hne
      obtain ⟨hisc, hamu, hlst, -⟩ := finish_parts ((s.takeRun .bridge run).changeMode m)
      have hf := fixed_changeMode m (s.takeRun .bridge run)
      obtain ⟨-, hpmn, hunits⟩ := changeMode_rest m (s.takeRun .bridge run)
      obtain ⟨hhpa, hldu, hadu, hosq, -⟩ := State.units_eq hunits
      obtain ⟨before, after, hlog, hshort, hlen, hbefore, hpair, hfault⟩ := changeMode_logged m (s.takeRun .bridge run)
      rw [takeRun_aeu, hmode] at hlog
      rw [hmode] at hlen
      refine ⟨(s.takeRun .bridge run).changeMode m,
        congrArg _ (serve_accepted hs (ruleSetMode_admitted hm hne' ((modeAdmitted_takeRun .bridge run s m).2 hadm))),
        hamu.trans (congrArg Fixed.amu hf), ?_, (hisc.trans (congrArg Fixed.isc hf)).trans (takeRun_isc ..),
        hosq.trans (takeRun_osq ..), hhpa.trans (takeRun_hpa ..), hldu.trans (takeRun_ldu ..), hadu.trans (takeRun_adu ..), hpmn.trans (takeRun_pmn ..),
        fun h1 h2 => changeMode_cond (by rw [takeRun_cev]; exact h1) (by rw [takeRun_cev]; exact h2), changeMode_sea m _,
        hlog.mem_events hlen (by simp), ⟨before, after, hlog.events_of_short hshort, hbefore, hpair, fun p hp => ?_⟩, fun hsea hv hi p hp hfp => ?_,
        fun hsea ha => ⟨fun x hx hk => ?_, fun x hx hk => ?_⟩⟩
      · rw [hlst, ← takeRun_lst .bridge run s]
        exact congrArg Fixed.lst hf
      · obtain ⟨h1, h2, h3⟩ := hfault p hp
        rw [State.faultOf, takeRun_pmn] at h3
        exact ⟨h1, h2, h3⟩
      · subst hsea
        exact changeMode_pointFaults (by rw [takeRun_aeu]; exact hv) (by rw [takeRun_aeu]; exact hi) hp
          (by rw [State.faultOf, takeRun_pmn]; exact hfp)
      · exact changeMode_leaves_sea ((hmode _).trans hsea) (hsea ▸ hne) (by rw [takeRun_aeu]; exact ha) hx hk
      · exact changeMode_keeps_pointFaults ((hmode _).trans hsea) (hsea ▸ hne) (by rw [takeRun_aeu]; exact hx) hk
  · have hbare : (s.takeRun st run).bareCheck = true := by rw [bareCheck_takeRun, bareCheck_iff]; exact ⟨hc, hn⟩
    exact congrArg _ (serve_work_answered hr hp (by simp [ruleConsent, hbare, State.refuse]))
  · have hbare (st : Station) : (s.takeRun st run).bareCheck = false := by
      rw [bareCheck_takeRun, ← Bool.not_eq_true, bareCheck_iff]
      rintro ⟨hc, hn⟩
      exact hb.elim (fun h => h hc) (fun h => h hn)
    refine ⟨congrArg _ (serve_work_answered hr hp (by simp [ruleConsent, hbare, State.refuse])), fun ht hm => ?_, fun hadm => ?_⟩
    · exact congrArg _ (serve_work_answered hr hp (by simp [ruleConsent, hbare, State.refuse, ht, hm]))
    · have hrule := ruleConsent_admitted (on := on) (hbare .bridge) (by rw [takeRun_mode]; exact hadm)
      refine ⟨fun hsame => ?_, fun hne => ?_⟩
      · rw [setConsent_same (by rw [takeRun_consent]; exact hsame)] at hrule
        exact congrArg _ (serve_work_answered hr hp hrule)
      · have hharbour : s.amu.mode = .harbour := by
          rcases hadm with h | h
          · exact hon (by simpa [h] using hne)
          · exact h
        have hf := (fixed_finish _).trans (fixed_setConsent on (s.takeRun .bridge run))
        obtain ⟨hhpa, hldu, hadu, hosq, -⟩ := State.units_eq (setConsent_units on (s.takeRun .bridge run))
        refine ⟨(s.takeRun .bridge run).setConsent on, congrArg _ (serve_work_accepted hr hp hrule), congrArg Fixed.amu hf, fun h1 h2 => ?_, fun i hi => ?_,
          ?_, (congrArg Fixed.lst hf).trans (takeRun_lst ..), hosq.trans (takeRun_osq ..), hhpa.trans (takeRun_hpa ..), hldu.trans (takeRun_ldu ..),
          hadu.trans (takeRun_adu ..), (setConsent_pmn _ _).trans (takeRun_pmn ..)⟩
        · exact setConsent_cond (by rw [takeRun_consent]; exact hne) (by rw [takeRun_cev]; exact h1) (by rw [takeRun_cev]; exact h2)
        · exact (setConsent_other hi).trans (cond_takeRun _ _ _ _)
        · rw [setConsent_events (by rw [takeRun_mode, hharbour]; decide), takeRun_aeu]

end Sys2Proof.Machine
end
section
namespace Sys2Proof.Machine

/-! ### Acts that ask for nothing (R61, R115) -/

/-- A report that has OSQ attempt an issue or re-issue an entry. -/
def Task.attempts : Task → Bool
  | .issue => true
  | .reissue => true
  | _ => false

/-- From `s` to `e` no attempt of OSQ's is reported, no flow is requested or granted, no point reserved and no fault changed. -/
structure State.Eases (s e : State) : Prop where
  todo     : ∀ t ∈ e.todo, t.attempts = true → t ∈ s.todo
  length   : e.hpa.requests.length ≤ s.hpa.requests.length
  grants   : ∀ n, s.hpa.grantOf n = none → e.hpa.grantOf n = none
  requests : ∀ n, s.hpa.entryOf n = none → e.hpa.entryOf n = none
  reserved : ∀ q n, e.reservedBy q = some n → s.reservedBy q = some n
  faults   : ∀ q, e.faultOf q = s.faultOf q

section
variable {s e : State}

theorem State.Eases.refl (s : State) : s.Eases s := ⟨fun _ h _ => h, Nat.le_refl _, fun _ => id, fun _ => id, fun _ _ => id, fun _ => rfl⟩

theorem State.Eases.trans {m : State} (h : s.Eases m) (k : m.Eases e) : s.Eases e where
  todo t ht ha := h.todo t (k.todo t ht ha) ha
  length := k.length.trans h.length
  grants n hn := k.grants n (h.grants n hn)
  requests n hn := k.requests n (h.requests n hn)
  reserved q n hn := h.reserved q n (k.reserved q n hn)
  faults q := (k.faults q).trans (h.faults q)

theorem State.Eases.foldl {α : Type} {f : State → α → State} (h : ∀ x a, State.Eases x (f x a)) (l : List α) (s : State) : s.Eases (l.foldl f s) := by
  induction l generalizing s with
  | nil => exact .refl s
  | cons a l ih => exact (h s a).trans (ih _)

theorem State.Eases.of_same (hh : e.hpa = s.hpa) (hp : e.pmn = s.pmn) (ht : e.todo = s.todo) : s.Eases e where
  todo t h _ := ht ▸ h
  length := by rw [hh]
  grants n h := by rw [hh]; exact h
  requests n h := by rw [hh]; exact h
  reserved q n h := by rw [State.reservedBy, hp] at h; exact h
  faults q := by rw [State.faultOf, hp]; rfl

theorem State.Calms.eases (h : s.Calms e) (ht : ∀ t ∈ e.todo, t.attempts = true → t ∈ s.todo) (hl : e.hpa.requests.length ≤ s.hpa.requests.length) : s.Eases e :=
  ⟨ht, hl, h.grants, h.requests, h.reserved, fun q => (h.bare q).faultOf⟩

theorem State.Eases.nothingHeld (h : s.Eases e) {m : Nat} (k : s.NothingHeldBy m) : e.NothingHeldBy m :=
  ⟨h.grants m k.1, h.requests m k.2.1, fun q hq => k.2.2 q (h.reserved q m hq)⟩

theorem State.Eases.emit {t : Task} (ht : t.attempts = false) (s : State) : s.Eases (Machine.emit t s) := by
  refine (State.Calms.emit t s).eases (fun u hu ha => ?_) (Nat.le_refl _)
  rcases List.mem_append.1 hu with h | h
  · exact h
  · rw [List.mem_singleton.1 h, ht] at ha
    cases ha

theorem State.CoilsOff.eases (h : s.CoilsOff e) : s.Eases e := by
  obtain ⟨-, -, hh, hp, -⟩ := h.kept
  exact .of_same hh hp (by rw [h.frame])

theorem State.Eases.giveUpFlow (m : Nat) (s : State) : s.Eases (s.giveUpFlow m) := by
  obtain ⟨h, ts, he, -, hr⟩ := giveUpFlow_shape m s
  refine (State.Calms.giveUpFlow m s).eases ?_ ?_
  · unfold State.giveUpFlow
    split
    · exact (State.Eases.emit (t := .pass) rfl _).todo
    · exact fun _ h _ => h
  · rw [he]
    show h.requests.length ≤ _
    rw [hr]
    exact List.length_filter_le _ _

theorem State.Eases.release (m : Nat) (s : State) : s.Eases (s.release m) := by
  refine (State.Calms.release m s).eases ?_ (by rw [release_hpa])
  unfold State.release
  split
  · exact (State.Eases.emit (t := .freed) rfl _).todo
  · exact fun _ h _ => h

theorem setDrive_todo (i : Nat) (x : Drive) (s : State) : (s.setDrive i x).todo = s.todo := by
  unfold State.setDrive State.modAxis
  split <;> rfl

theorem State.Eases.setDrive (i : Nat) (x : Drive) (s : State) : s.Eases (s.setDrive i x) := by
  obtain ⟨-, -, hh, -⟩ := setDrive_kept i x s
  exact (State.Calms.setDrive i x s).eases (fun t h _ => setDrive_todo i x s ▸ h) (by rw [hh])

theorem State.Eases.zeroProps (i : Nat) (s : State) : s.Eases (s.zeroProps i) := .of_same rfl rfl rfl

theorem State.Eases.groupOff (m : Nat) (g : GroupMotion) (s : State) : s.Eases (s.groupOff m g) := (State.CoilsOff.groupOff m g s).eases

theorem State.Eases.lduEnd (m : Nat) (st : MotionState) (cause : Option FailCause) (failed : List Nat) (s : State) : s.Eases (s.lduEnd m st cause failed) := by
  cases h : s.ldu? m with
  | none => simp only [State.lduEnd, h]; exact .refl s
  | some g =>
    rw [lduEnd_eq h]
    exact (((State.Eases.groupOff m g s).trans (.of_same (e := (s.groupOff m g).modLdu m _) rfl rfl rfl)).trans
      ((State.Eases.giveUpFlow m _).trans (.release m _))).trans (.emit rfl _)

theorem State.Eases.aduEnd (m : Nat) (st : MotionState) (cause : Option FailCause) (s : State) : s.Eases (s.aduEnd m st cause) := by
  cases h : s.adu? m with
  | none => simp only [State.aduEnd, h]; exact .refl s
  | some a =>
    rw [aduEnd_eq h]
    exact ((((State.Eases.zeroProps a.axis s).trans (.of_same (e := (s.zeroProps a.axis).modAdu m _) rfl rfl rfl)).trans
      ((State.Eases.giveUpFlow m _).trans (.release m _))).trans (.setDrive _ _ _)).trans (.emit rfl _)

theorem State.Eases.haltMotion (n : Nat) (why : HaltCause) (s : State) : s.Eases (s.haltMotion n why) :=
  haltMotion_induction .refl (fun _ _ _ => .trans) (fun n _ g x => (State.Eases.groupOff n g x).trans (.of_same (e := (x.groupOff n g).modLdu n _) rfl rfl rfl))
    (fun _ _ _ _ => .of_same rfl rfl rfl) (fun i x => .setDrive i _ x) .giveUpFlow n why s

theorem State.Eases.withdrawMotion (n : Nat) (s : State) : s.Eases (s.withdrawMotion n) := by
  obtain ⟨h1, h2⟩ := withdrawMotion_induction (n := n) (R := State.Eases) .refl (fun _ _ _ => .trans) (.groupOff n) .zeroProps (.giveUpFlow n) (.release n)
    (fun i x => .setDrive i _ x) (fun _ => .of_same rfl rfl rfl) (fun _ => .of_same rfl rfl rfl) s
  exact h1.trans h2

theorem State.Eases.onMotion {f : Nat → State → State} (h : ∀ n x, State.Eases x (f n x)) (n : Entry) (s : State) : s.Eases (n.onMotion f s) := by
  unfold Entry.onMotion
  split
  · exact h _ s
  · exact .refl s

theorem State.Eases.haltEntries (es : List Entry) (s : State) : s.Eases (s.haltEntries es) := by
  refine .foldl (fun x n => ?_) es s
  split
  · exact .onMotion (fun m y => .haltMotion m .hold y) n x
  · exact .refl x

theorem State.Eases.withdrawAll (s : State) : s.Eases s.withdrawAll :=
  State.Eases.trans (m := s.withdrawEntries s.inFlight) (.foldl (fun x n => .onMotion .withdrawMotion n x) _ s) (.of_same rfl rfl rfl)

theorem State.Eases.hold (s : State) : s.Eases s.hold :=
  State.Eases.trans (m := s.modCtx Context.held) (.of_same rfl rfl rfl) (.haltEntries s.inFlight _)

theorem State.Eases.causeAdded (c : HoldCause) (s : State) : s.Eases (s.causeAdded c) := .of_same rfl rfl rfl

theorem State.Eases.giveCause (c : HoldCause) (s : State) : s.Eases (s.giveCause c) := by
  cases hx : s.osq.context with
  | none => rw [giveCause_none hx]; exact .refl s
  | some x =>
    cases hk : x.causes.any (fun k => k.kind == c.kind) with
    | true => rw [giveCause_known hx hk]; exact .refl s
    | false =>
      cases hs : x.state with
      | running => rw [giveCause_runs hx hs hk]; exact (State.Eases.causeAdded c s).trans (.hold _)
      | holding => rw [giveCause_holding hx hs hk]; exact .causeAdded c s
      | complete => rw [giveCause_terminal hx (.inl hs)]; exact .refl s
      | aborted => rw [giveCause_terminal hx (.inr hs)]; exact .refl s

end

/-! ### The failure of a step (R124, R136) -/

section
variable {s r : State} {x : Context} {k : Nat} {n : Entry} {cause : FailCause}

theorem modCtx_eq (hx : s.osq.context = some x) (f : Context → Context) : s.modCtx f = { s with osq := { s.osq with context := some (f x) } } := by
  simp [State.modCtx, hx]

/-- The context that a hold cause given to a RUNNING one without causes leaves (R127, R128). -/
theorem giveCause_first (hx : s.osq.context = some x) (hs : x.state = .running) (hn : x.causes = []) (c : HoldCause) :
    (s.giveCause c).osq.context = some ({ x with causes := [c] } : Context).held := by
  rw [giveCause_runs hx hs (by rw [hn]; rfl), (hold_calms _).osq, modCtx_osq, causeAdded_osq hx, hn]
  rfl

/-- The entry of a failed step. -/
def Entry.failedBy (cause : FailCause) (n : Entry) : Entry := { n with state := .failed, cause := some cause, remaining := none, due := false }

/-- The context with the entry at a place failed. -/
def Context.withFailed (k : Nat) (cause : FailCause) (x : Context) : Context := { x with inFlight := lmod x.inFlight k (Entry.failedBy cause) }

/-- The state with the entry at a place failed. -/
def State.withFailed (k : Nat) (cause : FailCause) (s : State) : State := s.modEntry k (Entry.failedBy cause)

theorem withFailed_context (hx : s.osq.context = some x) : (s.withFailed k cause).osq = { s.osq with context := some (x.withFailed k cause) } := by
  rw [State.withFailed, State.modEntry, modCtx_eq hx]
  rfl

/-- The cause that a failed step gives. -/
def stepFailedCause (n : Entry) : HoldCause := { kind := .stepFailed, subject := .step n.ref }

/-- The step fails in the way of R136: the operation is reversed. -/
def State.Reverses (s : State) (x : Context) (n : Entry) : Prop := n.step.onFail = .reverse ∧ s.autoReverse x = true

theorem failEntry_eq (hx : s.osq.context = some x) (hk : x.inFlight[k]? = some n) (cause : FailCause) :
    (s.Reverses x n → s.failEntry k cause = (s.withFailed k cause).reversal x.origin) ∧
      (¬ s.Reverses x n → s.failEntry k cause = (s.withFailed k cause).giveCause (stepFailedCause n)) := by
  have hk' : s.inFlight[k]? = some n := by rw [inFlight_of hx]; exact hk
  refine ⟨fun ⟨hf, ha⟩ => ?_, fun hr => ?_⟩
  · simp only [State.failEntry, hx, hk', hf, ha, if_true]
    rfl
  · cases hf : n.step.onFail with
    | hold =>
      simp only [State.failEntry, hx, hk', hf]
      rfl
    | reverse =>
      have ha : s.autoReverse x = false := Bool.eq_false_iff.2 fun ha => hr ⟨hf, ha⟩
      simp only [State.failEntry, hx, hk', hf, ha, Bool.false_eq_true, if_false]
      rfl

theorem autoReverse_iff (hs : x.state = .running) : s.autoReverse x = true ↔
    x.reversed = none ∧ ∃ o d, s.reverseOf x = some (o, d) ∧ s.amu.mode ∈ d.modes := by
  unfold State.autoReverse
  cases ho : s.reverseOf x with
  | none => simp
  | some p =>
    obtain ⟨o, d⟩ := p
    simp [hs]

theorem reversal_eq {o : Nat} {d : OpDef} (hx : s.osq.context = some x) (ho : s.reverseOf x = some (o, d)) (st : Station) : ∃ w : State,
    s.reversal st = emit .issue (w.event (.reversed o x.op)) ∧ s.Eases w := by
  refine ⟨_, by simp only [State.reversal, hx, ho]; rfl, ?_⟩
  exact (State.Eases.withdrawAll s).trans (.of_same rfl rfl rfl)

theorem reversal_newest {o : Nat} {d : OpDef} (hx : s.osq.context = some x) (ho : s.reverseOf x = some (o, d)) (st : Station) :
    (s.reversal st).aeu.newest = some (.reversed o x.op) := by
  obtain ⟨w, he, -⟩ := reversal_eq hx ho st
  rw [he, emit_aeu, event_newest]

theorem reversal_eases (st : Station) (s : State) : ∃ w, s.Eases w ∧ (s.reversal st = w ∨ s.reversal st = emit .issue w) := by
  cases hx : s.osq.context with
  | none => exact ⟨s, .refl s, .inl (by simp only [State.reversal, hx])⟩
  | some x =>
    cases ho : s.reverseOf x with
    | none => exact ⟨s, .refl s, .inl (by simp only [State.reversal, hx, ho])⟩
    | some p =>
      obtain ⟨w, he, hw⟩ := reversal_eq (o := p.1) (d := p.2) hx ho st
      exact ⟨_, hw.trans (.of_same (e := w.event (.reversed p.1 x.op)) rfl rfl rfl), .inr he⟩

/-- What the failure of a step asks for: at most one issue attempt. -/
theorem failEntry_eases (hx : s.osq.context = some x) (hk : x.inFlight[k]? = some n) (cause : FailCause) :
    ∃ w, s.Eases w ∧ (s.failEntry k cause = w ∨ s.failEntry k cause = emit .issue w) := by
  have h1 : s.Eases (s.withFailed k cause) := .of_same rfl rfl rfl
  obtain ⟨hrev, hheld⟩ := failEntry_eq hx hk cause
  by_cases hr : s.Reverses x n
  · obtain ⟨w, hw, he⟩ := reversal_eases x.origin (s.withFailed k cause)
    exact ⟨w, h1.trans hw, by rw [hrev hr]; exact he⟩
  · exact ⟨_, h1.trans (.giveCause _ _), .inl (hheld hr)⟩

theorem reverseOf_of_fixed (hf : r.fixed = s.fixed) {y : Context} (hop : y.op = x.op) : r.reverseOf y = s.reverseOf x := reverseOf_congr (lst_of_fixed hf) hop

theorem not_contains_issue (h : s.Eases r) (hn : .issue ∉ s.todo) : r.todo.contains .issue = false := by
  rw [← Bool.not_eq_true, List.contains_iff_mem]
  exact fun hm => hn (h.todo _ hm rfl)

/-- A step of a RUNNING operation without causes fails (R124, R136). -/
theorem failEntry_stepFails (hf : r.fixed = s.fixed) (hn : .issue ∉ r.todo) (hx : r.osq.context = some x) (hs : x.state = .running) (hc : x.causes = [])
    (hk : x.inFlight[k]? = some n) (cause : FailCause) : s.StepFails (r.failEntry k cause) x k n cause := by
  have hrevs : r.Reverses x n ↔ n.step.onFail = .reverse ∧ x.reversed = none ∧ ∃ o d, s.reverseOf x = some (o, d) ∧ s.amu.mode ∈ d.modes := by
    rw [State.Reverses, autoReverse_iff hs, reverseOf_of_fixed hf rfl, amu_of_fixed hf]
  obtain ⟨hrev, hheld⟩ := failEntry_eq hx hk cause
  have hctx : (r.withFailed k cause).osq.context = some (x.withFailed k cause) := by rw [withFailed_context hx]
  refine ⟨fun hno => ?_, fun hyes o d ho => ?_⟩
  · rw [hheld (mt hrevs.1 hno)]
    refine ⟨not_contains_issue (.giveCause _ _) hn, _, giveCause_first hctx hs hc _, rfl, rfl, rfl, rfl, ?_, ?_, Context.held_not_active _⟩
    · simp [Context.held, Context.withFailed]
    · simp [Context.held, Context.withFailed, hk, Entry.failedBy]
  · rw [hrev (hrevs.2 hyes)]
    have ho' : (r.withFailed k cause).reverseOf (x.withFailed k cause) = some (o, d) := (reverseOf_of_fixed (r := r.withFailed k cause) hf rfl).trans ho
    obtain ⟨hosq, -, hlast, -⟩ := reversal_effect (s := r.withFailed k cause) (st := x.origin) (fun _ _ m _ => .refl _ m) hctx ho' (.refl _)
    have hstamp : r.aeu.stamp = s.aeu.stamp := congrArg Fixed.stamp hf
    refine ⟨?_, reversal_newest hctx ho' _, hlast⟩
    rw [hosq, ← hstamp]
    rfl

end

end Sys2Proof.Machine
end
section
namespace Sys2Proof.Machine

/-! ### Outcomes (R122, R124) -/

section
variable {s : State} {x : Context} {m k : Nat} {n : Entry} {c : Option FailCause}

/-- The record of a motion says how it stands. -/
def State.EndedAs (s : State) (m : Nat) (st : MotionState) (c : Option FailCause) : Prop :=
  (∃ g, s.ldu? m = some g ∧ g.state = st ∧ g.cause = c) ∨ (s.ldu? m = none ∧ ∃ a, s.adu? m = some a ∧ a.state = st ∧ a.cause = c)

theorem motionEnd_of_ended {st : MotionState} (h : s.EndedAs m st c) : s.motionEnd m = some (st, c) := by
  rcases h with ⟨g, hg, rfl, rfl⟩ | ⟨hn, a, ha, rfl, rfl⟩
  · simp only [State.motionEnd, hg]
  · simp only [State.motionEnd, hn, ha]

/-- The first entry that holds a motion id gives its place. -/
theorem slotOf_first (hx : s.osq.context = some x) (hk : x.inFlight[k]? = some n) (hm : n.motion = some m)
    (hfirst : ∀ j < k, ∀ o, x.inFlight[j]? = some o → o.motion ≠ some m) : s.slotOf m = some k := by
  obtain ⟨hlt, hget⟩ := List.getElem?_eq_some_iff.1 hk
  rw [State.slotOf, inFlight_of hx, List.findIdx?_eq_some_iff_getElem]
  refine ⟨hlt, by simp [hget, hm], fun j hj => ?_⟩
  simpa using hfirst j hj _ (List.getElem?_eq_getElem (hj.trans hlt))

theorem slotOf_none (hx : s.osq.context = some x) (h : ∀ n ∈ x.inFlight, n.motion ≠ some m) : s.slotOf m = none := by
  rw [State.slotOf, inFlight_of hx, List.findIdx?_eq_none_iff]
  exact fun n hn => by simpa using h n hn

theorem takeOutcome_unknown (h : s.slotOf m = none) : s.takeOutcome m = s := by simp only [State.takeOutcome, h]

theorem takeOutcome_done (hk : s.slotOf m = some k) (he : s.motionEnd m = some (.done, c)) : s.takeOutcome m = s.completeEntry k := by
  simp only [State.takeOutcome, hk, he]

theorem takeOutcome_failed {cause : FailCause} (hk : s.slotOf m = some k) (he : s.motionEnd m = some (.failed, some cause)) :
    s.takeOutcome m = if s.entryFailed k then s else s.failEntry k cause := by
  simp only [State.takeOutcome, hk, he]

theorem entryFailed_eq (hx : s.osq.context = some x) (hk : x.inFlight[k]? = some n) : s.entryFailed k = (n.state == .failed) := by
  simp [State.entryFailed, inFlight_of hx, hk]

/-- An entry with a motion leaves the list, and its unit drops the motion (R118, R122). -/
theorem completeEntry_eq (hx : s.osq.context = some x) (hk : x.inFlight[k]? = some n) (hm : n.motion = some m) :
    s.completeEntry k = emit .issue
      { s.dropMotion m with osq := { s.osq with context := some { x with inFlight := x.inFlight.eraseIdx k } } } := by
  have hk' : s.inFlight[k]? = some n := by rw [inFlight_of hx]; exact hk
  have hd : (s.dropMotion m).osq.context = some x := hx
  simp only [State.completeEntry, State.removeEntry, hk', Entry.onMotion, hm]
  rw [modCtx_eq hd]
  rfl

theorem dropMotion_gone (m : Nat) (s : State) : (s.dropMotion m).ldu? m = none ∧ (s.dropMotion m).adu? m = none :=
  ⟨tget_tdel_self _ _, tget_tdel_self _ _⟩

end

/-! ### WAIT steps that changed conditions complete (R120) -/

section
variable {s : State} {x : Context} {cs : List (Nat × Tri)}

theorem completedBy_iff {n : Entry} : n.completedBy cs = true ↔
    n.state = .active ∧ ∃ c w limit, n.step.kind = .wait c w limit ∧ (c, if w = true then .yes else .no) ∈ cs := by
  unfold Entry.completedBy
  cases hk : n.step.kind with
  | wait c w limit =>
    simp only [Bool.and_eq_true, beq_iff_eq, List.any_eq_true, StepKind.wait.injEq]
    refine and_congr_right fun _ => ⟨fun ⟨p, hp, h1, h2⟩ => ⟨c, w, limit, ⟨rfl, rfl, rfl⟩, ?_⟩, ?_⟩
    · rw [← h1, show (if w = true then Tri.yes else Tri.no) = p.2 from h2.symm]
      exact hp
    · rintro ⟨c', w', limit', ⟨rfl, rfl, rfl⟩, hp⟩
      exact ⟨_, hp, rfl, rfl⟩
  | driveGroup g d => simp
  | moveAxis i t l => simp
  | floatAxis i => simp
  | pause t => simp
  | call l => simp

theorem takeWaits_none (hx : s.osq.context = some x) (h : ∀ n ∈ x.inFlight, n.completedBy cs = false) : s.takeWaits cs = s := by
  have hn : s.inFlight.any (Entry.completedBy cs) = false := by
    rw [inFlight_of hx, List.any_eq_false]
    exact fun n hm => by simp [h n hm]
  simp [State.takeWaits, hn]

theorem takeWaits_some (hx : s.osq.context = some x) (hs : x.state = .running) {n : Entry} (hm : n ∈ x.inFlight) (hn : n.completedBy cs = true) :
    s.takeWaits cs = emit .issue
      { s with osq := { s.osq with context := some { x with inFlight := x.inFlight.filter (fun e => !e.completedBy cs) } } } := by
  have hr : s.running = true := by simp [State.running, hx, hs]
  have ha : s.inFlight.any (Entry.completedBy cs) = true := by
    rw [inFlight_of hx]
    exact List.any_eq_true.2 ⟨n, hm, hn⟩
  simp only [State.takeWaits, hr, ha, Bool.and_self, if_true]
  rw [modCtx_eq hx]

end

/-! ### The permissive watch (R51) -/

/-- The change touches the watched entry of a subject, whose first unsatisfied condition is `c`. -/
def State.Breaks (s : State) (cs : List (Nat × Tri)) (w : Subject) (c : Nat) : Prop :=
  ∃ p, s.permEntry w = some p ∧ s.firstUnsatisfied p = some c ∧ ∃ h ∈ cs, h.1 = 0 ∨ h.1 ∈ p.require ∨ h.1 ∈ p.forbid

section
variable {s e : State} {x : Context} {cs : List (Nat × Tri)} {w : Subject} {c : Nat}

theorem breaks_iff : s.Breaks cs w c ↔ s.watchTouched cs w = true ∧ s.permissive w = some c := by
  unfold State.Breaks State.watchTouched State.permissive
  cases hp : s.permEntry w with
  | none => simp
  | some p =>
    simp only [Option.some.injEq, exists_eq_left', Option.bind_some, List.any_eq_true, Bool.or_eq_true, beq_iff_eq, List.contains_iff_mem, or_assoc]
    exact and_comm

theorem watchOne_broken (h : s.Breaks cs w c) : s.watchOne cs (some w) = s.giveCause (permissiveCause c) := by
  obtain ⟨h1, h2⟩ := breaks_iff.1 h
  simp [State.watchOne, h1, h2]

theorem watchOne_kept {o : Option Subject} (h : ∀ w, o = some w → ∀ c, ¬ s.Breaks cs w c) : s.watchOne cs o = s := by
  cases o with
  | none => rfl
  | some w =>
    have hno := h w rfl
    simp only [breaks_iff, not_and] at hno
    simp only [State.watchOne]
    split
    · rename_i ht
      split
      · rename_i c hc
        exact absurd hc (hno c ht)
      · rfl
    · rfl

theorem watchAll_kept {ws : List (Option Subject)} (h : ∀ w, some w ∈ ws → ∀ c, ¬ s.Breaks cs w c) :
    ws.foldl (fun x w => x.watchOne cs w) s = s := by
  induction ws with
  | nil => rfl
  | cons o ws ih =>
    rw [List.foldl_cons, watchOne_kept fun w ho => h w (ho ▸ List.mem_cons_self)]
    exact ih fun w hw => h w (List.mem_cons_of_mem _ hw)

theorem giveCause_again (hx : s.osq.context = some x) (h : ∃ k ∈ x.causes, k.kind = .permissive) (c : Nat) : s.giveCause (permissiveCause c) = s := by
  obtain ⟨k, hk, hp⟩ := h
  exact giveCause_known hx (List.any_eq_true.2 ⟨k, hk, by rw [hp]; rfl⟩)

/-- Once the operation holds with PERMISSIVE no further watched motion changes it (R127). -/
theorem watchAll_holding (ws : List (Option Subject)) (hx : s.osq.context = some x) (h : ∃ k ∈ x.causes, k.kind = .permissive) :
    ws.foldl (fun x w => x.watchOne cs w) s = s := by
  induction ws with
  | nil => rfl
  | cons o ws ih =>
    have he : s.watchOne cs o = s := by
      unfold State.watchOne
      split
      · rfl
      · split
        · split
          · exact giveCause_again hx h _
          · rfl
        · rfl
    rw [List.foldl_cons, he]
    exact ih

/-- The first watched motion whose entry the change breaks holds the operation (R51). -/
theorem watchAll_broken {ws : List (Option Subject)} (hx : s.osq.context = some x) (hs : x.state = .running) (hn : x.causes = [])
    (h : ∃ w c, some w ∈ ws ∧ s.Breaks cs w c) : ∃ w c, some w ∈ ws ∧ s.Breaks cs w c ∧
      ws.foldl (fun x w => x.watchOne cs w) s = s.giveCause (permissiveCause c) := by
  induction ws with
  | nil => obtain ⟨w, c, hw, -⟩ := h; cases hw
  | cons o ws ih =>
    rw [List.foldl_cons]
    by_cases ho : ∃ w c, o = some w ∧ s.Breaks cs w c
    · obtain ⟨w, c, rfl, hb⟩ := ho
      refine ⟨w, c, List.mem_cons_self, hb, ?_⟩
      rw [watchOne_broken hb]
      exact watchAll_holding ws (giveCause_first hx hs hn _) ⟨_, List.mem_singleton_self _, rfl⟩
    · rw [watchOne_kept fun w hw c hb => ho ⟨w, c, hw, hb⟩]
      obtain ⟨w, c, hw, hb⟩ := h
      have hw' : some w ∈ ws := (List.mem_cons.1 hw).resolve_left fun he => ho ⟨w, c, he.symm, hb⟩
      obtain ⟨w', c', hm, hb', he⟩ := ih ⟨w, c, hw', hb⟩
      exact ⟨w', c', List.mem_cons_of_mem _ hm, hb', he⟩

/-- What the live motions of LDU and of ADU watch. -/
def State.watches (s : State) : List (Option Subject) :=
  (s.ldu.motions.filter (fun e => e.2.state.live)).map (fun e => e.2.watched) ++ (s.adu.motions.filter (fun e => e.2.state.live)).map (fun e => e.2.watched)

theorem takeChanged_eq (cs : List (Nat × Tri)) (s : State) :
    s.takeChanged cs = emit (.waits cs) (s.watches.foldl (fun x w => x.watchOne cs w) s) := rfl

theorem live_iff (st : MotionState) : st.live = true ↔ st = .waitingFlow ∨ st = .driving ∨ st = .settling := by
  cases st <;> simp [MotionState.live]

theorem mem_watches : some w ∈ s.watches ↔
    (∃ e ∈ s.ldu.motions, (e.2.state = .waitingFlow ∨ e.2.state = .driving ∨ e.2.state = .settling) ∧ e.2.watched = some w) ∨
      ∃ e ∈ s.adu.motions, (e.2.state = .waitingFlow ∨ e.2.state = .driving ∨ e.2.state = .settling) ∧ e.2.watched = some w := by
  simp only [State.watches, List.mem_append, List.mem_map, List.mem_filter, live_iff, and_assoc]

end

/-! ### The stages of a step (R115, R116, R117, R123) -/

section
variable {s : State} {x : Context} {st : Step}

/-- The step at the pointer of a context. -/
def State.stepHere (s : State) (x : Context) : Option Step := ((tget s.layout.lists x.pointer.list).getD [])[x.pointer.index]?

theorem issueTurn_running (hx : s.osq.context = some x) (hs : x.state = .running) (hd : ∀ n ∈ x.inFlight, n.due = false) : s.issueTurn =
    match s.stepHere x with
    | some st => s.takeStep x st
    | none =>
      match x.stack.getLast? with
      | some f => emit .issue (s.modCtx (fun y => { y with stack := y.stack.dropLast, pointer := f }))
      | none =>
        if x.inFlight.isEmpty then (s.modCtx (fun y => { y with state := .complete })).event (.operationEnded x.op true)
        else s := by
  have hdue : x.inFlight.any (fun e => e.due) = false := List.any_eq_false.2 fun n hn => by simp [hd n hn]
  simp only [State.issueTurn, hx, hs, hdue]
  rfl

theorem moveSatisfied_iff {i T : Nat} {l : Bool} : s.moveSatisfied i T l = true ↔
    ∃ a p, s.layout.axis? i = some a ∧ s.position i = some p ∧ distanceOf T p ≤ a.inPos ∧ (l = true → s.landed i = true) := by
  unfold State.moveSatisfied
  cases ha : s.layout.axis? i with
  | none => simp
  | some a =>
    cases hp : s.position i with
    | none => simp
    | some p => cases l <;> simp

theorem driveSet_nil {g : Nat} {d : LockDir} : (s.driveSet g d).isEmpty = true ↔
    ∀ def_, tget s.layout.groups g = some def_ → ∀ p ∈ def_.members, s.confirmed p = d.target := by
  unfold State.driveSet
  cases hg : tget s.layout.groups g with
  | none => simp
  | some def_ => simp [List.filter_eq_nil_iff]

theorem satisfied_iff {k : StepKind} : s.satisfied k = true ↔ s.StepSatisfied k := by
  cases k with
  | driveGroup g d => exact driveSet_nil
  | moveAxis i t l => exact moveSatisfied_iff
  | floatAxis i => exact iff_of_false Bool.false_ne_true id
  | wait c w limit => exact beq_iff_eq
  | pause t => exact iff_of_false Bool.false_ne_true id
  | call l => exact iff_of_false Bool.false_ne_true id

theorem stepPermissive_eq (k : StepKind) : s.stepPermissive k = (s.stepAsks k).bind s.permissive := by
  cases k with
  | moveAxis i t l =>
    have hiff : ((s.position i).isSome && !s.targetProtected i (s.targetOf i t)) = true ↔
        s.position i ≠ none ∧ s.targetProtected i (s.targetOf i t) = false := by simp [Option.isSome_iff_ne_none]
    simp only [State.stepPermissive, State.stepAsks]
    by_cases h : s.position i ≠ none ∧ s.targetProtected i (s.targetOf i t) = false
    · rw [if_pos (hiff.2 h), if_pos h]; rfl
    · rw [if_neg (mt hiff.1 h), if_neg h]; rfl
  | driveGroup g d => rfl
  | floatAxis i => rfl
  | wait c w limit => rfl
  | pause t => rfl
  | call l => rfl

/-- The pointer past the step. -/
def Context.past (x : Context) : StepRef := { x.pointer with index := x.pointer.index + 1 }

theorem advance_eq (hx : s.osq.context = some x) : s.advance = emit .issue { s with osq := { s.osq with context := some { x with pointer := x.past } } } := by
  rw [State.advance, State.stepOn, modCtx_eq hx]
  rfl

/-- The step is handed to its owner (R116, stage 5). -/
def State.handStep (x : Context) (st : Step) (s : State) : State :=
  match st.kind with
  | .floatAxis i =>
    match s.floatEntry i with
    | some s1 => s1.advance
    | none => s
  | .call l =>
    emit .issue (s.modCtx (fun y => { y with stack := y.stack ++ [x.past], pointer := { list := l, index := 0 } }))
  | .wait _ _ limit => (s.addEntry { ref := x.pointer, step := st, remaining := if limit = 0 then none else some limit }).advance
  | .pause t => (s.addEntry { ref := x.pointer, step := st, remaining := some t }).advance
  | .driveGroup _ _ =>
    match s.tryIssue x.pointer st.kind with
    | some (m, s1) => (s1.addEntry { ref := x.pointer, step := st, motion := some m }).issued m
    | none => s
  | .moveAxis _ _ _ =>
    match s.tryIssue x.pointer st.kind with
    | some (m, s1) => (s1.addEntry { ref := x.pointer, step := st, motion := some m }).issued m
    | none => s

theorem takeStep_room (hf : ¬ (st.kind.needsRoom = true ∧ 6 ≤ x.inFlight.length)) : (st.kind.needsRoom && decide (x.inFlight.length ≥ Config.inFlightMax)) = false := by
  rw [← Bool.not_eq_true]
  simpa [Config.inFlightMax] using hf

theorem takeStep_waits (hj : st.join = .afterAll) (hn : x.inFlight ≠ []) : s.takeStep x st = s := by
  have h : (st.join == .afterAll && !x.inFlight.isEmpty) = true := by simp [hj, hn]
  simp only [State.takeStep, h, if_true]

section
variable (hj : st.join = .withPrevious ∨ x.inFlight = [])
include hj

theorem takeStep_joins : (st.join == .afterAll && !x.inFlight.isEmpty) = false := by
  rcases hj with h | h <;> simp [h]

theorem takeStep_satisfied (h : s.StepSatisfied st.kind) : s.takeStep x st = s.advance := by
  simp only [State.takeStep, takeStep_joins hj, satisfied_iff.2 h]
  rfl

variable (hn : ¬ s.StepSatisfied st.kind)
include hn

theorem takeStep_full (h : st.kind.needsRoom = true ∧ 6 ≤ x.inFlight.length) : s.takeStep x st = s := by
  have hf : (st.kind.needsRoom && decide (x.inFlight.length ≥ Config.inFlightMax)) = true := by simpa [Config.inFlightMax] using h
  simp only [State.takeStep, takeStep_joins hj, Bool.eq_false_iff.2 (mt satisfied_iff.1 hn), hf]
  rfl

variable (hf : ¬ (st.kind.needsRoom = true ∧ 6 ≤ x.inFlight.length))
include hf

theorem takeStep_stopped {c : Nat} (hp : (s.stepAsks st.kind).bind s.permissive = some c) : s.takeStep x st = s.giveCause (permissiveCause c) := by
  simp only [State.takeStep, takeStep_joins hj, Bool.eq_false_iff.2 (mt satisfied_iff.1 hn), takeStep_room hf, stepPermissive_eq, hp]
  rfl

theorem takeStep_handed (hp : (s.stepAsks st.kind).bind s.permissive = none) : s.takeStep x st = s.handStep x st := by
  simp only [State.takeStep, takeStep_joins hj, Bool.eq_false_iff.2 (mt satisfied_iff.1 hn), takeStep_room hf, stepPermissive_eq, hp]
  rfl

end

end

end Sys2Proof.Machine
end
section
namespace Sys2Proof.Machine

/-! ### The motion id (R112) -/

/-- Seven ids and fewer than seven entries: one of them is free. -/
theorem freeMotion_firstFree (next : Nat) {es : List Entry} (h : es.length < 7) : FirstFree next es (freeMotion next es) := by
  have hall (m : Nat) : es.all (fun e => e.motion != some m) = true ↔ ∀ n ∈ es, n.motion ≠ some m := by simp
  have hfind : ((List.range 7).map (fun k => (next + k) % 7)).find? (fun i => es.all (fun e => e.motion != some i)) =
      ((List.range 7).find? (fun k => es.all (fun e => e.motion != some ((next + k) % 7)))).map (fun k => (next + k) % 7) := List.find?_map
  unfold freeMotion
  rw [hfind]
  cases hk : (List.range 7).find? (fun k => es.all (fun e => e.motion != some ((next + k) % 7))) with
  | some k =>
    obtain ⟨hp, hlt, hbefore⟩ := List.find?_range_eq_some.1 hk
    refine ⟨k, List.mem_range.1 hlt, rfl, (hall _).1 hp, fun j hj => ?_⟩
    have := hbefore j hj
    simpa using this
  | none =>
    exfalso
    have htaken : ∀ k ∈ Finset.range 7, some ((next + k) % 7) ∈ (es.map (fun n => n.motion)).toFinset := fun k hk7 => by
      have := List.find?_eq_none.1 hk k (List.mem_range.2 (Finset.mem_range.1 hk7))
      simpa using this
    have hinj : Set.InjOn (fun k => some ((next + k) % 7)) (Finset.range 7 : Set Nat) := fun a ha b hb hab => by
      have ha' : a < 7 := by simpa using ha
      have hb' : b < 7 := by simpa using hb
      have := Option.some.inj hab
      omega
    have hcard := Finset.card_le_card_of_injOn (fun k => some ((next + k) % 7)) htaken hinj
    have hlen := List.toFinset_card_le (es.map (fun n => n.motion))
    rw [Finset.card_range] at hcard
    rw [List.length_map] at hlen
    omega

/-! ### A claim (R11) -/

/-- The points with those of a claim reserved by the motion. -/
def State.claimedBy (m : Nat) (pts : List Nat) (s : State) : State :=
  { s with pmn := { s.pmn with points := pts.foldl (fun t i => tmod t i (PointDyn.setReserved (some m))) s.pmn.points } }

section
variable {s : State} {m : Nat} {pts : List Nat}

theorem claim_free (h : ∀ p ∈ pts, (tget s.pmn.points p).isSome ∧ s.reservedBy p = none) : s.claim m pts = some (s.claimedBy m pts) := by
  have hall : pts.all (fun i => (tget s.pmn.points i).isSome && (s.reservedBy i).isNone) = true := by
    rw [List.all_eq_true]
    exact fun p hp => by simp [(h p hp).1, (h p hp).2]
  rw [State.claim, if_pos hall]
  rfl

theorem claim_taken (h : ¬ ∀ p ∈ pts, (tget s.pmn.points p).isSome ∧ s.reservedBy p = none) : s.claim m pts = none := by
  refine if_neg fun hall => h fun p hp => ?_
  have := List.all_eq_true.1 hall p hp
  simpa using this

theorem setReserved_twice (o : Option Nat) (d : PointDyn) : (d.setReserved o).setReserved o = d.setReserved o := by cases d <;> rfl

theorem tget_claimedBy (m : Nat) (pts : List Nat) (s : State) (q : Nat) : tget (s.claimedBy m pts).pmn.points q =
    if q ∈ pts then (tget s.pmn.points q).map (PointDyn.setReserved (some m)) else tget s.pmn.points q := by
  show tget (pts.foldl (fun t i => tmod t i (PointDyn.setReserved (some m))) s.pmn.points) q = _
  generalize s.pmn.points = t
  induction pts generalizing t with
  | nil => simp
  | cons p pts ih =>
    rw [List.foldl_cons, ih, tget_tmod]
    by_cases hp : p = q
    · subst hp
      cases h : tget t p <;> simp [setReserved_twice]
    · simp [hp, Ne.symm hp]

theorem setReserved_bare (o : Option Nat) (d : PointDyn) : (d.setReserved o).bare = d.bare := by cases d <;> rfl

theorem claimedBy_sees (m : Nat) (pts : List Nat) (s : State) (q : Nat) : s.SeesSame (s.claimedBy m pts) q := by
  rw [State.SeesSame, tget_claimedBy]
  split
  · rw [Option.map_map]
    exact congrArg (fun f => Option.map f _) (funext fun d => setReserved_bare _ d)
  · rfl

theorem reservedBy_claimedBy (h : ∀ p ∈ pts, (tget s.pmn.points p).isSome) (q : Nat) :
    (s.claimedBy m pts).reservedBy q = if q ∈ pts then some m else s.reservedBy q := by
  rw [State.reservedBy, tget_claimedBy]
  split
  · rename_i hq
    obtain ⟨d, hd⟩ := Option.isSome_iff_exists.1 (h q hq)
    rw [hd]
    cases d <;> rfl
  · rfl

section
variable {e : State} {q : Nat}

theorem State.SeesSame.confirmed (h : s.SeesSame e q) : e.confirmed q = s.confirmed q := by
  have key (t : State) : t.confirmed q = ((tget t.pmn.points q).map PointDyn.bare).elim .between (fun d => match d with
      | .lock y => y.confirmed
      | .axis _ => .between) := by
    unfold State.confirmed State.lock?
    cases tget t.pmn.points q with
    | none => rfl
    | some d => cases d <;> rfl
  rw [key, key, h]

theorem State.SeesSame.position (h : s.SeesSame e q) : e.position q = s.position q := by
  have key (t : State) : t.position q = ((tget t.pmn.points q).map PointDyn.bare).bind (fun d => match d with
      | .lock _ => none
      | .axis y => y.p) := by
    unfold State.position State.axis?
    cases tget t.pmn.points q with
    | none => rfl
    | some d => cases d <;> rfl
  rw [key, key, h]

end

/-! ### A step with its unit (R112, R115) -/

/-- The next motion id follows the one given (R112). -/
def State.numbered (m : Nat) (r : State) : State := { r with osq := { r.osq with nextMotion := (m + 1) % 7 } }

/-- The step has an entry with its motion, and the pointer is past it. -/
def State.enrolled (x : Context) (m : Nat) (n : Entry) (r : State) : State :=
  { r with osq := { r.osq with nextMotion := (m + 1) % 7, context := some { x with pointer := x.past, inFlight := x.inFlight ++ [n] } } }

/-- The entry that a step with a motion has. -/
def motionEntry (x : Context) (st : Step) (m : Nat) : Entry := { ref := x.pointer, step := st, motion := some m }

variable {r : State} {x : Context} {st : Step}

theorem motionEntry_active (x : Context) (st : Step) (m : Nat) : (motionEntry x st m).state ≠ .failed := EntryState.noConfusion

/-- What the entry of a step changes, and what it leaves. -/
theorem enrolled_parts (r : State) (x : Context) (m : Nat) (n : Entry) :
    let t := emit .issue (r.enrolled x m n)
    t.osq = { r.osq with nextMotion := (m + 1) % 7, context := some { x with pointer := x.past, inFlight := x.inFlight ++ [n] } } ∧
      t.todo = r.todo ++ [.issue] ∧ t.hpa = r.hpa ∧ t.pmn = r.pmn ∧ t.ldu = r.ldu ∧ t.adu = r.adu := ⟨rfl, rfl, rfl, rfl, rfl, rfl⟩

/-- What becomes of a step that its unit takes: the attempt goes on, or the outcome is taken at once (R115, R124). -/
theorem issued_eq (hx : r.osq.context = some x) (m : Nat) (n : Entry) :
    ((r.numbered m).addEntry n).issued m =
      if r.motionFailed m then (r.enrolled x m n).takeOutcome m else emit .issue (r.enrolled x m n) := by
  have hnum : (r.numbered m).osq.context = some x := hx
  have hadd : (r.numbered m).addEntry n =
      { r with osq := { r.osq with nextMotion := (m + 1) % 7, context := some { x with inFlight := x.inFlight ++ [n] } } } := modCtx_eq hnum _
  have hstep : ((r.numbered m).addEntry n).stepOn = r.enrolled x m n := by
    rw [hadd, State.stepOn, modCtx_eq rfl]
    rfl
  rw [State.issued, State.advance, hstep, hadd]
  rfl

theorem issued_live {g : Option FailCause} {w : MotionState} (hx : r.osq.context = some x) {m : Nat} (n : Entry) (he : r.motionEnd m = some (w, g))
    (hw : w ≠ .failed) : ((r.numbered m).addEntry n).issued m = emit .issue (r.enrolled x m n) := by
  rw [issued_eq hx, if_neg]
  simpa [State.motionFailed, he] using hw

/-- A motion that its unit fails at issue fails its step (R124). -/
theorem issued_failed {c : FailCause} (hx : r.osq.context = some x) {m : Nat} {n : Entry} (he : r.motionEnd m = some (.failed, some c))
    (hm : n.motion = some m) (hs : n.state ≠ .failed) (hfree : ∀ o ∈ x.inFlight, o.motion ≠ some m) :
    ((r.numbered m).addEntry n).issued m = (r.enrolled x m n).failEntry x.inFlight.length c := by
  have hctx : (r.enrolled x m n).osq.context = some { x with pointer := x.past, inFlight := x.inFlight ++ [n] } := rfl
  have hk : (x.inFlight ++ [n])[x.inFlight.length]? = some n := by simp
  have hslot : (r.enrolled x m n).slotOf m = some x.inFlight.length := slotOf_first hctx hk hm fun j hj o ho => by
    rw [List.getElem?_append_left hj] at ho
    exact hfree o (List.mem_of_getElem? ho)
  rw [issued_eq hx, if_pos (by simp [State.motionFailed, he]), takeOutcome_failed hslot he, entryFailed_eq hctx hk, if_neg (by simpa using hs)]

/-- A step that its unit fails at issue, as OSQ takes it. -/
theorem enrolled_fails {c : FailCause} {m : Nat} (hs : x.state = .running) (hn : x.causes = []) (hf : r.fixed = s.fixed)
    (ht : .issue ∉ r.todo) (hh : r.NothingHeldBy m) :
    let t := (r.enrolled x m (motionEntry x st m)).failEntry x.inFlight.length c
    s.StepFails t { x with pointer := x.past, inFlight := x.inFlight ++ [motionEntry x st m] } x.inFlight.length (motionEntry x st m) c ∧
      t.NothingHeldBy m ∧ t.hpa.requests.length ≤ r.hpa.requests.length ∧ (.reissue ∉ r.todo → t.todo.contains .reissue = false) ∧
      ∀ q, t.faultOf q = r.faultOf q := by
  intro t
  have hctx : (r.enrolled x m (motionEntry x st m)).osq.context =
      some { x with pointer := x.past, inFlight := x.inFlight ++ [motionEntry x st m] } := rfl
  have hk : (x.inFlight ++ [motionEntry x st m])[x.inFlight.length]? = some (motionEntry x st m) := by simp
  refine ⟨failEntry_stepFails (r := r.enrolled x m (motionEntry x st m)) hf ht hctx hs hn hk c, ?_⟩
  have henr : r.Eases (r.enrolled x m (motionEntry x st m)) := .of_same rfl rfl rfl
  obtain ⟨w, hw, he⟩ := failEntry_eases hctx hk c
  have hease := henr.trans hw
  have hnr (h : .reissue ∉ r.todo) : .reissue ∉ w.todo := fun hm => h (hease.todo _ hm rfl)
  rcases he with he | he
  · have he' : t = w := he
    rw [he']
    exact ⟨hease.nothingHeld hh, hease.length, fun h => by rw [← Bool.not_eq_true, List.contains_iff_mem]; exact hnr h, hease.faults⟩
  · have he' : t = emit .issue w := he
    rw [he']
    refine ⟨(State.Calms.emit _ _).nothingHeld (hease.nothingHeld hh), hease.length, fun h => ?_, hease.faults⟩
    rw [← Bool.not_eq_true, List.contains_iff_mem, emit_todo]
    simpa using hnr h

end

/-! ### A group drive at issue (R74) -/

section
variable {s : State} {m g : Nat} {d : LockDir} {pts : List Nat} {def_ : GroupDef} {ref : StepRef}

/-- The points are claimed and LDU has the record of the drive. -/
def State.groupMade (m : Nat) (ref : StepRef) (g : Nat) (d : LockDir) (pts : List Nat) (def_ : GroupDef) (s : State) : State :=
  { s.claimedBy m pts with ldu := { s.ldu with motions := tput s.ldu.motions m (s.newGroup ref g d pts def_) } }

/-- A fault is reported of each point that has none, being in CONFLICT. -/
def State.conflictsReported (bad : List Nat) (s : State) : State :=
  bad.foldl (fun x p => if (x.faultOf p).isNone then x.recordFault p .sensorConflict else x) s

theorem badMember_groupMade (p : Nat) : (s.groupMade m ref g d pts def_).badMember p = s.badMember p := by
  have h : s.SeesSame (s.groupMade m ref g d pts def_) p := claimedBy_sees m pts s p
  rw [State.badMember, h.faultOf, h.confirmed]
  rfl

theorem lduIssue_taken (h : ¬ ∀ p ∈ pts, (tget s.pmn.points p).isSome ∧ s.reservedBy p = none) : s.lduIssue m ref g d pts = none := by
  unfold State.lduIssue
  rw [claim_taken h]
  cases tget s.layout.groups g <;> rfl

section
variable (hg : tget s.layout.groups g = some def_) (hfree : ∀ p ∈ pts, (tget s.pmn.points p).isSome ∧ s.reservedBy p = none)
include hg hfree

theorem lduIssue_eq : s.lduIssue m ref g d pts = some
    (if (pts.filter s.badMember).isEmpty then (s.groupMade m ref g d pts def_).request m .locking (s.lockFlow pts) (s.lockFlow pts)
    else ((s.groupMade m ref g d pts def_).conflictsReported (pts.filter s.badMember)).lduEnd m .failed (some .memberFaulted) (pts.filter s.badMember)) := by
  have hbad : pts.filter (s.groupMade m ref g d pts def_).badMember = pts.filter s.badMember := List.filter_congr fun p _ => badMember_groupMade p
  rw [← hbad]
  simp only [State.lduIssue, hg, claim_free hfree]
  split <;> rename_i h
  · exact congrArg some (if_pos h).symm
  · exact congrArg some (if_neg h).symm

theorem lduIssue_waits (hb : pts.filter s.badMember = []) :
    s.lduIssue m ref g d pts = some ((s.groupMade m ref g d pts def_).request m .locking (s.lockFlow pts) (s.lockFlow pts)) := by
  rw [lduIssue_eq hg hfree, hb]
  rfl

theorem lduIssue_fails (hb : pts.filter s.badMember ≠ []) : s.lduIssue m ref g d pts = some
    (((s.groupMade m ref g d pts def_).conflictsReported (pts.filter s.badMember)).lduEnd m .failed (some .memberFaulted) (pts.filter s.badMember)) := by
  rw [lduIssue_eq hg hfree, if_neg (by simpa using hb)]

end

/-! #### What the reports of the faults leave -/

theorem recompute_attempts (ids : List Nat) (s : State) : ∀ t ∈ (s.recompute ids).todo, t.attempts = true → t ∈ s.todo := by
  intro t ht ha
  cases hs : s.cev.started with
  | false => rw [recompute_not_started hs] at ht; exact ht
  | true =>
    rcases recompute_started hs ids with ⟨he, -⟩ | he
    · rw [he] at ht; exact ht
    · rw [he] at ht
      rcases List.mem_append.1 ht with h | h
      · exact h
      · rw [List.mem_singleton.1 h] at ha
        cases ha

theorem newFault_attempts (i : Nat) (code : FaultCode) (k : PointDyn) (s : State) : ∀ t ∈ (s.newFault i code k).todo, t.attempts = true → t ∈ s.todo := by
  have h := recompute_attempts (Layout.condsNaming s.layout i) { s with pmn := { s.pmn with points := tput s.pmn.points i (k.setFault (some code)) } }
  unfold State.newFault
  simp only
  split <;> exact h

theorem takeFault_attempts (i : Nat) (code : FaultCode) (s : State) : ∀ t ∈ (s.takeFault i code).todo, t.attempts = true → t ∈ s.todo := by
  cases hd : tget s.pmn.points i with
  | none => rw [takeFault_absent hd]; exact fun _ h _ => h
  | some k =>
    have h : ∀ t ∈ (if k.fault.isNone then s.newFault i code k else s).todo, t.attempts = true → t ∈ s.todo := by
      split
      · exact newFault_attempts i code k s
      · exact fun _ h _ => h
    rw [takeFault_present hd]
    split
    · exact fun t ht ha => h t ((State.Eases.emit rfl _).todo t ht ha) ha
    · exact h

theorem recordFault_attempts (i : Nat) (code : FaultCode) (s : State) : ∀ t ∈ (s.recordFault i code).todo, t.attempts = true → t ∈ s.todo := by
  have hh (x : State) : ∀ t ∈ (x.handFloat i).todo, t.attempts = true → t ∈ x.todo := by
    unfold State.handFloat
    split
    · exact (State.Eases.emit rfl x).todo
    · exact fun _ h _ => h
  unfold State.recordFault
  simp only
  split
  · exact takeFault_attempts i code s
  · exact fun t ht ha => takeFault_attempts i code s t (hh _ t ht ha) ha

/-- Reports of faults ask for nothing, and leave the units; every point named has a fault after them. -/
theorem conflictsReported_effect (bad : List Nat) (s : State) :
    (s.conflictsReported bad).fixed = s.fixed ∧ (s.conflictsReported bad).units = s.units ∧
      (∀ t ∈ (s.conflictsReported bad).todo, t.attempts = true → t ∈ s.todo) ∧
      (∀ q, (s.faultOf q).isSome = true → ((s.conflictsReported bad).faultOf q).isSome = true) ∧
      ∀ p ∈ bad, (tget s.pmn.points p).isSome = true → ((s.conflictsReported bad).faultOf p).isSome = true := by
  have hpresent (i : Nat) (code : FaultCode) (x : State) (q : Nat) (h : (tget x.pmn.points q).isSome = true) :
      (tget (x.recordFault i code).pmn.points q).isSome = true := by
    rw [tget_recordFault]
    split
    · rename_i hq; subst hq; simpa using h
    · exact h
  induction bad generalizing s with
  | nil => exact ⟨rfl, rfl, fun _ h _ => h, fun _ h => h, fun _ h => absurd h List.not_mem_nil⟩
  | cons p bad ih =>
    have hstep : s.conflictsReported (p :: bad) = (if (s.faultOf p).isNone then s.recordFault p .sensorConflict else s).conflictsReported bad := rfl
    rw [hstep]
    split
    · rename_i hnone
      obtain ⟨h1, h2, h3, h4, h5⟩ := ih (s.recordFault p .sensorConflict)
      have hkeep (q : Nat) (h : (s.faultOf q).isSome = true) : ((s.recordFault p .sensorConflict).faultOf q).isSome = true := by
        rw [faultOf_recordFault]
        split
        · rfl
        · exact h
      refine ⟨h1.trans (fixed_recordFault _ _ _), h2.trans (State.ActsTo.recordFault _ _ s).units,
        fun t ht ha => recordFault_attempts _ _ _ t (h3 t ht ha) ha, fun q hq => h4 q (hkeep q hq), fun q hq hp => ?_⟩
      rcases List.mem_cons.1 hq with rfl | hq
      · refine h4 q ?_
        rw [faultOf_recordFault, if_pos ⟨rfl, hp⟩]
        rfl
      · exact h5 q hq (hpresent _ _ _ _ hp)
    · rename_i hsome
      obtain ⟨h1, h2, h3, h4, h5⟩ := ih s
      refine ⟨h1, h2, h3, h4, fun q hq hp => ?_⟩
      rcases List.mem_cons.1 hq with rfl | hq
      · exact h4 q (by simpa [Option.isSome_iff_ne_none] using hsome)
      · exact h5 q hq hp

end

end Sys2Proof.Machine
end
section
namespace Sys2Proof.Machine

/-! ### A group drive handed over (R74, R112) -/

section
variable {s : State} {x : Context} {st : Step} {m g : Nat} {d : LockDir} {def_ : GroupDef}

/-- LDU has sent the request of a drive. -/
def State.groupAsked (s : State) (m : Nat) (ref : StepRef) (g : Nat) (d : LockDir) (pts : List Nat) (def_ : GroupDef) : State :=
  (s.groupMade m ref g d pts def_).request m .locking (s.lockFlow pts) (s.lockFlow pts)

theorem groupAsked_parts (s : State) (m : Nat) (ref : StepRef) (g : Nat) (d : LockDir) (pts : List Nat) (def_ : GroupDef) :
    let r := s.groupAsked m ref g d pts def_
    r.osq = s.osq ∧ r.todo = s.todo ++ [.pass] ∧
      r.hpa.requests = s.hpa.requests ++
        [{ motion := m, cls := .locking, requested := s.lockFlow pts, minimum := s.lockFlow pts, stamp := s.hpa.arrival, passed := 0, wait := s.tune.flowWait }] ∧
      r.pmn = (s.claimedBy m pts).pmn ∧ r.ldu? m = some (s.newGroup ref g d pts def_) := ⟨rfl, rfl, rfl, rfl, tget_tput_self _ _ _⟩

/-- The motion id that the next step with a motion is given (R112). -/
def State.nextFree (s : State) (x : Context) : Nat := freeMotion s.osq.nextMotion x.inFlight

theorem driveSet_eq (g : Nat) (d : LockDir) (s : State) :
    s.driveSet g d = (((tget s.layout.groups g).map (fun def_ => def_.members)).getD []).filter (fun p => s.confirmed p != d.target) := by
  unfold State.driveSet
  cases tget s.layout.groups g <;> rfl

theorem tryIssue_group (hx : s.osq.context = some x) (ref : StepRef) (g : Nat) (d : LockDir) : s.tryIssue ref (.driveGroup g d) =
    (s.lduIssue (s.nextFree x) ref g d (s.driveSet g d)).map (fun r => (s.nextFree x, r.numbered (s.nextFree x))) := by
  simp only [State.tryIssue, inFlight_of hx]
  rfl

theorem handStep_group_none (hx : s.osq.context = some x) (hk : st.kind = .driveGroup g d)
    (h : s.lduIssue (s.nextFree x) x.pointer g d (s.driveSet g d) = none) : s.handStep x st = s := by
  simp only [State.handStep, hk, tryIssue_group hx, h, Option.map_none]

theorem handStep_group_some {r : State} (hx : s.osq.context = some x) (hk : st.kind = .driveGroup g d)
    (h : s.lduIssue (s.nextFree x) x.pointer g d (s.driveSet g d) = some r) :
    s.handStep x st = ((r.numbered (s.nextFree x)).addEntry (motionEntry x st (s.nextFree x))).issued (s.nextFree x) := by
  simp only [State.handStep, hk, tryIssue_group hx, h, Option.map_some]
  rfl

theorem handStep_group_taken (hx : s.osq.context = some x) (hk : st.kind = .driveGroup g d)
    (h : ¬ ∀ p ∈ s.driveSet g d, (tget s.pmn.points p).isSome ∧ s.reservedBy p = none) : s.handStep x st = s :=
  handStep_group_none hx hk (lduIssue_taken h)

section
variable (hx : s.osq.context = some x) (hk : st.kind = .driveGroup g d) (hg : tget s.layout.groups g = some def_)
  (hfree : ∀ p ∈ s.driveSet g d, (tget s.pmn.points p).isSome ∧ s.reservedBy p = none)
include hx hk hg hfree

/-- A drive that LDU takes: its points reserved, its request sent, its record waiting for flow (R61, R74). -/
theorem handStep_group_waits (hb : (s.driveSet g d).filter s.badMember = []) :
    let m := s.nextFree x
    let t := s.handStep x st
    t.osq = { s.osq with
        nextMotion := (m + 1) % 7, context := some { x with pointer := x.past, inFlight := x.inFlight ++ [motionEntry x st m] } } ∧
      (∀ p, t.reservedBy p = if p ∈ s.driveSet g d then some m else s.reservedBy p) ∧
      t.todo = s.todo ++ [.pass] ++ [.issue] ∧
      t.hpa.requests = s.hpa.requests ++
        [{ motion := m, cls := .locking, requested := s.lockFlow (s.driveSet g d), minimum := s.lockFlow (s.driveSet g d), stamp := s.hpa.arrival
           passed := 0, wait := s.tune.flowWait }] ∧
      t.ldu? m = some (s.newGroup x.pointer g d (s.driveSet g d) def_) := by
  intro m t
  obtain ⟨hosq, htodo, hreq, hpmn, hrec⟩ := groupAsked_parts s m x.pointer g d (s.driveSet g d) def_
  have hend : (s.groupAsked m x.pointer g d (s.driveSet g d) def_).motionEnd m = some (.waitingFlow, none) := by
    simp only [State.motionEnd, hrec]
    rfl
  have ht : t = emit .issue ((s.groupAsked m x.pointer g d (s.driveSet g d) def_).enrolled x m (motionEntry x st m)) :=
    (handStep_group_some hx hk (lduIssue_waits hg hfree hb)).trans (issued_live (hosq ▸ hx) (motionEntry x st m) hend (by decide))
  obtain ⟨kosq, ktodo, khpa, kpmn, kldu, -⟩ := enrolled_parts (s.groupAsked m x.pointer g d (s.driveSet g d) def_) x m (motionEntry x st m)
  rw [ht]
  refine ⟨by rw [kosq, hosq], fun p => ?_, by rw [ktodo, htodo], by rw [khpa, hreq], by rw [State.ldu?, kldu]; exact hrec⟩
  rw [State.reservedBy, kpmn, hpmn]
  exact reservedBy_claimedBy (fun p hp => (hfree p hp).1) p

/-- A drive with a faulted member or one in CONFLICT fails at issue (R74, R124). -/
theorem handStep_group_fails (hs : x.state = .running) (hn : x.causes = []) (ht : s.todo = []) (hm : ∀ o ∈ x.inFlight, o.motion ≠ some (s.nextFree x))
    (hb : (s.driveSet g d).filter s.badMember ≠ []) :
    let m := s.nextFree x
    let t := s.handStep x st
    s.StepFails t { x with pointer := x.past, inFlight := x.inFlight ++ [motionEntry x st m] } x.inFlight.length (motionEntry x st m) .memberFaulted ∧
      t.NothingHeldBy m ∧ t.todo.contains .reissue = false ∧ t.hpa.requests.length ≤ s.hpa.requests.length ∧
      ∀ p ∈ (s.driveSet g d).filter s.badMember, (t.faultOf p).isSome = true := by
  intro m t
  let bad := (s.driveSet g d).filter s.badMember
  let made := s.groupMade m x.pointer g d (s.driveSet g d) def_
  let c := made.conflictsReported bad
  let r := c.lduEnd m .failed (some .memberFaulted) bad
  obtain ⟨hfix, hunits, htodo, -, hfault⟩ := conflictsReported_effect bad made
  have hrec : c.ldu? m = some (s.newGroup x.pointer g d (s.driveSet g d) def_) := by
    rw [State.ldu?, ldu_of_units hunits]
    exact tget_tput_self _ _ _
  have hend : r.motionEnd m = some (.failed, some .memberFaulted) := by
    have hl : r.ldu? m = some ((s.newGroup x.pointer g d (s.driveSet g d) def_).finished .failed (some .memberFaulted) bad) := by
      rw [ldu?_lduEnd hrec, if_pos rfl]
    simp only [State.motionEnd, hl]
    rfl
  have hrx : r.osq.context = some x := by
    rw [(State.Calms.lduEnd _ _ _ _ c).osq, osq_of_units hunits]
    exact hx
  have hrt (u : Task) (ha : u.attempts = true) : u ∉ r.todo := fun hu => by
    have := htodo u ((State.Eases.lduEnd _ _ _ _ c).todo u hu ha) ha
    rw [show made.todo = [] from ht] at this
    cases this
  have htr : t = _ := (handStep_group_some hx hk (lduIssue_fails hg hfree hb)).trans (issued_failed (n := motionEntry x st m) hrx hend rfl (motionEntry_active x st m) hm)
  obtain ⟨hfails, hheld, hlen, hre, hf⟩ := enrolled_fails (s := s) (st := st) (c := .memberFaulted) hs hn
    ((State.Calms.lduEnd m .failed (some .memberFaulted) bad c).fixed.trans hfix) (hrt .issue rfl) (lduEnd_ended hrec .failed (some .memberFaulted) bad).given
  rw [htr]
  refine ⟨hfails, hheld, hre (hrt .reissue rfl), hlen.trans ?_, fun p hp => ?_⟩
  · refine (State.Eases.lduEnd _ _ _ _ c).length.trans ?_
    rw [hpa_of_units hunits]
    exact Nat.le_refl _
  · rw [hf, (State.Eases.lduEnd _ _ _ _ c).faults]
    refine hfault p hp ?_
    have hsame : s.SeesSame made p := claimedBy_sees m (s.driveSet g d) s p
    rw [hsame.present]
    exact (hfree p (List.mem_of_mem_filter hp)).1

end

end

/-! ### A move handed over (R91, R112) -/

section
variable {s : State} {x : Context} {st : Step} {m i T : Nat} {w : Target} {l : Bool} {ref : StepRef}

/-- The record of a move at issue. -/
def State.newMove (s : State) (ref : StepRef) (i T : Nat) (l : Bool) : AxisMotion :=
  { owner := ref, axis := i, target := T, landing := l, dir := s.moveDir i T }

/-- The axis is claimed and ADU has the record of the move. -/
def State.moveMade (m : Nat) (ref : StepRef) (i T : Nat) (l : Bool) (s : State) : State :=
  { s.claimedBy m [i] with adu := { s.adu with motions := tput s.adu.motions m (s.newMove ref i T l) } }

theorem moveRefused_moveMade : (s.moveMade m ref i T l).moveRefused i T = s.moveRefused i T := by
  have h : s.SeesSame (s.moveMade m ref i T l) i := claimedBy_sees m [i] s i
  simp only [State.moveRefused, h.position, h.faultOf]
  rfl

theorem aduIssue_taken (h : ¬ ∀ p ∈ [i], (tget s.pmn.points p).isSome ∧ s.reservedBy p = none) : s.aduIssue m ref i T l = none := by
  simp only [State.aduIssue, claim_taken h]

theorem aduIssue_free (h : ∀ p ∈ [i], (tget s.pmn.points p).isSome ∧ s.reservedBy p = none) : s.aduIssue m ref i T l =
    match s.moveRefused i T with
    | some c => some ((s.moveMade m ref i T l).aduEnd m .failed (some c))
    | none => some ((s.moveMade m ref i T l).moveRequest m) := by
  have hdir : (s.claimedBy m [i]).moveDir i T = s.moveDir i T := by simp only [State.moveDir, (claimedBy_sees m [i] s i).position]
  rw [← moveRefused_moveMade (m := m) (ref := ref) (l := l)]
  simp only [State.aduIssue, claim_free h, hdir]
  rfl

theorem adu?_moveMade : (s.moveMade m ref i T l).adu? m = some (s.newMove ref i T l) := tget_tput_self _ _ _

/-- The record of a move that asks for flow (R61, R91). -/
def State.moveAsking (s : State) (d : AxisDef) (a : AxisMotion) : AxisMotion :=
  { a with
    state := .waitingFlow, halt := none, requested := commandFlow (d.base a.dir) d.qFull, minimum := commandFlow d.vMin d.qFull
    watched := s.watchFor (.axis a.axis a.dir) }

/-- ADU has sent the request of a move. -/
def State.moveAsked (s : State) (m : Nat) (ref : StepRef) (i T : Nat) (l : Bool) (d : AxisDef) : State :=
  ((s.moveMade m ref i T l).modAdu m (s.moveAsking d)).request m .travel (commandFlow (d.base (s.moveDir i T)) d.qFull) (commandFlow d.vMin d.qFull)

theorem moveAsked_parts (s : State) (m : Nat) (ref : StepRef) (i T : Nat) (l : Bool) (d : AxisDef) :
    let r := s.moveAsked m ref i T l d
    r.osq = s.osq ∧ r.todo = s.todo ++ [.pass] ∧
      r.hpa.requests = s.hpa.requests ++
        [{ motion := m, cls := .travel, requested := commandFlow (d.base (s.moveDir i T)) d.qFull, minimum := commandFlow d.vMin d.qFull
           stamp := s.hpa.arrival, passed := 0, wait := s.tune.flowWait }] ∧
      r.pmn = (s.claimedBy m [i]).pmn ∧ r.ldu = s.ldu ∧ r.adu? m = some (s.moveAsking d (s.newMove ref i T l)) := by
  refine ⟨rfl, rfl, rfl, rfl, rfl, ?_⟩
  show ((s.moveMade m ref i T l).modAdu m (s.moveAsking d)).adu? m = _
  rw [adu?_modAdu, if_pos rfl, adu?_moveMade]
  rfl

/-- A request reads the record that it is sent for. -/
theorem modAdu_congr {a : AxisMotion} (ha : s.adu? m = some a) {f h : AxisMotion → AxisMotion} (hf : f a = h a) : s.modAdu m f = s.modAdu m h := by
  have key (t : Table AxisMotion) (ht : tget t m = some a) : tmod t m f = tmod t m h := by simp only [tmod, ht, hf]
  rw [State.modAdu, State.modAdu, key _ ha]

theorem moveRequest_moveMade {d : AxisDef} (hd : s.layout.axis? i = some d) : (s.moveMade m ref i T l).moveRequest m = s.moveAsked m ref i T l d := by
  have hd' : (s.moveMade m ref i T l).layout.axis? (s.newMove ref i T l).axis = some d := hd
  simp only [State.moveRequest, adu?_moveMade, hd']
  have hrec := modAdu_congr (s := s.moveMade m ref i T l) adu?_moveMade
    (f := fun a => { a with
      state := .waitingFlow, halt := none, requested := commandFlow (d.base (s.newMove ref i T l).dir) d.qFull, minimum := commandFlow d.vMin d.qFull
      watched := (s.moveMade m ref i T l).watchFor (.axis a.axis a.dir) })
    (h := s.moveAsking d) rfl
  rw [hrec]
  rfl

theorem tryIssue_move (hx : s.osq.context = some x) (ref : StepRef) (i : Nat) (w : Target) (l : Bool) : s.tryIssue ref (.moveAxis i w l) =
    (s.aduIssue (s.nextFree x) ref i (s.targetOf i w) l).map (fun r => (s.nextFree x, r.numbered (s.nextFree x))) := by
  simp only [State.tryIssue, inFlight_of hx]
  rfl

theorem handStep_move_taken (hx : s.osq.context = some x) (hk : st.kind = .moveAxis i w l)
    (h : ¬ ∀ p ∈ [i], (tget s.pmn.points p).isSome ∧ s.reservedBy p = none) : s.handStep x st = s := by
  simp only [State.handStep, hk, tryIssue_move hx, aduIssue_taken h, Option.map_none]

theorem handStep_move_some {r : State} (hx : s.osq.context = some x) (hk : st.kind = .moveAxis i w l)
    (h : s.aduIssue (s.nextFree x) x.pointer i (s.targetOf i w) l = some r) :
    s.handStep x st = ((r.numbered (s.nextFree x)).addEntry (motionEntry x st (s.nextFree x))).issued (s.nextFree x) := by
  simp only [State.handStep, hk, tryIssue_move hx, h, Option.map_some]
  rfl

theorem moveRefused_none {p : Nat} (hp : s.position i = some p) (hf : s.faultOf i = none) (ht : s.targetProtected i T = false) : s.moveRefused i T = none := by
  simp [State.moveRefused, hp, hf, ht]

theorem moveRefused_faulted (h : s.position i = none ∨ s.faultOf i ≠ none) : s.moveRefused i T = some .axisFaulted := by
  have : ((s.position i).isNone || (s.faultOf i).isSome) = true := by simpa [Option.isSome_iff_ne_none] using h
  simp [State.moveRefused, this]

theorem moveRefused_protected (hp : s.position i ≠ none) (hf : s.faultOf i = none) (ht : s.targetProtected i T = true) :
    s.moveRefused i T = some .windowProtected := by
  simp [State.moveRefused, hp, hf, ht]

section
variable (hx : s.osq.context = some x) (hk : st.kind = .moveAxis i w l) (hfree : ∀ p ∈ [i], (tget s.pmn.points p).isSome ∧ s.reservedBy p = none)
  (hldu : s.ldu? (s.nextFree x) = none)
include hx hk hfree hldu

/-- A move that ADU takes: its axis reserved, its request sent, its record waiting for flow (R61, R91). -/
theorem handStep_move_waits {a : AxisDef} (hr : s.moveRefused i (s.targetOf i w) = none) (ha : s.layout.axis? i = some a) :
    let m := s.nextFree x
    let t := s.handStep x st
    let move := s.newMove x.pointer i (s.targetOf i w) l
    t.osq = { s.osq with
        nextMotion := (m + 1) % 7, context := some { x with pointer := x.past, inFlight := x.inFlight ++ [motionEntry x st m] } } ∧
      (∀ p, t.reservedBy p = if p ∈ [i] then some m else s.reservedBy p) ∧
      t.todo = s.todo ++ [.pass] ++ [.issue] ∧
      t.hpa.requests = s.hpa.requests ++
        [{ motion := m, cls := .travel, requested := commandFlow (a.base move.dir) a.qFull, minimum := commandFlow a.vMin a.qFull
           stamp := s.hpa.arrival, passed := 0, wait := s.tune.flowWait }] ∧
      t.adu? m = some (s.moveAsking a move) := by
  intro m t move
  obtain ⟨hosq, htodo, hreq, hpmn, hl, hrec⟩ := moveAsked_parts s m x.pointer i (s.targetOf i w) l a
  have hissue : s.aduIssue m x.pointer i (s.targetOf i w) l = some (s.moveAsked m x.pointer i (s.targetOf i w) l a) := by
    rw [aduIssue_free hfree, hr, ← moveRequest_moveMade ha]
  have hend : (s.moveAsked m x.pointer i (s.targetOf i w) l a).motionEnd m = some (.waitingFlow, none) := by
    have hldu' : (s.moveAsked m x.pointer i (s.targetOf i w) l a).ldu? m = none := by rw [State.ldu?, hl]; exact hldu
    simp only [State.motionEnd, hldu', hrec]
    rfl
  have ht : t = emit .issue ((s.moveAsked m x.pointer i (s.targetOf i w) l a).enrolled x m (motionEntry x st m)) :=
    (handStep_move_some hx hk hissue).trans (issued_live (hosq ▸ hx) (motionEntry x st m) hend (by decide))
  obtain ⟨kosq, ktodo, khpa, kpmn, -, kadu⟩ := enrolled_parts (s.moveAsked m x.pointer i (s.targetOf i w) l a) x m (motionEntry x st m)
  rw [ht]
  refine ⟨by rw [kosq, hosq], fun p => ?_, by rw [ktodo, htodo], (congrArg Hpa.requests khpa).trans hreq, by rw [State.adu?, kadu]; exact hrec⟩
  rw [State.reservedBy, kpmn, hpmn]
  exact reservedBy_claimedBy (fun p hp => (hfree p hp).1) p

/-- A move that ADU refuses fails at issue (R91, R124). -/
theorem handStep_move_fails {c : FailCause} (hs : x.state = .running) (hn : x.causes = []) (ht : s.todo = [])
    (hm : ∀ o ∈ x.inFlight, o.motion ≠ some (s.nextFree x)) (hr : s.moveRefused i (s.targetOf i w) = some c) :
    let m := s.nextFree x
    let t := s.handStep x st
    s.StepFails t { x with pointer := x.past, inFlight := x.inFlight ++ [motionEntry x st m] } x.inFlight.length (motionEntry x st m) c ∧
      t.NothingHeldBy m ∧ t.hpa.requests.length ≤ s.hpa.requests.length := by
  intro m t
  let made := s.moveMade m x.pointer i (s.targetOf i w) l
  let r := made.aduEnd m .failed (some c)
  have hissue : s.aduIssue m x.pointer i (s.targetOf i w) l = some r := by rw [aduIssue_free hfree, hr]
  have hrec : made.adu? m = some (s.newMove x.pointer i (s.targetOf i w) l) := adu?_moveMade
  have hrx : r.osq.context = some x := by
    rw [(State.Calms.aduEnd _ _ _ made).osq]
    exact hx
  have hend : r.motionEnd m = some (.failed, some c) := by
    have ha : r.adu? m = some ((s.newMove x.pointer i (s.targetOf i w) l).finished .failed (some c)) := by rw [adu?_aduEnd hrec, if_pos rfl]
    have hl : r.ldu? m = none := by
      have : r.ldu = s.ldu := by
        show (made.aduEnd m .failed (some c)).ldu = _
        rw [aduEnd_eq hrec, emit_ldu, State.restDrive, setDrive_ldu, letGo_ldu]
        rfl
      rw [State.ldu?, this]
      exact hldu
    simp only [State.motionEnd, hl, ha]
    rfl
  have hrt (u : Task) (ha : u.attempts = true) : u ∉ r.todo := fun hu => by
    have := (State.Eases.aduEnd _ _ _ made).todo u hu ha
    rw [show made.todo = [] from ht] at this
    cases this
  have htr : t = _ := (handStep_move_some hx hk hissue).trans (issued_failed (n := motionEntry x st m) hrx hend rfl (motionEntry_active x st m) hm)
  obtain ⟨hfails, hheld, hlen, -, -⟩ := enrolled_fails (s := s) (st := st) (c := c) hs hn (State.Calms.aduEnd m .failed (some c) made).fixed (hrt .issue rfl)
    (aduEnd_ended hrec .failed (some c)).given
  rw [htr]
  exact ⟨hfails, hheld, hlen.trans (State.Eases.aduEnd _ _ _ made).length⟩

end

end

end Sys2Proof.Machine
end
section
namespace Sys2Proof.Machine

/-! ### A FLOAT_AXIS step handed over (R104) -/

section
variable {s : State} {x : Context} {st : Step} {i : Nat}

theorem demandFloat_osq (axis out : Nat) (s : State) : (s.demandFloat axis out true).osq = s.osq := by
  unfold State.demandFloat
  split
  · exact (congrArg Units.osq (putDemand_on out axis s)).trans rfl
  · rfl

theorem setDrive_osq (i : Nat) (d : Drive) (s : State) : (s.setDrive i d).osq = s.osq := (State.Calms.setDrive i d s).osq

theorem floatLimit_osq (i : Nat) (s : State) : (s.floatLimit i).osq = s.osq := by
  unfold State.floatLimit
  split
  · extract_lets low high
    split
    · rfl
    · split <;> rfl
  · rfl

theorem floatLift_osq (i : Nat) (s : State) : (s.floatLift i).osq = s.osq := by
  unfold State.floatLift
  split
  · split
    · split
      · split <;> rfl
      · simp only
        split <;> rfl
    · rfl
  · rfl

theorem floatEval_osq (i : Nat) (s : State) : (s.floatEval i).osq = s.osq := (floatLift_osq i _).trans (floatLimit_osq i s)

theorem floatEntry_reserved (h : s.reservedBy i ≠ none) : s.floatEntry i = none := if_pos (Option.isSome_iff_ne_none.2 h)

/-- ADU takes the step of an axis that no motion reserves, and OSQ's state is left. -/
theorem floatEntry_free (h : s.reservedBy i = none) : ∃ e, s.floatEntry i = some e ∧ e.osq = s.osq := by
  unfold State.floatEntry
  rw [h]
  by_cases hf : s.floats i = true
  · exact ⟨s, by rw [if_pos hf]; rfl, rfl⟩
  · refine ⟨_, by rw [if_neg hf]; rfl, ?_⟩
    rw [floatEval_osq, setDrive_osq]
    cases (s.layout.axis? i).bind (fun d => d.float) with
    | none => rfl
    | some w => exact demandFloat_osq i w.coil _

theorem handStep_float_waits (hk : st.kind = .floatAxis i) (h : s.reservedBy i ≠ none) : s.handStep x st = s := by
  simp only [State.handStep, hk, floatEntry_reserved h]

theorem handStep_float_taken {e : State} (hx : s.osq.context = some x) (hk : st.kind = .floatAxis i) (he : s.floatEntry i = some e) (ho : e.osq = s.osq) :
    s.handStep x st = emit .issue { e with osq := { e.osq with context := some { x with pointer := x.past } } } := by
  simp only [State.handStep, hk, he]
  exact advance_eq (ho ▸ hx)

end

/-! ### CALL, WAIT and PAUSE handed over (R119, R120, R121) -/

section
variable {s : State} {x : Context} {st : Step}

/-- The entry of a step that has no motion. -/
def timedEntry (x : Context) (st : Step) (remaining : Option Nat) : Entry := { ref := x.pointer, step := st, remaining := remaining }

/-- The step has its entry, and the pointer is past it. -/
theorem addEntry_advance (hx : s.osq.context = some x) (n : Entry) : (s.addEntry n).advance = emit .issue
    { s with osq := { s.osq with context := some { x with pointer := x.past, inFlight := x.inFlight ++ [n] } } } := by
  have hadd : s.addEntry n = { s with osq := { s.osq with context := some { x with inFlight := x.inFlight ++ [n] } } } := modCtx_eq hx _
  rw [hadd, advance_eq rfl]
  rfl

theorem handStep_wait {c limit : Nat} {w : Bool} (hx : s.osq.context = some x) (hk : st.kind = .wait c w limit) : s.handStep x st = emit .issue
    { s with osq := { s.osq with context := some { x with
        pointer := x.past, inFlight := x.inFlight ++ [timedEntry x st (if limit = 0 then none else some limit)] } } } := by
  simp only [State.handStep, hk]
  exact addEntry_advance hx (timedEntry x st (if limit = 0 then none else some limit))

theorem handStep_pause {time : Nat} (hx : s.osq.context = some x) (hk : st.kind = .pause time) : s.handStep x st = emit .issue
    { s with osq := { s.osq with context := some { x with pointer := x.past, inFlight := x.inFlight ++ [timedEntry x st (some time)] } } } := by
  simp only [State.handStep, hk]
  exact addEntry_advance hx (timedEntry x st (some time))

theorem handStep_call {l : Nat} (hx : s.osq.context = some x) (hk : st.kind = .call l) : s.handStep x st = emit .issue
    { s with osq := { s.osq with context := some { x with stack := x.stack ++ [x.past], pointer := { list := l, index := 0 } } } } := by
  simp only [State.handStep, hk]
  rw [modCtx_eq hx]

end

end Sys2Proof.Machine
end
section
namespace Sys2Proof.Machine

/-! ### A RUNNING operation walks its steps -/

section
variable {s : State} {x : Context} {st : Step}

theorem nextFree_firstFree (hr : st.kind.needsRoom = true) (hf : ¬ (st.kind.needsRoom = true ∧ 6 ≤ x.inFlight.length)) :
    FirstFree s.osq.nextMotion x.inFlight (s.nextFree x) :=
  freeMotion_firstFree _ ((Nat.lt_of_not_le fun h => hf ⟨hr, h⟩).trans (Nat.lt_succ_self 6))

theorem FirstFree.fresh {next m : Nat} {es : List Entry} (h : FirstFree next es m) : ∀ n ∈ es, n.motion ≠ some m := by
  obtain ⟨_, _, _, hfree, _⟩ := h
  exact hfree

theorem commandFlow_eq (v q : Nat) : commandFlow v q = (v * q + 999) / 1000 := by rw [commandFlow, divUp]; omega

theorem moveDir_eq {i T p : Nat} (hp : s.position i = some p) : s.moveDir i T = directionTo T p := by simp only [State.moveDir, hp]

section
variable (hx : s.osq.context = some x) (hs : x.state = .running) (hd : ∀ n ∈ x.inFlight, n.due = false)
include hx hs hd

theorem issueTurn_step (hst : s.stepHere x = some st) : s.issueTurn = s.takeStep x st := by
  rw [issueTurn_running hx hs hd, hst]

/-- The end of a list that a CALL led to (R119). -/
theorem issueTurn_popped {f : StepRef} (hh : s.stepHere x = none) (hf : x.stack.getLast? = some f) :
    s.issueTurn = emit .issue { s with osq := { s.osq with context := some { x with stack := x.stack.dropLast, pointer := f } } } := by
  simp only [issueTurn_running hx hs hd, hh, hf]
  rw [modCtx_eq hx]

theorem issueTurn_rests (hh : s.stepHere x = none) (hf : x.stack = []) (hn : x.inFlight ≠ []) : s.issueTurn = s := by
  have he : x.inFlight.isEmpty = false := by simpa using hn
  simp only [issueTurn_running hx hs hd, hh, hf, List.getLast?_nil, he]
  rfl

/-- The end of the operation (R123). -/
theorem issueTurn_complete (hh : s.stepHere x = none) (hf : x.stack = []) (hn : x.inFlight = []) :
    s.issueTurn.osq = { s.osq with context := some { x with state := .complete } } ∧ s.issueTurn.aeu.newest = some (.operationEnded x.op true) ∧
      s.issueTurn.todo = s.todo := by
  have he : s.issueTurn = (s.modCtx (fun y => { y with state := .complete })).event (.operationEnded x.op true) := by
    simp only [issueTurn_running hx hs hd, hh, hf, List.getLast?_nil, hn, List.isEmpty_nil, if_true]
  rw [he]
  refine ⟨?_, event_newest _ _, rfl⟩
  show (s.modCtx _).osq = _
  rw [modCtx_eq hx]

end

/-- The watch holds the operation for one of the motions whose entry the change breaks (R51). -/
theorem takeChanged_broken {cs : List (Nat × Tri)} (hx : s.osq.context = some x) (hs : x.state = .running) (hn : x.causes = [])
    (h : ∃ w c, some w ∈ s.watches ∧ s.Breaks cs w c) :
    (s.takeChanged cs).todo.getLast? = some (.waits cs) ∧
      ∃ w c y, some w ∈ s.watches ∧ s.Breaks cs w c ∧ (s.takeChanged cs).osq.context = some y ∧ x.GivenCause (permissiveCause c) y := by
  obtain ⟨w, c, hw, hb, he⟩ := watchAll_broken hx hs hn h
  obtain ⟨-, y, hy, hgiven⟩ := giveCause_given hx (permissiveCause c)
  rw [takeChanged_eq, he]
  exact ⟨by rw [emit_todo, List.getLast?_concat], w, c, y, hw, hb, by rw [emit_osq, hy], hgiven⟩

end

/-- Settles O41. -/
theorem runningOperationWalksItsSteps : Obligations.RunningOperationWalksItsSteps := by
  intro x s ht hx hs hn hd withContext past here t
  refine ⟨fun hh => ⟨fun f hf => ?_, fun hf hne => ?_, fun hf hne => ?_⟩, fun st hst => ?_, fun m k n hk hm hfirst => ?_, fun m hm => ?_, fun cs => ?_⟩
  · exact issueTurn_popped hx hs hd hh hf
  · exact issueTurn_rests hx hs hd hh hf hne
  · exact ht ▸ issueTurn_complete hx hs hd hh hf hne
  · intro satisfied asked full entry
    have hkind : satisfied ↔ s.StepSatisfied st.kind := by
      simp only [satisfied]
      cases st.kind <;> rfl
    have hasked : asked = s.stepAsks st.kind := by
      simp only [asked]
      cases st.kind <;> rfl
    rw [hkind, hasked]
    have htake : t = s.takeStep x st := issueTurn_step hx hs hd hst
    refine ⟨fun hj hne => htake.trans (takeStep_waits hj hne), fun hj => ⟨fun hsat => ?_, fun hsat hfull => ?_, fun hsat hroom c hc => ?_, fun hsat hroom hc => ?_⟩⟩
    · exact htake.trans ((takeStep_satisfied hj hsat).trans (advance_eq hx))
    · exact htake.trans (takeStep_full hj hsat hfull)
    · have hstop : t = s.giveCause (permissiveCause c) := htake.trans (takeStep_stopped hj hsat hroom hc)
      obtain ⟨-, y, hy, hgiven⟩ := giveCause_given hx (permissiveCause c)
      rw [hstop]
      exact ⟨not_contains_issue (.giveCause _ s) (by rw [ht]; exact List.not_mem_nil), y, by rw [hy], hgiven⟩
    · have hhand : t = s.handStep x st := htake.trans (takeStep_handed hj hsat hroom hc)
      intro issuedAs firstFree asks reserves free past'
      cases hk : st.kind with
      | driveGroup g d =>
        have hpts := driveSet_eq g d s
        have hfirst : FirstFree s.osq.nextMotion x.inFlight (s.nextFree x) := nextFree_firstFree (by rw [hk]; rfl) hroom
        refine ⟨fun hno => hhand.trans (handStep_group_taken hx hk (hpts ▸ hno)), fun def_ hg hfree => ⟨s.nextFree x, hfirst, fun hb => ?_, fun hb => ?_⟩⟩
        · obtain ⟨hosq, hres, htodo, hreq, hrec⟩ := handStep_group_waits hx hk hg (hpts ▸ hfree) (hpts ▸ hb)
          rw [hhand]
          exact ⟨hosq, hpts ▸ hres, ⟨by rw [htodo, ht]; rfl, hpts ▸ hreq⟩, hpts ▸ hrec⟩
        · rw [hhand]
          exact hpts ▸ handStep_group_fails hx hk hg (hpts ▸ hfree) hs hn ht hfirst.fresh (hpts ▸ hb)
      | moveAxis i w l =>
        let T := s.targetOf i w
        have hfirst : FirstFree s.osq.nextMotion x.inFlight (s.nextFree x) := nextFree_firstFree (by rw [hk]; rfl) hroom
        refine ⟨fun hno => hhand.trans (handStep_move_taken hx hk hno), fun hfree => ⟨s.nextFree x, hfirst, fun p a hp hf htp ha => ?_, fun hldu => ⟨fun hbad => ?_, fun hp hf htp => ?_⟩⟩⟩
        · intro dir requested minimum hldu
          obtain ⟨hosq, hres, htodo, hreq, hrec⟩ := handStep_move_waits hx hk hfree hldu (moveRefused_none hp hf htp) ha
          have hdir : s.moveDir i T = dir := moveDir_eq hp
          have hrate : commandFlow (a.base dir) a.qFull = requested := commandFlow_eq _ _
          have hleast : commandFlow a.vMin a.qFull = minimum := commandFlow_eq _ _
          rw [hhand]
          refine ⟨hosq, hres, ⟨by rw [htodo, ht]; rfl, ?_⟩, ?_⟩
          · rw [hreq, ← hrate, ← hleast, ← hdir]
            rfl
          · rw [hrec, ← hrate, ← hleast, ← hdir]
            rfl
        · rw [hhand]
          exact handStep_move_fails hx hk hfree hldu hs hn ht hfirst.fresh (moveRefused_faulted hbad)
        · rw [hhand]
          exact handStep_move_fails hx hk hfree hldu hs hn ht hfirst.fresh (moveRefused_protected hp hf htp)
      | floatAxis i =>
        refine ⟨fun hr => hhand.trans (handStep_float_waits hk hr), fun hr => ?_⟩
        obtain ⟨e, he, ho⟩ := floatEntry_free hr
        rw [hhand, handStep_float_taken hx hk he ho]
        exact ⟨e, he, rfl, by rw [emit_todo, List.getLast?_concat], rfl, rfl, rfl⟩
      | call l => exact hhand.trans (handStep_call hx hk)
      | wait c w limit => exact hhand.trans (handStep_wait hx hk)
      | pause time => exact hhand.trans (handStep_pause hx hk)
  · have hslot : s.slotOf m = some k := slotOf_first hx hk hm hfirst
    intro ended u
    refine ⟨fun c he => ?_, fun c he hact => ?_, fun c he hbad => ?_⟩
    · have hu : u = _ := (takeOutcome_done hslot (motionEnd_of_ended he)).trans (completeEntry_eq hx hk hm)
      rw [hu]
      obtain ⟨hldu, hadu⟩ := dropMotion_gone m s
      exact ⟨rfl, hldu, hadu, by rw [emit_todo]; exact congrArg (· ++ [Task.issue]) ht, rfl, rfl, rfl⟩
    · have hu : u = s.failEntry k c := by
        refine (takeOutcome_failed hslot (motionEnd_of_ended he)).trans (if_neg ?_)
        simpa [entryFailed_eq hx hk] using hact
      rw [hu]
      exact failEntry_stepFails rfl (by rw [ht]; exact List.not_mem_nil) hx hs hn hk c
    · refine (takeOutcome_failed hslot (motionEnd_of_ended he)).trans (if_pos ?_)
      simpa [entryFailed_eq hx hk] using hbad
  · exact takeOutcome_unknown (slotOf_none hx hm)
  · intro completes u
    have hdone (n : Entry) : n.completedBy cs = true ↔ completes n := completedBy_iff
    refine ⟨fun hno => takeWaits_none hx fun n hm => Bool.eq_false_iff.2 (mt (hdone n).1 (hno n hm)), fun ⟨n, hm, hc⟩ => ?_, ?_⟩
    · refine ⟨_, List.filter_sublist, fun k => ?_, takeWaits_some hx hs hm ((hdone n).2 hc)⟩
      rw [List.mem_filter, ← hdone, Bool.not_eq_true', Bool.not_eq_true]
    · intro live watched broken v
      have hbroken (c : Nat) : broken c ↔ ∃ w, some w ∈ s.watches ∧ s.Breaks cs w c := by
        constructor
        · rintro ⟨w, p, hw, hp⟩
          exact ⟨w, mem_watches.2 hw, p, hp⟩
        · rintro ⟨w, hw, p, hp⟩
          exact ⟨w, p, mem_watches.1 hw, hp⟩
      refine ⟨fun hno => ?_, fun ⟨c, hc⟩ => ?_⟩
      · exact (takeChanged_eq cs s).trans (congrArg (emit (.waits cs)) (watchAll_kept fun w hw c hb => hno c ((hbroken c).2 ⟨w, hw, hb⟩)))
      · obtain ⟨w, hw, hb⟩ := (hbroken c).1 hc
        obtain ⟨hlast, w', c', y, hw', hb', hy, hgiven⟩ := takeChanged_broken hx hs hn ⟨w, c, hw, hb⟩
        exact ⟨hlast, c', y, (hbroken c').2 ⟨w', hw', hb'⟩, hy, hgiven⟩

end Sys2Proof.Machine
end

section
namespace Sys2Proof.Machine

/-! ### The granted flows (R63) -/

/-- The flows of a list of grants together (R63). -/
def totalFlow (gs : List Grant) : Nat := (gs.map (fun g => g.flow)).sum

theorem allocation_eq (h : Hpa) : h.allocation = totalFlow h.grants := rfl

@[simp] theorem totalFlow_nil : totalFlow [] = 0 := rfl

@[simp] theorem totalFlow_cons (g : Grant) (gs : List Grant) : totalFlow (g :: gs) = g.flow + totalFlow gs := by simp [totalFlow]

@[simp] theorem totalFlow_append (gs hs : List Grant) : totalFlow (gs ++ hs) = totalFlow gs + totalFlow hs := by simp [totalFlow]

@[simp] theorem totalFlow_reverse (gs : List Grant) : totalFlow gs.reverse = totalFlow gs := by simp [totalFlow, List.map_reverse]

theorem totalFlow_perm {gs hs : List Grant} (h : gs.Perm hs) : totalFlow gs = totalFlow hs := (h.map _).sum_eq

theorem totalFlow_filter_le (f : Grant → Bool) (gs : List Grant) : totalFlow (gs.filter f) ≤ totalFlow gs :=
  ((List.filter_sublist).map _).sum_le_sum (fun _ _ => Nat.zero_le _)

theorem insertGrant_perm (g : Grant) (gs : List Grant) : (insertGrant g gs).Perm (g :: gs) := by
  induction gs with
  | nil => exact .refl _
  | cons x xs ih =>
    rw [insertGrant]
    split
    · exact .refl _
    · exact (ih.cons x).trans (.swap g x xs)

theorem mem_insertGrant {g x : Grant} {gs : List Grant} : x ∈ insertGrant g gs ↔ x = g ∨ x ∈ gs :=
  (insertGrant_perm g gs).mem_iff.trans List.mem_cons

theorem insertRequest_perm (r : Request) (rs : List Request) : (insertRequest r rs).Perm (r :: rs) := by
  induction rs with
  | nil => exact .refl _
  | cons x xs ih =>
    rw [insertRequest]
    split
    · exact .refl _
    · exact (ih.cons x).trans (.swap r x xs)

/-! ### The capacity drop in its two stages (R68) -/

/-- A TRAVEL grant above its minimum falls to it; any other grant is left (R68, stage 1). -/
def Grant.reduced (g : Grant) : Grant := if g.cls = .travel ∧ g.minimum < g.flow then { g with flow := g.minimum } else g

/-- The grants, youngest first, after stage 1 of R68 has taken the first `i` of them. -/
def reducedTo (i : Nat) (gs : List Grant) : List Grant := (gs.take i).map Grant.reduced ++ gs.drop i

@[simp] theorem reducedTo_zero (gs : List Grant) : reducedTo 0 gs = gs := by simp [reducedTo]

@[simp] theorem reducedTo_succ (i : Nat) (g : Grant) (gs : List Grant) : reducedTo (i + 1) (g :: gs) = g.reduced :: reducedTo i gs := by simp [reducedTo]

theorem reduced_motion (g : Grant) : g.reduced.motion = g.motion := by
  unfold Grant.reduced
  split <;> rfl

/-- One step of stage 1: what is left to find once the youngest grant is taken. -/
theorem reduceGrants_cons (e : Nat) (g : Grant) (gs : List Grant) (he : e ≠ 0) :
    reduceGrants e (g :: gs) =
      (g.reduced :: (reduceGrants (e - (g.flow - g.reduced.flow)) gs).1,
        (if g.reduced = g then [] else [g.motion]) ++ (reduceGrants (e - (g.flow - g.reduced.flow)) gs).2) := by
  by_cases hg : g.cls = .travel ∧ g.minimum < g.flow
  · have hr : g.reduced = { g with flow := g.minimum } := if_pos hg
    have hne : g.reduced ≠ g := by
      intro h
      have := congrArg Grant.flow (hr.symm.trans h)
      simp only at this
      omega
    rw [reduceGrants, if_neg he, if_pos (by simp [hg.1, hg.2]), if_neg hne, hr]
    rfl
  · have hr : g.reduced = g := if_neg hg
    have hc : (g.cls == .travel && decide (g.flow > g.minimum)) = false := by
      simpa using hg
    simp only [reduceGrants, if_neg he, hc, hr, Nat.sub_self, Nat.sub_zero, Bool.false_eq_true, if_false, if_true, List.nil_append]

/-- Stage 1 takes as many of the youngest grants as the excess over `C` asks for; `base` is the flow of those taken before (R68). -/
theorem reduceGrants_stage (C : Nat) (gs : List Grant) (base : Nat) :
    ∃ i ≤ gs.length, (∀ j < i, C < base + totalFlow (reducedTo j gs)) ∧ (i < gs.length → base + totalFlow (reducedTo i gs) ≤ C) ∧
      reduceGrants (base + totalFlow gs - C) gs = (reducedTo i gs, ((gs.take i).filter (fun g => g.reduced ≠ g)).map (fun g => g.motion)) := by
  induction gs generalizing base with
  | nil => exact ⟨0, Nat.le_refl _, by simp, by simp, by simp [reduceGrants]⟩
  | cons g gs ih =>
    by_cases he : base + totalFlow (g :: gs) - C = 0
    · refine ⟨0, Nat.zero_le _, by simp, fun _ => by simpa using Nat.le_of_sub_eq_zero he, ?_⟩
      rw [he, reduceGrants_zero]
      simp
    · have hle : g.reduced.flow ≤ g.flow := by
        unfold Grant.reduced
        split
        · rename_i h; exact Nat.le_of_lt h.2
        · exact Nat.le_refl _
      have hrest : base + totalFlow (g :: gs) - C - (g.flow - g.reduced.flow) = base + g.reduced.flow + totalFlow gs - C := by
        rw [totalFlow_cons]; omega
      obtain ⟨i, hi, hbefore, hafter, heq⟩ := ih (base + g.reduced.flow)
      refine ⟨i + 1, Nat.succ_le_succ hi, fun j hj => ?_, fun hlt => ?_, ?_⟩
      · cases j with
        | zero => rw [reducedTo_zero]; omega
        | succ j =>
          have := hbefore j (Nat.lt_of_succ_lt_succ hj)
          rw [reducedTo_succ, totalFlow_cons]
          omega
      · have := hafter (Nat.lt_of_succ_lt_succ hlt)
        rw [reducedTo_succ, totalFlow_cons]
        omega
      · rw [reduceGrants_cons _ _ _ he, hrest, heq]
        by_cases hr : g.reduced = g <;> simp [hr]

/-- Stage 2 revokes as many of the youngest grants as the excess over `C` asks for (R68). -/
theorem revokeGrants_stage (C : Nat) (gs : List Grant) :
    ∃ k ≤ gs.length, (∀ j < k, C < totalFlow (gs.drop j)) ∧ totalFlow (gs.drop k) ≤ C ∧ revokeGrants (totalFlow gs - C) gs = (gs.drop k, gs.take k) := by
  induction gs with
  | nil => exact ⟨0, Nat.le_refl _, by simp, by simp, by simp [revokeGrants]⟩
  | cons g gs ih =>
    by_cases he : totalFlow (g :: gs) - C = 0
    · refine ⟨0, Nat.zero_le _, by simp, by simpa using Nat.le_of_sub_eq_zero he, ?_⟩
      rw [he, revokeGrants_zero]
      simp
    · have hrest : totalFlow (g :: gs) - C - g.flow = totalFlow gs - C := by rw [totalFlow_cons]; omega
      obtain ⟨k, hk, hbefore, hafter, heq⟩ := ih
      refine ⟨k + 1, Nat.succ_le_succ hk, fun j hj => ?_, by simpa using hafter, ?_⟩
      · cases j with
        | zero => rw [List.drop_zero]; omega
        | succ j => simpa using hbefore j (Nat.lt_of_succ_lt_succ hj)
      · rw [revokeGrants, if_neg he, hrest, heq]
        simp

/-- What a capacity drop leaves, in terms of the numbers of grants that its two stages take (R68). -/
structure Hpa.Dropped (h : Hpa) (wait i k : Nat) : Prop where
  taken    : i ≤ h.grants.reverse.length
  reducing : ∀ j < i, h.capacity < totalFlow (reducedTo j h.grants.reverse)
  reduced  : i < h.grants.reverse.length → totalFlow (reducedTo i h.grants.reverse) ≤ h.capacity
  revoked  : k ≤ (reducedTo i h.grants.reverse).length
  revoking : ∀ j < k, h.capacity < totalFlow ((reducedTo i h.grants.reverse).drop j)
  within   : totalFlow ((reducedTo i h.grants.reverse).drop k) ≤ h.capacity
  eq       : h.drop wait =
    ({ h with
        grants := ((reducedTo i h.grants.reverse).drop k).reverse
        requests := ((reducedTo i h.grants.reverse).take k).foldl (fun rs g => insertRequest (g.again wait) rs) h.requests },
      (((h.grants.reverse.take i).filter (fun g => g.reduced ≠ g)).map (fun g => g.motion)).filter
        (fun m => ((reducedTo i h.grants.reverse).drop k).any (fun g => g.motion == m)),
      ((reducedTo i h.grants.reverse).take k).map (fun g => g.motion))

theorem drop_dropped (wait : Nat) (h : Hpa) : ∃ i k, h.Dropped wait i k := by
  obtain ⟨i, hi, hi1, hi2, hred⟩ := reduceGrants_stage h.capacity h.grants.reverse 0
  obtain ⟨k, hk, hk1, hk2, hrev⟩ := revokeGrants_stage h.capacity (reducedTo i h.grants.reverse)
  refine ⟨i, k, hi, fun j hj => by simpa using hi1 j hj, fun hlt => by simpa using hi2 hlt, hk, hk1, hk2, ?_⟩
  have halloc : h.allocation = 0 + totalFlow h.grants.reverse := by rw [allocation_eq, totalFlow_reverse, Nat.zero_add]
  simp only [Hpa.drop, halloc, hred]
  rw [show ((reducedTo i h.grants.reverse).map (fun g => g.flow)).sum = totalFlow (reducedTo i h.grants.reverse) from rfl, hrev]

theorem drop_pumps (wait : Nat) (h : Hpa) : (h.drop wait).1.pumps = h.pumps := rfl

/-- After a drop the allocation is within the capacity (R63, R68). -/
theorem drop_within (wait : Nat) (h : Hpa) : (h.drop wait).1.Within := by
  obtain ⟨i, k, hd⟩ := drop_dropped wait h
  have hcap : (h.drop wait).1.capacity = h.capacity := rfl
  have hgr : (h.drop wait).1.grants = ((reducedTo i h.grants.reverse).drop k).reverse := by rw [hd.eq]
  rw [Hpa.Within, hcap, allocation_eq, hgr, totalFlow_reverse]
  exact hd.within

/-! ### What keeps the allocation within the capacity (R63) -/

theorem tidy_within {h : Hpa} {n : Nat} : (h.tidy n).Within ↔ h.Within := Iff.rfl

theorem capacityDrop_within (s : State) : s.capacityDrop.hpa.Within := by
  obtain ⟨ts, he⟩ := capacityDrop_eq s
  rw [he]
  exact tidy_within.2 (drop_within _ _)

/-- A pump written anew, RUNNING with its capacity if it was, leaves no less capacity (R63). -/
theorem capacity_le_tput {h : Hpa} {i : Nat} {p q : Pump} (hp : tget h.pumps i = some p)
    (hq : p.state = .running → q.state = .running ∧ q.capacity = p.capacity) : h.capacity ≤ ({ h with pumps := tput h.pumps i q } : Hpa).capacity := by
  have key (t : Table Pump) (ht : tget t i = some p) : ((t.filter (fun e => e.2.state == .running)).map (fun e => e.2.capacity)).sum ≤
      (((tput t i q).filter (fun e => e.2.state == .running)).map (fun e => e.2.capacity)).sum := by
    induction t with
    | nil => simp at ht
    | cons e r ih =>
      obtain ⟨k, x⟩ := e
      rw [tget_cons] at ht
      rw [tput]
      split
      · rw [List.filter_cons (x := (i, q))]
        split
        · rw [List.map_cons, List.sum_cons]; exact Nat.le_add_left _ _
        · exact Nat.le_refl _
      · split
        · rename_i hk
          rw [if_pos hk.symm] at ht
          cases ht
          by_cases hx : p.state = .running
          · obtain ⟨h1, h2⟩ := hq hx
            simp [hx, h1, h2]
          · rw [List.filter_cons, if_neg (by simpa using hx), List.filter_cons]
            split
            · rw [List.map_cons, List.sum_cons]; exact Nat.le_add_left _ _
            · exact Nat.le_refl _
        · rename_i hk
          rw [if_neg (fun he => hk he.symm)] at ht
          rw [List.filter_cons, List.filter_cons]
          split
          · simp only [List.map_cons, List.sum_cons]
            exact Nat.add_le_add_left (ih ht) _
          · exact ih ht
  exact key h.pumps hp

theorem Hpa.Within.tput {h : Hpa} (hw : h.Within) {i : Nat} {p q : Pump} (hp : tget h.pumps i = some p)
    (hq : p.state = .running → q.state = .running ∧ q.capacity = p.capacity) : ({ h with pumps := Machine.tput h.pumps i q } : Hpa).Within :=
  Nat.le_trans (m := h.capacity) hw (capacity_le_tput hp hq)

/-- Fewer grants are within the same capacity. -/
theorem Hpa.Within.filter {h : Hpa} (hw : h.Within) (f : Grant → Bool) (rs : List Request) :
    ({ h with grants := h.grants.filter f, requests := rs } : Hpa).Within :=
  Nat.le_trans (totalFlow_filter_le f h.grants) hw

/-! ### The grant pass (R64) -/

/-- No entry is granted more than the free flow (R64). -/
theorem fits_le {r : Request} {free flow : Nat} (h : r.fits free = some flow) : flow ≤ free := by
  unfold Request.fits at h
  split at h
  · split at h
    · cases h; assumption
    · cases h
  · split at h
    · cases h; exact Nat.min_le_right _ _
    · cases h

@[simp] theorem grant_pumps (r : Request) (flow : Nat) (h : Hpa) : (h.grant r flow).pumps = h.pumps := rfl

theorem grant_capacity (r : Request) (flow : Nat) (h : Hpa) : (h.grant r flow).capacity = h.capacity := rfl

theorem grant_allocation (r : Request) (flow : Nat) (h : Hpa) : (h.grant r flow).allocation = flow + h.allocation := by
  rw [allocation_eq, allocation_eq]
  exact (totalFlow_perm (insertGrant_perm _ _)).trans (totalFlow_cons _ _)

theorem grant_freeFlow (r : Request) (flow : Nat) (h : Hpa) : (h.grant r flow).freeFlow = h.freeFlow - flow := by
  rw [Hpa.freeFlow, Hpa.freeFlow, grant_capacity, grant_allocation]
  omega

theorem Hpa.Within.grant {h : Hpa} (hw : h.Within) {r : Request} {flow : Nat} (hf : r.fits h.freeFlow = some flow) : (h.grant r flow).Within := by
  have hle : flow ≤ h.capacity - h.allocation := fits_le hf
  have hw' : h.allocation ≤ h.capacity := hw
  rw [Hpa.Within, grant_capacity, grant_allocation]
  omega

/-- A pass ends at an entry that does not fit. -/
theorem passGo_stops {r : Request} {h : Hpa} (hf : r.fits h.freeFlow = none) (rs : List Request) : passGo (r :: rs) h = (h, [], some r) := by
  simp [passGo, hf]

/-- A pass grants an entry that fits and goes on. -/
theorem passGo_grants {r : Request} {h : Hpa} {flow : Nat} (hf : r.fits h.freeFlow = some flow) (rs : List Request) :
    passGo (r :: rs) h = ((passGo rs (h.grant r flow)).1, r.motion :: (passGo rs (h.grant r flow)).2.1, (passGo rs (h.grant r flow)).2.2) := by
  simp [passGo, hf]

theorem passGo_within (rs : List Request) (h : Hpa) (hw : h.Within) : (passGo rs h).1.Within := by
  induction rs generalizing h with
  | nil => exact hw
  | cons r rs ih =>
    cases hf : r.fits h.freeFlow with
    | none => rw [passGo_stops hf]; exact hw
    | some flow => rw [passGo_grants hf]; exact ih _ (hw.grant hf)

theorem passGo_pumps (rs : List Request) (h : Hpa) : (passGo rs h).1.pumps = h.pumps := by
  induction rs generalizing h with
  | nil => rfl
  | cons r rs ih =>
    cases hf : r.fits h.freeFlow with
    | none => rw [passGo_stops hf]
    | some flow => rw [passGo_grants hf]; exact (ih _).trans (grant_pumps _ _ _)

/-! ### A pump in a new state (R55, R56) -/

/-- A pump's record in a new state: the cause and the timers as R55 gives them. -/
def Pump.enter (st : PumpState) (cause : Option PumpCause) (runDown : Option Nat) (p : Pump) : Pump :=
  { p with state := st, cause := cause, runDown := runDown, start := if st == .starting then some p.startTime else none }

/-- A pump's new record and its contactor, before HPA takes the consequences (R55). -/
def State.enterPump (i : Nat) (q : Pump) (s : State) : State :=
  State.contactor i (q.state == .starting || q.state == .running) { s with hpa := { s.hpa with pumps := tput s.hpa.pumps i q } }

/-- AEU and CEV are told of a pump's change (R56, steps 3 to 5). -/
def State.recordPump (i : Nat) (was st : PumpState) (cause : Option PumpCause) (s : State) : State :=
  let s1 := s.event (.pumpState i st (if st == .faulted then cause else none))
  (if st == .faulted then s1.raise .pumpFault i else if was == .faulted then s1.clearAlarm .pumpFault i else s1).recompute [6]

theorem setPump_absent {s : State} {i : Nat} (h : tget s.hpa.pumps i = none) (st : PumpState) (cause : Option PumpCause) (runDown : Option Nat) :
    s.setPump i st cause runDown = s := by
  simp [State.setPump, h]

theorem setPump_eq {s : State} {i : Nat} {p : Pump} (h : tget s.hpa.pumps i = some p) (st : PumpState) (cause : Option PumpCause) (runDown : Option Nat) :
    s.setPump i st cause runDown =
      let t := (s.enterPump i (p.enter st cause runDown)).capacityDrop.recordPump i p.state st cause
      if st == .starting then t else emit .pass t := by
  simp only [State.setPump, h]
  rfl

theorem State.ActsTo.recordPump (i : Nat) (was st : PumpState) (cause : Option PumpCause) (s : State) : s.ActsTo (s.recordPump i was st cause) := by
  unfold State.recordPump
  refine State.ActsTo.trans ?_ (.recompute _ _)
  split
  · exact (State.ActsTo.event _ s).trans (.raise _ _ _)
  · split
    · exact (State.ActsTo.event _ s).trans (.clearAlarm _ _ _)
    · exact .event _ s

theorem recordPump_pmn (i : Nat) (was st : PumpState) (cause : Option PumpCause) (s : State) : (s.recordPump i was st cause).pmn = s.pmn := by
  unfold State.recordPump
  rw [recompute_pmn]
  split
  · rfl
  · split <;> rfl

/-- What a change of a pump makes of the state, beyond what AEU and CEV take: HPA after the drop, the contactor, reports (R55, R56). -/
theorem setPump_acts {s : State} {i : Nat} {p : Pump} (h : tget s.hpa.pumps i = some p) (st : PumpState) (cause : Option PumpCause) (runDown : Option Nat) :
    (s.enterPump i (p.enter st cause runDown)).capacityDrop.ActsTo (s.setPump i st cause runDown) := by
  rw [setPump_eq h]
  dsimp only
  split
  · exact .recordPump _ _ _ _ _
  · exact (State.ActsTo.recordPump _ _ _ _ _).trans (.emit _ _)

/-- The contactor's switching, which the emergency stop may refuse (R149). -/
theorem contactor_shape (i : Nat) (on : Bool) (s : State) : ∃ cs, s.contactor i on = { s with ost := { s.ost with contactors := cs } } := by
  unfold State.contactor
  split
  · exact ⟨s.ost.contactors, rfl⟩
  · exact ⟨_, rfl⟩

@[simp] theorem enterPump_hpa (i : Nat) (q : Pump) (s : State) : (s.enterPump i q).hpa = { s.hpa with pumps := tput s.hpa.pumps i q } := by
  obtain ⟨cs, he⟩ := contactor_shape i (q.state == .starting || q.state == .running) { s with hpa := { s.hpa with pumps := tput s.hpa.pumps i q } }
  rw [State.enterPump, he]

theorem setPump_hpa {s : State} {i : Nat} {p : Pump} (h : tget s.hpa.pumps i = some p) (st : PumpState) (cause : Option PumpCause) (runDown : Option Nat) :
    (s.setPump i st cause runDown).hpa = (s.enterPump i (p.enter st cause runDown)).capacityDrop.hpa := hpa_of_units (setPump_acts h st cause runDown).units

theorem setPump_pumps {s : State} {i : Nat} {p : Pump} (h : tget s.hpa.pumps i = some p) (st : PumpState) (cause : Option PumpCause) (runDown : Option Nat) :
    (s.setPump i st cause runDown).hpa.pumps = tput s.hpa.pumps i (p.enter st cause runDown) := by
  rw [setPump_hpa h]
  obtain ⟨ts, he⟩ := capacityDrop_eq (s.enterPump i (p.enter st cause runDown))
  rw [he]
  show (s.enterPump i _).hpa.pumps = _
  rw [enterPump_hpa]

/-- Every change of a pump ends with the allocation within the capacity (R56, R63). -/
theorem setPump_within {s : State} {i : Nat} {p : Pump} (h : tget s.hpa.pumps i = some p) (st : PumpState) (cause : Option PumpCause) (runDown : Option Nat) :
    (s.setPump i st cause runDown).hpa.Within := by
  rw [setPump_hpa h]
  exact capacityDrop_within _

end Sys2Proof.Machine
end

section
namespace Sys2Proof.Machine

/-! ### Acts that keep the allocation within the capacity (R63) -/

theorem giveUpFlow_within (m : Nat) (s : State) (hs : s.hpa.Within) : (s.giveUpFlow m).hpa.Within := by
  unfold State.giveUpFlow
  split
  · exact tidy_within.2 (hs.filter _ _)
  · exact hs

theorem setPump_keepsWithin (i : Nat) (st : PumpState) (cause : Option PumpCause) (runDown : Option Nat) (s : State) (hs : s.hpa.Within) :
    (s.setPump i st cause runDown).hpa.Within := by
  cases h : tget s.hpa.pumps i with
  | none => rw [setPump_absent h]; exact hs
  | some p => exact setPump_within h st cause runDown

theorem pumpFeedback_keepsWithin (i : Nat) (on : Bool) (s : State) (hs : s.hpa.Within) : (s.pumpFeedback i on).hpa.Within := by
  unfold State.pumpFeedback
  split
  · exact hs
  · rename_i p hp
    have h1 : ({ s.hpa with pumps := tput s.hpa.pumps i { p with feedback := on } } : Hpa).Within := hs.tput hp fun h => ⟨h, rfl⟩
    dsimp only
    split
    · split
      · exact setPump_keepsWithin _ _ _ _ _ h1
      · exact h1
    · exact setPump_keepsWithin _ _ _ _ _ h1
    · split
      · exact setPump_keepsWithin _ _ _ _ _ h1
      · exact setPump_keepsWithin _ _ _ _ _ h1
    · exact h1

/-- The pass of a state, with its entry where it ended (R64). -/
def State.passed (s : State) : Hpa × List Nat × Option Request := passGo (walkOrder s.tune.travelPromotion s.hpa.requests) s.hpa

/-- HPA once a pass has handed out its grants, before the start decision (R64, R67). -/
def State.afterPass (s : State) : State :=
  { s with hpa := s.passed.1.tidy s.tune.idleTime, todo := s.todo ++ s.passed.2.1.map Task.granted }

theorem grantPass_eq (s : State) : s.grantPass = match s.afterPass.hpa.startChoice (s.ost.estop == .clear) s.passed.2.2 with
    | some i => s.afterPass.setPump i .starting none none
    | none => s.afterPass := by
  simp only [State.grantPass, foldl_emit_eq, State.modHpa]
  rfl

theorem afterPass_within (s : State) (hs : s.hpa.Within) : s.afterPass.hpa.Within := tidy_within.2 (passGo_within _ _ hs)

theorem grantPass_keepsWithin (s : State) (hs : s.hpa.Within) : s.grantPass.hpa.Within := by
  rw [grantPass_eq]
  split
  · exact setPump_keepsWithin _ _ _ _ _ (afterPass_within s hs)
  · exact afterPass_within s hs

/-- Every act that a report calls keeps the allocation within the capacity. -/
theorem keepsWithin : Keeps (fun s : State => s.hpa.Within) where
  todo _ _ hs := hs
  pmn _ _ hs := hs
  ldu _ _ hs := hs
  adu _ _ hs := hs
  recompute ids s hs := by rw [hpa_of_units (units_recompute ids s)]; exact hs
  event _ _ hs := hs
  raise _ _ _ hs := hs
  clearAlarm _ _ _ hs := hs
  coil _ _ _ hs := hs
  zeroProps _ _ hs := hs
  demandProp m o v s hs := by
    unfold State.demandProp
    split
    · split <;> exact hs
    · exact hs
  setPump := setPump_keepsWithin
  feedback := pumpFeedback_keepsWithin
  request _ _ _ _ _ hs := tidy_within.2 hs
  giveUpFlow := giveUpFlow_within
  grantPass := grantPass_keepsWithin

theorem keepsWithin_osq : KeepsOsq (fun s : State => s.hpa.Within) := fun _ _ hs => hs

/-- The allocation is within the capacity, in the form that the laws of the shared operations take. -/
abbrev State.FlowOk (s : State) : Prop := Kept (fun s : State => s.hpa.Within) keepsWithin s

/-- The act keeps the allocation within the capacity. -/
def KeepsFlow (f : State → State) : Prop := ∀ s : State, s.FlowOk → (f s).FlowOk

theorem State.FlowOk.congr {s e : State} (hs : s.FlowOk) (h : e.hpa = s.hpa) : e.FlowOk := by
  show e.hpa.Within
  rw [h]
  exact hs

theorem KeepsFlow.of_hpa {f : State → State} (h : ∀ s, (f s).hpa = s.hpa) : KeepsFlow f := fun s hs => hs.congr (h s)

theorem KeepsFlow.finish : KeepsFlow finish := fun _ hs => keepsWithin.finish keepsWithin_osq hs

theorem KeepsFlow.act {f : State → State} (h : KeepsFlow f) : KeepsFlow (fun s => s.act f) := by
  intro s hs
  show State.FlowOk (if s.held then s else Machine.finish (f s))
  split
  · exact hs
  · exact KeepsFlow.finish _ (h s hs)

theorem KeepsFlow.unlessHeld {f : State → State} (h : KeepsFlow f) : KeepsFlow (fun s => if s.held then s else f s) := by
  intro s hs
  dsimp only
  split
  · exact hs
  · exact h s hs

theorem KeepsFlow.whileHeld {f : State → State} (h : KeepsFlow f) : KeepsFlow (fun s => if s.held then f s else s) := by
  intro s hs
  dsimp only
  split
  · exact h s hs
  · exact hs

/-! #### Sensing and timers -/

theorem hpa_firstScan (s : State) : s.firstScan.hpa = s.hpa := hpa_of_units (units_firstScan s)

theorem hpa_handDiscrete_firstScan (field feedback : List Nat) (s : State) : ((s.handDiscrete field feedback).firstScan).hpa = s.hpa :=
  (hpa_firstScan _).trans (hpa_of_units (State.ActsTo.handDiscrete field feedback s).units)

theorem hpa_analogSample (input count : Nat) (s : State) : (s.analogSample input count).hpa = s.hpa := by
  unfold State.analogSample
  split
  · rfl
  · dsimp only
    split
    · exact (hpa_firstScan _).trans (hpa_of_units (State.ActsTo.handAnalog _ input).units)
    · rfl

theorem hpa_recovered (input : Nat) (s : State) : (s.recovered input).hpa = s.hpa := by
  unfold State.recovered
  split
  · rfl
  · split
    · exact hpa_of_units (State.ActsTo.handAnalog _ input).units
    · rfl

theorem conflictOut_keepsFlow (i : Nat) : KeepsFlow (State.conflictOut i) := by
  intro s hs
  unfold State.conflictOut
  split
  · split
    · exact kept_recordFault _ _ _ (kept_modLock _ _ _ hs)
    · exact hs
  · exact hs

theorem staleOut_keepsFlow : KeepsFlow State.staleOut := by
  intro s hs
  unfold State.staleOut
  split
  · exact kept_raise _ _ _ (kept_recompute _ _ hs)
  · exact hs

theorem startExpiry_keepsFlow (i : Nat) : KeepsFlow (State.startExpiry i) := by
  intro s hs
  unfold State.startExpiry
  split
  · split
    · exact kept_setPump _ _ _ _ _ hs
    · exact hs
  · exact hs

theorem runDownExpiry_keepsFlow (i : Nat) : KeepsFlow (State.runDownExpiry i) := by
  intro s hs
  unfold State.runDownExpiry
  split
  · rename_i p hp
    split
    · split
      · exact kept_setPump _ _ _ _ _ hs
      · exact kept_emit _ _ (Hpa.Within.tput (q := { p with runDown := none }) hs hp fun h => ⟨h, rfl⟩)
    · exact hs
  · exact hs

theorem idleOut_keepsFlow : KeepsFlow State.idleOut := by
  intro s hs
  unfold State.idleOut
  split
  · exact kept_stopPumps _ hs
  · exact hs

theorem flowWaitOut_keepsFlow (m : Nat) : KeepsFlow (State.flowWaitOut m) := by
  intro s hs
  unfold State.flowWaitOut
  split
  · exact kept_noFlow _ keepsWithin_osq.around _ (kept_giveUpFlow _ _ hs)
  · exact hs

/-- A tenth of a second changes neither a pump's state and capacity nor a grant. -/
theorem tick_keepsFlow : KeepsFlow State.tick := by
  intro s hs
  show (State.tick s).hpa.Within
  unfold State.tick
  dsimp only
  split
  · exact hs
  · refine Nat.le_trans (m := s.hpa.capacity) hs (Nat.le_of_eq ?_)
    simp [Hpa.capacity, State.tickTimers, tmap, List.filter_map, Function.comp_def]

/-! #### Outputs and the emergency stop -/

theorem coilLatch_keepsFlow (out : Nat) (st : CoilState) : KeepsFlow (State.coilLatch out st) := by
  intro s hs
  unfold State.coilLatch
  split
  · exact kept_recordFault _ _ _ hs
  · exact hs

theorem coilStuck_keepsFlow (out owner : Nat) : KeepsFlow (State.coilStuck out owner) := by
  intro s hs
  have h2 : State.FlowOk ((s.modOst (fun o => Ost.modBank (bankOf out) (fun k => { k with stuck := true })
      { o with coils := lmod o.coils out (fun c => { c with state := .faultStuck }) })).recordFault owner .coilFault) :=
    kept_recordFault _ _ _ (State.FlowOk.congr hs rfl)
  unfold State.coilStuck
  dsimp only
  split
  · exact h2
  · exact kept_foldl _ (fun _ _ hx => kept_recordFault _ _ _ hx) _ _ (kept_raise _ _ _ h2)

theorem foundStuck_keepsFlow (outs : List Nat) : KeepsFlow (State.foundStuck outs) := fun _ hs =>
  kept_foldl (fun x (e : Nat × Nat) => x.coilStuck e.1 e.2) (fun _ e hx => coilStuck_keepsFlow e.1 e.2 _ hx) _ _ hs

theorem darkPulse_keepsFlow (out milliamps : Nat) : KeepsFlow (State.darkPulse out milliamps) := by
  intro s hs
  unfold State.darkPulse
  split
  · split
    · exact coilStuck_keepsFlow _ _ _ hs
    · exact hs
  · exact hs

theorem propLatch_keepsFlow (out : Nat) (st : PropState) : KeepsFlow (State.propLatch out st) := by
  intro s hs
  unfold State.propLatch
  split
  · split
    · dsimp only
      split
      · exact kept_recordFault _ _ _ hs
      · exact hs
    · exact hs
  · exact hs

theorem propOpen_keepsFlow (out : Nat) : KeepsFlow (State.propOpen out) := by
  intro s hs
  unfold State.propOpen
  split
  · exact propLatch_keepsFlow _ _ _ hs
  · exact hs

/-- With every grant withdrawn nothing is allocated (R69). -/
theorem hpaStop_keepsFlow : KeepsFlow State.hpaStop := by
  intro s _
  unfold State.hpaStop
  refine kept_stopPumps _ (kept_foldl _ (fun _ _ hx => kept_emit _ _ hx) _ _ ?_)
  exact Nat.zero_le _

theorem estopActive_keepsFlow : KeepsFlow State.estopActive := fun s hs =>
  kept_event _ _ (kept_raise _ _ _ (kept_recompute _ _ (kept_osqStop keepsWithin_osq _ (hpaStop_keepsFlow (s.modOst Ost.stopAll) hs))))

theorem firstReport_keepsFlow (a b : Bool) : KeepsFlow (State.firstReport a b) := by
  intro s hs
  unfold State.firstReport
  split
  · dsimp only
    split
    · exact estopActive_keepsFlow (s.modOst (Ost.read a b)) hs
    · exact kept_recompute _ _ (kept_emit _ _ hs)
  · exact hs

theorem channelChange_keepsFlow (second opened : Bool) : KeepsFlow (State.channelChange second opened) := by
  intro s hs
  unfold State.channelChange
  dsimp only
  split
  · exact estopActive_keepsFlow _ (State.FlowOk.congr hs rfl)
  · exact hs

theorem discrepancyOut_keepsFlow : KeepsFlow State.discrepancyOut := by
  intro s hs
  unfold State.discrepancyOut
  split <;> exact hs

theorem estopOver_keepsFlow : KeepsFlow State.estopOver := by
  intro s hs
  have h2 : State.FlowOk (((emit .pass (s.modOst Ost.stopOver)).recompute [0]).clearAlarm .estopActive 0) :=
    kept_clearAlarm _ _ _ (kept_recompute _ _ (State.FlowOk.congr hs rfl))
  unfold State.estopOver
  dsimp only
  split
  · exact kept_event _ _ (kept_clearAlarm _ _ _ h2)
  · exact kept_event _ _ h2

theorem hpa_releaseLatches (coil prop : Nat → Bool) (s : State) : (s.releaseLatches coil prop).hpa = s.hpa := by
  rw [(releaseLatches_releases coil prop s).frame]

theorem clearPoint_keepsFlow (p : Nat) : KeepsFlow (State.clearPoint p) := .of_hpa fun s => by
  rw [clearPoint_eq, hpa_of_units (State.ActsTo.tellCleared p _ _).units]
  exact hpa_releaseLatches _ _ (s.unfault p)

/-! #### Authority, mode and links -/

theorem changeHolder_keepsFlow (new : Holder) : KeepsFlow (State.changeHolder new) := by
  intro s hs
  unfold State.changeHolder
  dsimp only
  split
  · exact hs
  · split
    · rename_i st _
      have h := kept_authorityLost (h := keepsWithin) st keepsWithin_osq
        (State.event (.authorityChanged new s.amu.holder) { s with amu := { s.amu with holder := new, runTimer := none } }) hs
      exact State.FlowOk.congr h (by unfold State.dropBufferOf; split <;> rfl)
    · exact hs

theorem setConsent_keepsFlow (on : Bool) : KeepsFlow (State.setConsent on) := by
  intro s hs
  unfold State.setConsent
  split
  · exact hs
  · exact kept_recompute _ _ (State.FlowOk.congr hs rfl)

theorem changeMode_keepsFlow (new : Mode) : KeepsFlow (State.changeMode new) := .of_hpa fun s => by
  obtain ⟨-, -, hu⟩ := changeMode_rest new s
  exact hpa_of_units hu

theorem linkSilent_keepsFlow (st : Station) : KeepsFlow (State.linkSilent st) := by
  intro s hs
  unfold State.linkSilent
  split
  · have h1 : State.FlowOk (s.modLink st (fun l => { l with silence := none, active := false })) := hs.congr (modLink_hpa _ _ _)
    have h2 : State.FlowOk ((s.modLink st (fun l => { l with silence := none, active := false })).passAway st) := by
      unfold State.passAway
      split
      · exact changeHolder_keepsFlow _ _ h1
      · exact h1
    cases st with
    | bridge => exact kept_raise _ _ _ (setConsent_keepsFlow _ _ h2)
    | stand => exact h2
  · exact hs

theorem runOut_keepsFlow : KeepsFlow State.runOut := by
  intro s hs
  unfold State.runOut
  split
  · exact kept_runLapsed keepsWithin_osq _ (State.FlowOk.congr hs rfl)
  · exact hs

/-! #### Start-up and the layout store -/

/-- A reset leaves no grant (R71). -/
theorem restart_keepsFlow (k : ResetKind) (straps : Straps) : KeepsFlow (State.restart k straps) := fun _ _ => Nat.zero_le _

theorem endCheck_keepsFlow : KeepsFlow State.endCheck := by
  intro s hs
  unfold State.endCheck
  split
  · dsimp only
    split
    · exact hs
    · exact State.FlowOk.congr (kept_recompute (List.range 32) { s with lst := { s.lst with phase := .unconfigured }, cev := { s.cev with started := true } } hs) rfl
  · exact hs

theorem commitTuning_keepsFlow (l : Layout) : KeepsFlow (State.commitTuning l) := by
  intro s hs
  have h1 : State.FlowOk ((s.activate .tuning l).recompute [1, 2]) := kept_recompute _ _ (State.FlowOk.congr hs rfl)
  unfold State.commitTuning
  dsimp only
  split
  · exact h1
  · exact kept_emit _ _ h1

theorem clearFaults_keepsFlow : KeepsFlow State.clearFaults := by
  intro s hs
  refine kept_foldl _ (fun x e hx => ?_) _ _ (State.FlowOk.congr hs rfl)
  dsimp only
  repeat' split
  all_goals exact hx

theorem takeFloats_keepsFlow (old new : Layout) : KeepsFlow (State.takeFloats old new) := by
  intro s hs
  unfold State.takeFloats
  exact kept_foldl (fun x i => ({ x with adu := { x.adu with floats := tdel x.adu.floats i } }.clearAlarm .floatLimit i).clearAlarm .rampLiftoff i)
    (fun _ _ hx => hx) _ _ hs

theorem handFloats_keepsFlow : KeepsFlow State.handFloats := fun _ hs =>
  kept_foldl (fun x (e : Nat × FloatRec) => x.handFloat e.1) (fun _ _ hx => kept_handFloat _ _ hx) _ _ hs

/-- The new capacities are taken with a drop where they are too small (R71). -/
theorem takePumps_keepsFlow (l : Layout) : KeepsFlow (State.takePumps l) := fun _ _ => capacityDrop_within _

theorem structureTaken_keepsFlow (old l : Layout) : KeepsFlow (State.structureTaken old l) := by
  intro s hs
  unfold State.structureTaken
  dsimp only
  refine kept_recompute _ _ (State.FlowOk.congr ?_ (hpa_releaseLatches _ _ _))
  refine State.FlowOk.congr ?_ (modOst_hpa _ _)
  exact takePumps_keepsFlow _ _ (handFloats_keepsFlow _ (takeFloats_keepsFlow old l _ (State.FlowOk.congr (clearFaults_keepsFlow s hs) rfl)))

theorem commitStruct_keepsFlow (l : Layout) : KeepsFlow (State.commitStruct l) := by
  intro s hs
  rw [commitStruct_eq]
  refine structureTaken_keepsFlow _ _ _ (changeHolder_keepsFlow _ _ (State.FlowOk.congr ?_ rfl))
  exact KeepsFlow.finish _ (kept_endJog _ keepsWithin_osq.around _ (kept_abortContext keepsWithin_osq _ hs))

theorem firstCommit_keepsFlow : KeepsFlow State.firstCommit := fun s hs =>
  State.FlowOk.congr (changeMode_keepsFlow .harbour { s with lst := { s.lst with phase := .configured } } hs) rfl

theorem writeEnd_keepsFlow : KeepsFlow State.writeEnd := by
  intro s hs
  unfold State.writeEnd
  split
  · exact commitTuning_keepsFlow _ s hs
  · dsimp only
    split
    · exact firstCommit_keepsFlow _ (commitStruct_keepsFlow _ s hs)
    · exact commitStruct_keepsFlow _ s hs
  · exact hs

end Sys2Proof.Machine
end

section
namespace Sys2Proof.Machine

/-! ### Records keep the allocation within the capacity (R63) -/

/-- The rule of a record keeps the allocation within the capacity. -/
def RuleKeepsFlow (rule : State → Answer) : Prop := ∀ s : State, s.FlowOk → (rule s).1.FlowOk

theorem RuleKeepsFlow.of_hpa {rule : State → Answer} (h : ∀ s, (rule s).1.hpa = s.hpa) : RuleKeepsFlow rule := fun s hs => hs.congr (h s)

theorem modLink_keepsFlow (st : Station) (f : Link → Link) : KeepsFlow (fun s => s.modLink st f) := .of_hpa fun _ => modLink_hpa _ _ _

theorem setReply_keepsFlow (st : Station) (k : Byte) (r : Result) (f : List Byte) : KeepsFlow (State.setReply st k r f) := modLink_keepsFlow st _

theorem badRecord_keepsFlow (st : Station) (k : Byte) : KeepsFlow (State.badRecord st k) := setReply_keepsFlow _ _ _ _

theorem RuleKeepsFlow.serve {rule : State → Answer} (h : RuleKeepsFlow rule) (st : Station) (run : Bool) (k : Nat) (v : Service) :
    KeepsFlow (fun s => s.serve st run k v rule) := by
  intro s hs
  have h0 : (s.takeRun st run).FlowOk := hs.congr (takeRun_hpa st run s)
  simp only [State.serve]
  split
  · exact hs
  · refine setReply_keepsFlow _ _ _ _ _ (KeepsFlow.finish _ ?_)
    split
    · exact h0
    · split
      · exact h0
      · exact h _ h0

/-! #### The rules that act -/

theorem ruleClaim_keepsFlow (st : Station) (tag : Word32) : RuleKeepsFlow (ruleClaim st tag) := by
  intro s hs
  unfold ruleClaim
  repeat' split
  any_goals exact hs
  all_goals exact changeHolder_keepsFlow _ s hs

theorem ruleRelease_keepsFlow (st : Station) : RuleKeepsFlow (ruleRelease st) := by
  intro s hs
  unfold ruleRelease
  split
  · exact changeHolder_keepsFlow _ s hs
  · exact hs

theorem ruleHoldToRun_keepsFlow (st : Station) : RuleKeepsFlow (ruleHoldToRun st) := by
  intro s hs
  unfold ruleHoldToRun
  split <;> exact hs

theorem ruleSetMode_keepsFlow (st : Station) (code : Nat) : RuleKeepsFlow (ruleSetMode st code) := by
  intro s hs
  unfold ruleSetMode
  repeat' split
  any_goals exact hs
  all_goals exact changeMode_keepsFlow _ s hs

theorem ruleConsent_keepsFlow (st : Station) (on : Option Bool) : RuleKeepsFlow (ruleConsent st on) := by
  intro s hs
  unfold ruleConsent
  repeat' split
  any_goals exact hs
  exact setConsent_keepsFlow _ s hs

theorem ruleVessel_keepsFlow (st : Station) (heel pitch wind : Int) : RuleKeepsFlow (ruleVessel st heel pitch wind) := by
  intro s hs
  have h (x : Cev) : State.FlowOk ({ s with cev := x }.recompute [1, 2]) := kept_recompute _ _ (State.FlowOk.congr hs rfl)
  unfold ruleVessel
  repeat' split
  any_goals exact hs
  unfold State.takeVessel
  dsimp only
  split
  · exact kept_clearAlarm _ _ _ (h _)
  · exact h _

theorem ruleStart_keepsFlow (st : Station) (op : Nat) : RuleKeepsFlow (ruleStart st op) := by
  intro s hs
  unfold ruleStart
  repeat' split
  all_goals exact hs

theorem ruleStop_keepsFlow (st : Station) : RuleKeepsFlow (ruleStop st) := fun _ hs =>
  kept_giveCause _ keepsWithin_osq _ (kept_endJog _ keepsWithin_osq.around _ hs)

theorem ruleResume_keepsFlow (st : Station) (run : Bool) : RuleKeepsFlow (ruleResume st run) := by
  intro s hs
  unfold ruleResume
  repeat' split
  any_goals exact hs
  exact kept_resumeAccepted keepsWithin_osq _ hs

theorem ruleReverse_keepsFlow (st : Station) : RuleKeepsFlow (ruleReverse st) := by
  intro s hs
  have h (x : Context) : State.FlowOk (if x.state == .running then s.giveCause (stopCause st) else s) := by
    split
    · exact kept_giveCause _ keepsWithin_osq _ hs
    · exact hs
  unfold ruleReverse
  split
  · exact hs
  split
  · exact hs
  split
  · exact hs
  split
  · exact hs
  split
  · exact hs
  split
  · exact hs
  · exact kept_reversal _ keepsWithin_osq _ (h _)

theorem ruleAbort_keepsFlow (st : Station) : RuleKeepsFlow (ruleAbort st) := by
  intro s hs
  unfold ruleAbort
  repeat' split
  any_goals exact hs
  exact kept_abortContext keepsWithin_osq _ hs

theorem ruleJog_keepsFlow (st : Station) (run : Bool) (p d n : Nat) : RuleKeepsFlow (ruleJog st run p d n) := by
  intro s hs
  have h (dir : JogDir) : State.FlowOk (s.startJog st p dir n) := by
    unfold State.startJog
    dsimp only
    split
    · exact hs
    · split
      · rename_i hc
        exact kept_request _ _ _ _ _ (State.FlowOk.congr (kept_claim _ _ hs hc) rfl)
      · exact hs
  unfold ruleJog
  repeat' split
  any_goals exact hs
  exact h _

theorem ruleClearPoint_keepsFlow (st : Station) (p : Nat) : RuleKeepsFlow (ruleClearPoint st p) := by
  intro s hs
  unfold ruleClearPoint
  repeat' split
  any_goals exact hs
  exact clearPoint_keepsFlow p s hs

theorem ruleClearPump_keepsFlow (st : Station) (p : Nat) : RuleKeepsFlow (ruleClearPump st p) := by
  intro s hs
  unfold ruleClearPump
  repeat' split
  any_goals exact hs
  exact kept_setPump _ _ _ _ _ hs

theorem ruleResetEstop_keepsFlow (st : Station) : RuleKeepsFlow (ruleResetEstop st) := by
  intro s hs
  unfold ruleResetEstop
  repeat' split
  any_goals exact hs
  exact estopOver_keepsFlow s hs

/-! #### The rules that report and the layout store's -/

theorem report_keepsFlow (r : Result) (f : State → List Byte) : RuleKeepsFlow (fun x => (x, r, f x)) := fun _ hs => hs

theorem ruleReadPoint_keepsFlow (i : Nat) : RuleKeepsFlow (ruleReadPoint i) := by
  intro s hs
  unfold ruleReadPoint
  split <;> exact hs

theorem ruleReadPumps_keepsFlow : RuleKeepsFlow ruleReadPumps := .of_hpa fun s => by
  unfold ruleReadPumps
  split <;> rfl

theorem ruleAckAlarm_keepsFlow (st : Station) (what : AckWhat) : RuleKeepsFlow (ruleAckAlarm st what) := by
  intro s hs
  unfold ruleAckAlarm
  repeat' split
  all_goals exact hs

theorem ruleSeekEvents_keepsFlow (st : Station) (choice n : Nat) : RuleKeepsFlow (ruleSeekEvents st choice n) := by
  intro s hs
  unfold ruleSeekEvents
  split
  · exact modLink_keepsFlow st _ s hs
  · exact modLink_keepsFlow st _ s hs
  · exact hs

theorem ruleReadEvents_keepsFlow (st : Station) : RuleKeepsFlow (ruleReadEvents st) := fun s hs => modLink_keepsFlow st _ s hs

theorem getWith_keepsFlow (fields : Layout → Option (List Byte)) (st : Station) : RuleKeepsFlow (getWith fields st) := by
  intro s hs
  unfold getWith
  split <;> exact hs

theorem putWith_keepsFlow (admits : EditBuffer → Bool) (store : EditBuffer → Result × EditBuffer) (st : Station) :
    RuleKeepsFlow (putWith admits store st) := by
  intro s hs
  unfold putWith
  repeat' split
  all_goals exact hs

theorem ruleOpen_keepsFlow (st : Station) (code : Nat) : RuleKeepsFlow (ruleOpen st code) := by
  intro s hs
  unfold ruleOpen
  repeat' split
  all_goals exact hs

theorem ruleDiscard_keepsFlow (st : Station) : RuleKeepsFlow (ruleDiscard st) := by
  intro s hs
  unfold ruleDiscard
  repeat' split
  all_goals exact hs

theorem ruleCommit_keepsFlow (st : Station) : RuleKeepsFlow (ruleCommit st) := by
  intro s hs
  unfold ruleCommit
  repeat' split
  all_goals exact hs

/-! #### The records of a frame -/

section
variable (st : Station) (run : Bool)

theorem put_keepsFlow {admits : EditBuffer → Bool} {store : EditBuffer → Result × EditBuffer} (k : Nat) :
    KeepsFlow (fun s => s.serve st run k .setup (putWith admits store st)) := (putWith_keepsFlow admits store st).serve st run k .setup

theorem get_keepsFlow {fields : Layout → Option (List Byte)} (k : Nat) :
    KeepsFlow (fun s => s.serve st run k .setup (getWith fields st)) := (getWith_keepsFlow fields st).serve st run k .setup

theorem recClear_keepsFlow (what index : Nat) : KeepsFlow (recClear st run what index) := by
  unfold recClear
  split
  · exact (ruleClearPoint_keepsFlow st index).serve st run _ _
  · exact (ruleClearPump_keepsFlow st index).serve st run _ _
  · exact (report_keepsFlow .badValue (fun _ => [])).serve st run _ _

end

theorem takeBody_keepsFlow {α : Type} (rd : Reader α) {f : Bool → α → State → State} (h : ∀ bad a, KeepsFlow (f bad a)) (st : Station) (r : RawRecord) :
    KeepsFlow (takeBody rd f st r) := by
  intro s hs
  unfold takeBody
  split
  · exact badRecord_keepsFlow st _ s hs
  · split
    · exact h _ _ s hs
    · exact badRecord_keepsFlow st _ s hs

theorem handleControl_keepsFlow (st : Station) (r : RawRecord) : KeepsFlow (handleControl st r) := by
  intro s hs
  unfold handleControl
  dsimp only
  split
  · exact takeBody_keepsFlow _ (fun _ _ => (report_keepsFlow _ _).serve _ _ _ _) st r s hs
  · exact takeBody_keepsFlow _ (fun _ _ => (ruleClaim_keepsFlow _ _).serve _ _ _ _) st r s hs
  · exact takeBody_keepsFlow _ (fun _ _ => (ruleRelease_keepsFlow _).serve _ _ _ _) st r s hs
  · exact takeBody_keepsFlow _ (fun _ _ => (ruleHoldToRun_keepsFlow _).serve _ _ _ _) st r s hs
  · exact takeBody_keepsFlow _ (fun _ _ => (ruleSetMode_keepsFlow _ _).serve _ _ _ _) st r s hs
  · exact takeBody_keepsFlow _ (fun _ _ => (ruleConsent_keepsFlow _ _).serve _ _ _ _) st r s hs
  · exact takeBody_keepsFlow _ (fun _ _ => (ruleVessel_keepsFlow _ _ _ _).serve _ _ _ _) st r s hs
  · exact takeBody_keepsFlow _ (fun _ _ => (ruleStart_keepsFlow _ _).serve _ _ _ _) st r s hs
  · exact takeBody_keepsFlow _ (fun _ _ => (ruleStop_keepsFlow _).serve _ _ _ _) st r s hs
  · exact takeBody_keepsFlow _ (fun _ _ => (ruleResume_keepsFlow _ _).serve _ _ _ _) st r s hs
  · exact takeBody_keepsFlow _ (fun _ _ => (ruleReverse_keepsFlow _).serve _ _ _ _) st r s hs
  · exact takeBody_keepsFlow _ (fun _ _ => (ruleAbort_keepsFlow _).serve _ _ _ _) st r s hs
  · exact takeBody_keepsFlow _ (fun _ _ => (ruleJog_keepsFlow _ _ _ _ _).serve _ _ _ _) st r s hs
  · exact takeBody_keepsFlow _ (fun _ _ => recClear_keepsFlow _ _ _ _) st r s hs
  · exact takeBody_keepsFlow _ (fun _ _ => (ruleResetEstop_keepsFlow _).serve _ _ _ _) st r s hs
  · exact badRecord_keepsFlow st r.kind s hs

theorem handleReads_keepsFlow (st : Station) (r : RawRecord) : KeepsFlow (handleReads st r) := by
  intro s hs
  unfold handleReads
  dsimp only
  split
  · exact takeBody_keepsFlow _ (fun _ _ => (ruleReadPoint_keepsFlow _).serve _ _ _ _) st r s hs
  · exact takeBody_keepsFlow _ (fun _ _ => (report_keepsFlow _ _).serve _ _ _ _) st r s hs
  · exact takeBody_keepsFlow _ (fun _ _ => (report_keepsFlow _ _).serve _ _ _ _) st r s hs
  · exact takeBody_keepsFlow _ (fun _ _ => ruleReadPumps_keepsFlow.serve _ _ _ _) st r s hs
  · exact takeBody_keepsFlow _ (fun _ _ => (report_keepsFlow _ _).serve _ _ _ _) st r s hs
  · exact takeBody_keepsFlow _ (fun _ _ => (ruleAckAlarm_keepsFlow _ _).serve _ _ _ _) st r s hs
  · exact takeBody_keepsFlow _ (fun _ _ => (ruleSeekEvents_keepsFlow _ _ _).serve _ _ _ _) st r s hs
  · exact takeBody_keepsFlow _ (fun _ _ => (ruleReadEvents_keepsFlow _).serve _ _ _ _) st r s hs
  · exact takeBody_keepsFlow _ (fun _ _ => (ruleOpen_keepsFlow _ _).serve _ _ _ _) st r s hs
  · exact takeBody_keepsFlow _ (fun _ _ => (ruleCommit_keepsFlow _).serve _ _ _ _) st r s hs
  · exact takeBody_keepsFlow _ (fun _ _ => (ruleDiscard_keepsFlow _).serve _ _ _ _) st r s hs
  · exact badRecord_keepsFlow st r.kind s hs

/-- A PUT, whatever it stores, writes the edit buffer. -/
theorem handlePuts_keepsFlow (st : Station) (r : RawRecord) : KeepsFlow (handlePuts st r) := by
  intro s hs
  unfold handlePuts
  dsimp only
  split
  case h_12 => exact badRecord_keepsFlow st r.kind s hs
  all_goals exact takeBody_keepsFlow _ (fun _ _ => put_keepsFlow st _ _) st r s hs

/-- A GET, whatever it reads, changes nothing. -/
theorem handleGets_keepsFlow (st : Station) (r : RawRecord) : KeepsFlow (handleGets st r) := by
  intro s hs
  unfold handleGets
  dsimp only
  split
  case h_12 => exact badRecord_keepsFlow st r.kind s hs
  all_goals exact takeBody_keepsFlow _ (fun _ _ => get_keepsFlow st _ _) st r s hs

theorem handleRecord_keepsFlow (st : Station) (r : RawRecord) : KeepsFlow (handleRecord st r) := by
  intro s hs
  unfold handleRecord
  split
  · exact handleControl_keepsFlow st r s hs
  split
  · exact handleReads_keepsFlow st r s hs
  split
  · exact handlePuts_keepsFlow st r s hs
  · exact handleGets_keepsFlow st r s hs

theorem handleRecords_keepsFlow (st : Station) (rs : List RawRecord) : KeepsFlow (fun s => (handleRecords st rs s).1) := by
  induction rs with
  | nil => exact fun _ hs => hs
  | cons r rs ih => exact fun s hs => ih _ (handleRecord_keepsFlow st r s hs)

theorem handleFrame_keepsFlow (st : Station) (bytes : List Byte) : KeepsFlow (State.handleFrame st bytes) := by
  intro s hs
  unfold State.handleFrame
  split
  · exact modLink_keepsFlow st _ _ (handleRecords_keepsFlow st _ s hs)
  · exact modLink_keepsFlow st _ s hs

theorem hpa_linkHeard (st : Station) (s : State) : (s.linkHeard st).hpa = s.hpa := by
  unfold State.linkHeard
  cases st with
  | bridge =>
    dsimp only
    split <;> rfl
  | stand => rfl

theorem frameIn_keepsFlow (st : Station) (bytes : List Byte) : KeepsFlow (State.frameIn st bytes) := by
  intro s hs
  have h1 := modLink_keepsFlow st Link.hunt s hs
  unfold State.frameIn
  dsimp only
  split
  · exact handleFrame_keepsFlow st _ _ (State.FlowOk.congr h1 (hpa_linkHeard st _))
  · exact h1

theorem takeByte_keepsFlow (st : Station) (b : Byte) : KeepsFlow (State.takeByte st b) := by
  intro s hs
  have hset (x : Link) : (s.modLink st (fun _ => x)).FlowOk := modLink_keepsFlow st _ s hs
  unfold State.takeByte
  dsimp only
  repeat' split
  any_goals exact hset _
  exact frameIn_keepsFlow st _ _ (hset _)

theorem requestFrame_keepsFlow (st : Station) (bytes : List Byte) :
    KeepsFlow (fun s =>
      let s1 := s.modLink st (fun l => { l.hunt with gapOver := false })
      if s.completeFrame bytes then s1.frameIn st bytes.tail else s1) := by
  intro s hs
  have h1 := modLink_keepsFlow st (fun l => { l.hunt with gapOver := false }) s hs
  dsimp only
  split
  · exact frameIn_keepsFlow st _ _ h1
  · exact h1

/-! #### The commands -/

/-- What every command does keeps the allocation within the capacity: an event of the part by its act, a record by its rule. -/
theorem exec_keepsFlow (c : Instr) : ∃ f : State → State, KeepsFlow f ∧ ∀ s, exec c s = .next (f s) :=
  match c with
  | .powerOnReset straps => ⟨_, restart_keepsFlow .por straps, fun _ => rfl⟩
  | .xrst => ⟨_, KeepsFlow.unlessHeld (.of_hpa (f := State.enterReset) fun _ => rfl), fun _ => rfl⟩
  | .xrstRelease straps => ⟨_, (restart_keepsFlow .xrst straps).whileHeld, fun _ => rfl⟩
  | .startupCheckEnd => ⟨_, endCheck_keepsFlow.act, fun _ => rfl⟩
  | .estopFirstReport openA openB => ⟨_, (firstReport_keepsFlow openA openB).act, fun _ => rfl⟩
  | .timeStampTick => ⟨_, tick_keepsFlow, fun _ => rfl⟩
  | .debouncedValueChange changes => ⟨_, KeepsFlow.act (f := State.debouncedChange changes) (.of_hpa fun _ => hpa_handDiscrete_firstScan _ _ _), fun _ => rfl⟩
  | .analogFilteredValue input count => ⟨_, KeepsFlow.act (.of_hpa (hpa_analogSample input count)), fun _ => rfl⟩
  | .recoveryTimerExpiry input => ⟨_, KeepsFlow.act (.of_hpa (hpa_recovered input)), fun _ => rfl⟩
  | .conflictTimerExpiry point => ⟨_, (conflictOut_keepsFlow point).act, fun _ => rfl⟩
  | .stalenessTimerExpiry => ⟨_, staleOut_keepsFlow.act, fun _ => rfl⟩
  | .startTimerExpiry pump => ⟨_, (startExpiry_keepsFlow pump).act, fun _ => rfl⟩
  | .runDownTimerExpiry pump => ⟨_, (runDownExpiry_keepsFlow pump).act, fun _ => rfl⟩
  | .idleTimerExpiry => ⟨_, idleOut_keepsFlow.act, fun _ => rfl⟩
  | .flowWaitExpiry motion => ⟨_, (flowWaitOut_keepsFlow motion).act, fun _ => rfl⟩
  | .memberTravelTimeout motion point => ⟨_, KeepsFlow.act (kept_lduTravelOut motion point), fun _ => rfl⟩
  | .backOffExpiry motion point => ⟨_, KeepsFlow.act (kept_lduBackOut motion point), fun _ => rfl⟩
  | .controlInterval motion => ⟨_, KeepsFlow.act (kept_aduInterval motion), fun _ => rfl⟩
  | .stallWindowEnd motion => ⟨_, KeepsFlow.act (kept_aduStall motion), fun _ => rfl⟩
  | .axisTravelTimeout motion => ⟨_, KeepsFlow.act (kept_aduTravelOut motion), fun _ => rfl⟩
  | .settleEnd motion => ⟨_, KeepsFlow.act (kept_aduSettleEnd motion), fun _ => rfl⟩
  | .liftOffTimerExpiry point => ⟨_, KeepsFlow.act (kept_liftOffOut point), fun _ => rfl⟩
  | .waitStepExpiry slot => ⟨_, KeepsFlow.act (kept_waitOut slot keepsWithin_osq), fun _ => rfl⟩
  | .pauseExpiry slot => ⟨_, KeepsFlow.act (kept_pauseOut slot keepsWithin_osq), fun _ => rfl⟩
  | .jogDurationExpiry => ⟨_, KeepsFlow.act (kept_jogOut keepsWithin_osq.around), fun _ => rfl⟩
  | .jogAxisCheck => ⟨_, KeepsFlow.act (kept_jogCheck keepsWithin_osq.around), fun _ => rfl⟩
  | .coilFaultOpen out => ⟨_, (coilLatch_keepsFlow out .faultOpen).act, fun _ => rfl⟩
  | .coilFaultShort out => ⟨_, (coilLatch_keepsFlow out .faultShort).act, fun _ => rfl⟩
  | .coilFaultStuck outs => ⟨_, (foundStuck_keepsFlow outs).act, fun _ => rfl⟩
  | .darkPulse out milliamps => ⟨_, (darkPulse_keepsFlow out milliamps).act, fun _ => rfl⟩
  | .propFaultOpen out => ⟨_, (propOpen_keepsFlow out).act, fun _ => rfl⟩
  | .propFaultShort out => ⟨_, (propLatch_keepsFlow out .faultShort).act, fun _ => rfl⟩
  | .estopChannelChange second opened => ⟨_, (channelChange_keepsFlow second opened).act, fun _ => rfl⟩
  | .discrepancyTimerExpiry => ⟨_, discrepancyOut_keepsFlow.act, fun _ => rfl⟩
  | .silenceTimerExpiry link => ⟨_, (linkSilent_keepsFlow link).act, fun _ => rfl⟩
  | .holdToRunExpiry => ⟨_, runOut_keepsFlow.act, fun _ => rfl⟩
  | .interByteGap link => ⟨_, (modLink_keepsFlow link _).unlessHeld, fun _ => rfl⟩
  | .requestFrame link bytes => ⟨_, (requestFrame_keepsFlow link bytes).unlessHeld, fun _ => rfl⟩
  | .badRecord st kind => ⟨_, (badRecord_keepsFlow st kind).unlessHeld, fun _ => rfl⟩
  | .status st run => ⟨_, (report_keepsFlow _ _).serve st run _ _, fun _ => rfl⟩
  | .claimControl st run tag => ⟨_, (ruleClaim_keepsFlow st tag).serve st run _ _, fun _ => rfl⟩
  | .releaseControl st run => ⟨_, (ruleRelease_keepsFlow st).serve st run _ _, fun _ => rfl⟩
  | .holdToRun st run => ⟨_, (ruleHoldToRun_keepsFlow st).serve st run _ _, fun _ => rfl⟩
  | .setMode st run mode => ⟨_, (ruleSetMode_keepsFlow st mode).serve st run _ _, fun _ => rfl⟩
  | .consent st run on => ⟨_, (ruleConsent_keepsFlow st (some on)).serve st run _ _, fun _ => rfl⟩
  | .vesselState st run heel pitch wind => ⟨_, (ruleVessel_keepsFlow st heel pitch wind).serve st run _ _, fun _ => rfl⟩
  | .startOperation st run op => ⟨_, (ruleStart_keepsFlow st op).serve st run _ _, fun _ => rfl⟩
  | .stop st run => ⟨_, (ruleStop_keepsFlow st).serve st run _ _, fun _ => rfl⟩
  | .resume st run => ⟨_, (ruleResume_keepsFlow st run).serve st run _ _, fun _ => rfl⟩
  | .reverse st run => ⟨_, (ruleReverse_keepsFlow st).serve st run _ _, fun _ => rfl⟩
  | .abort st run => ⟨_, (ruleAbort_keepsFlow st).serve st run _ _, fun _ => rfl⟩
  | .jog st run point dir duration => ⟨_, (ruleJog_keepsFlow st run point dir duration).serve st run _ _, fun _ => rfl⟩
  | .clearFaultPoint st run point => ⟨_, (ruleClearPoint_keepsFlow st point).serve st run _ _, fun _ => rfl⟩
  | .clearFaultPump st run pump => ⟨_, (ruleClearPump_keepsFlow st pump).serve st run _ _, fun _ => rfl⟩
  | .resetEstop st run => ⟨_, (ruleResetEstop_keepsFlow st).serve st run _ _, fun _ => rfl⟩
  | .readPoint st run point => ⟨_, (ruleReadPoint_keepsFlow point).serve st run _ _, fun _ => rfl⟩
  | .readConditions st run => ⟨_, (report_keepsFlow _ _).serve st run _ _, fun _ => rfl⟩
  | .readOperation st run => ⟨_, (report_keepsFlow _ _).serve st run _ _, fun _ => rfl⟩
  | .readPumps st run => ⟨_, ruleReadPumps_keepsFlow.serve st run _ _, fun _ => rfl⟩
  | .readAlarms st run _ => ⟨_, (report_keepsFlow _ _).serve st run _ _, fun _ => rfl⟩
  | .ackAlarm st run what => ⟨_, (ruleAckAlarm_keepsFlow st what).serve st run _ _, fun _ => rfl⟩
  | .seekEvents st run choice n => ⟨_, (ruleSeekEvents_keepsFlow st choice n).serve st run _ _, fun _ => rfl⟩
  | .readEvents st run => ⟨_, (ruleReadEvents_keepsFlow st).serve st run _ _, fun _ => rfl⟩
  | .layoutOpen st run region => ⟨_, (ruleOpen_keepsFlow st region).serve st run _ _, fun _ => rfl⟩
  | .layoutDiscard st run => ⟨_, (ruleDiscard_keepsFlow st).serve st run _ _, fun _ => rfl⟩
  | .layoutCommit st run => ⟨_, (ruleCommit_keepsFlow st).serve st run _ _, fun _ => rfl⟩
  | .layoutWriteEnd => ⟨_, writeEnd_keepsFlow.act, fun _ => rfl⟩
  | .putHeader st run _ => ⟨_, put_keepsFlow st run _, fun _ => rfl⟩
  | .putPump st run _ _ => ⟨_, put_keepsFlow st run _, fun _ => rfl⟩
  | .putPoint st run _ _ => ⟨_, put_keepsFlow st run _, fun _ => rfl⟩
  | .putWindow st run _ _ _ => ⟨_, put_keepsFlow st run _, fun _ => rfl⟩
  | .putGroup st run _ _ => ⟨_, put_keepsFlow st run _, fun _ => rfl⟩
  | .putCondition st run _ _ => ⟨_, put_keepsFlow st run _, fun _ => rfl⟩
  | .putPermissive st run _ _ => ⟨_, put_keepsFlow st run _, fun _ => rfl⟩
  | .putOperation st run _ _ => ⟨_, put_keepsFlow st run _, fun _ => rfl⟩
  | .listBegin st run _ _ => ⟨_, put_keepsFlow st run _, fun _ => rfl⟩
  | .putStep st run _ => ⟨_, put_keepsFlow st run _, fun _ => rfl⟩
  | .putTuning st run _ => ⟨_, put_keepsFlow st run _, fun _ => rfl⟩
  | .getHeader st run => ⟨_, get_keepsFlow st run _, fun _ => rfl⟩
  | .getPump st run _ => ⟨_, get_keepsFlow st run _, fun _ => rfl⟩
  | .getPoint st run _ => ⟨_, get_keepsFlow st run _, fun _ => rfl⟩
  | .getWindow st run _ _ => ⟨_, get_keepsFlow st run _, fun _ => rfl⟩
  | .getGroup st run _ => ⟨_, get_keepsFlow st run _, fun _ => rfl⟩
  | .getCondition st run _ => ⟨_, get_keepsFlow st run _, fun _ => rfl⟩
  | .getPermissive st run _ => ⟨_, get_keepsFlow st run _, fun _ => rfl⟩
  | .getOperation st run _ => ⟨_, get_keepsFlow st run _, fun _ => rfl⟩
  | .getListBegin st run _ => ⟨_, get_keepsFlow st run _, fun _ => rfl⟩
  | .getStep st run _ _ => ⟨_, get_keepsFlow st run _, fun _ => rfl⟩
  | .getTuning st run => ⟨_, get_keepsFlow st run _, fun _ => rfl⟩
  | .discreteSample on => ⟨_, KeepsFlow.act (f := State.discreteSample on) (.of_hpa fun _ => hpa_handDiscrete_firstScan _ _ _), fun _ => rfl⟩
  | .receivedByte link b => ⟨_, (takeByte_keepsFlow link b).unlessHeld, fun _ => rfl⟩

/-- Settles O8: every command keeps the allocation within the capacity, because a grant takes no more than the free flow and every loss of capacity is answered by a
drop. -/
theorem stepKeepsAllocationWithinCapacity : Obligations.StepKeepsAllocationWithinCapacity := by
  intro s t hs h
  unfold step at h
  split at h
  · rename_i c rest _
    obtain ⟨f, hf, he⟩ := exec_keepsFlow c
    rw [he] at h
    injection h with h
    exact h ▸ hf { s with pending := rest } hs
  · injection h with h
    exact h ▸ hs

end Sys2Proof.Machine
end

section
namespace Sys2Proof.Machine

/-! ### The reset state (R17, R24, R53, R71, R87, R108, R126, R141, R153, R171, R182, R184, R188) -/

/-- The alarm list holds the RESTART alarm alone. -/
theorem reset_alarmsOk : State.reset.aeu.AlarmsOk := by
  unfold Aeu.AlarmsOk
  decide

/-- The event list holds the records of serials 0 and 1. -/
theorem reset_eventsOk : State.reset.aeu.EventsOk :=
  ⟨by decide, (by decide : ∀ k, (h : k < 2) →
    State.reset.aeu.events[k].serial = State.reset.aeu.nextSerial - BitVec.ofNat 32 (2 - k))⟩

theorem reset_within : State.reset.hpa.Within := Nat.le_refl 0

/-- Every output is off and the emergency stop not yet decided. -/
theorem reset_outputsOk : State.reset.ost.OutputsOk where
  coilCount := by decide
  bankCount := by decide
  propCount := by decide
  contactorCount := by decide
  commandMax := by decide
  commandFault := by decide
  stopBanks h := nomatch h
  stopContactors h := nomatch h
  stopCoils h := nomatch h
  stopProps h := nomatch h

/-- Neither relay is on or demanded, AEU having made no demand yet. -/
theorem reset_relaysOk : State.reset.RelaysOk := ⟨rfl, rfl, rfl, rfl⟩

theorem reset_contextOk : State.reset.osq.ContextOk := fun _ h => nomatch h

theorem reset_authorityOk : State.reset.AuthorityOk where
  consent h := nomatch h
  run h := absurd rfl h
  owner _ h := nomatch h
  region _ h := nomatch h

/-- Settles O13: the reset state has one alarm, two records, every output off, no grant, no context and no holder of authority. -/
theorem resetMeetsEveryInvariant : Obligations.ResetMeetsEveryInvariant :=
  ⟨reset_alarmsOk, reset_eventsOk, reset_within, reset_outputsOk, reset_relaysOk, reset_contextOk, reset_authorityOk⟩

end Sys2Proof.Machine
end

section
namespace Sys2Proof.Machine

/-! ### The end of a jog, field by field (R141) -/

/-- A jog's record once it has ended. -/
def Jog.finished (cause : JogEnd) (j : Jog) : Jog := { j with phase := .ended, granted := none, timer := none, cause := some cause }

section
variable {s : State} {j : Jog}

theorem endJog_none (h : s.osq.jog = none) (cause : JogEnd) : s.endJog cause = s := by simp [State.endJog, h]

theorem endJog_over (h : s.osq.jog = some j) (hp : j.phase = .ended) (cause : JogEnd) : s.endJog cause = s := by simp [State.endJog, h, hp]

theorem endJog_live (h : s.osq.jog = some j) (hp : j.phase ≠ .ended) (cause : JogEnd) : s.endJog cause = (s.jogStopped j).modJog (Jog.finished cause) := by
  simp [State.endJog, h, hp, State.jogStopped]
  rfl

theorem jogOff_kept (j : Jog) (s : State) : (s.jogOff j).ldu = s.ldu ∧ (s.jogOff j).adu = s.adu ∧ (s.jogOff j).hpa = s.hpa ∧ (s.jogOff j).pmn = s.pmn := by
  unfold State.jogOff
  split
  · obtain ⟨h1, h2, h3, h4, -⟩ := (State.CoilsOff.driveLock Config.jogMotion j.point _ s).kept
    exact ⟨h1, h2, h3, h4⟩
  · exact ⟨rfl, rfl, rfl, rfl⟩

theorem jogRest_kept (j : Jog) (s : State) : (s.jogRest j).ldu = s.ldu ∧ (s.jogRest j).adu = s.adu ∧ (s.jogRest j).hpa = s.hpa ∧ (s.jogRest j).ost = s.ost := by
  unfold State.jogRest
  split
  · exact ⟨rfl, rfl, rfl, rfl⟩
  · exact setDrive_kept _ _ s

theorem jogStopped_motions (j : Jog) (s : State) : (s.jogStopped j).ldu = s.ldu ∧ (s.jogStopped j).adu = s.adu := by
  obtain ⟨hl, ha, -, -⟩ := jogOff_kept j s
  obtain ⟨hl', ha', -, -⟩ := jogRest_kept j (((s.jogOff j).giveUpFlow Config.jogMotion).release Config.jogMotion)
  exact ⟨(hl'.trans (letGo_ldu _ _)).trans hl, (ha'.trans (letGo_adu _ _)).trans ha⟩

/-- The coil of a jogged lock is demanded off. -/
theorem jogOff_coil {dir : LockDir} (hdir : j.dir = .lock dir) (hr : s.reservedBy j.point = some Config.jogMotion) {d : LockDef}
    (hd : s.layout.lock? j.point = some d) (ho : ∀ c, s.ost.coils[d.coil dir]? = some c → c.owner = some j.point) :
    (s.jogOff j).coilDemanded (d.coil dir) false := by
  simp only [State.jogOff, hdir]
  exact driveLock_demandedOff hr hd ho

/-- The outputs of a jogged axis stand at 0. -/
theorem jogOff_still {dir : AxisDir} (hdir : j.dir = .axis dir) : (s.jogOff j).still j.point := by
  simp only [State.jogOff, hdir]
  exact zeroProps_still _ s

/-- A jogged axis is at rest. -/
theorem jogRest_atRest {dir : AxisDir} (hdir : j.dir = .axis dir) : (s.jogRest j).atRest j.point := by
  simp only [State.jogRest, hdir]
  exact restDrive_atRest _ s

theorem State.Calms.jogStopped_of_jogOff (j : Jog) (s : State) : (s.jogOff j).Calms (s.jogStopped j) := (State.Calms.letGo _ _).trans (.jogRest j _)

theorem jogStopped_nothingHeld (j : Jog) (s : State) : (s.jogStopped j).NothingHeldBy Config.jogMotion :=
  (State.Calms.jogRest j _).nothingHeld (letGo_nothingHeld _ _)

/-- A jog that runs ends as R141 says. -/
theorem endJog_ended (h : s.osq.jog = some j) (hp : j.phase ≠ .ended) (cause : JogEnd) : s.JogEnded (s.endJog cause) j cause := by
  have hoff := State.Calms.jogStopped_of_jogOff j s
  obtain ⟨hldu, hadu⟩ := jogStopped_motions j s
  rw [endJog_live h hp]
  exact
    { record := by
        rw [modJog_osq, (State.Calms.jogStopped j s).osq, h]
        rfl
      coil := fun dir hdir hr d hd ho => hoff.demandedOff (jogOff_coil hdir hr hd ho)
      outputs := fun dir hdir => hoff.still (jogOff_still hdir)
      drive := fun dir hdir y hy => by
        have hfl : (s.jogStopped j).floats j.point = s.floats j.point := by rw [State.floats, (State.Calms.jogStopped j s).floats]; rfl
        rw [jogRest_atRest hdir y hy, ← hfl]
        rfl
      given := jogStopped_nothingHeld j s
      others := ⟨hldu, hadu, fixed_finish_of (State.Calms.jogStopped j s).fixed⟩ }

end

/-! ### Ends told of an earlier state, and kept by later acts -/

/-- The owner of a coil is the one it had before coils were switched off. -/
theorem State.Calms.owned {s r : State} (h : s.Calms r) {o p : Nat} (ho : ∀ c, s.ost.coils[o]? = some c → c.owner = some p) :
    ∀ c, r.ost.coils[o]? = some c → c.owner = some p := by
  intro c hc
  have hown := h.owner o
  rw [hc] at hown
  obtain ⟨c', hc', he⟩ := Option.map_eq_some_iff.1 hown.symm
  exact he.symm.trans (ho c' hc')

section
variable {s r e t : State} {m : Nat}

theorem State.JogEnded.of_start {j : Jog} {cause : JogEnd} (h : r.JogEnded e j cause) (hc : s.Calms r) (hp : r.pmn = s.pmn) (hl : r.ldu = s.ldu) (ha : r.adu = s.adu) :
    s.JogEnded e j cause where
  record := by rw [h.record, hc.osq]
  coil dir hdir hr d hd ho := h.coil dir hdir (by rw [State.reservedBy, hp]; exact hr) d (by rw [hc.layout]; exact hd) (hc.owned ho)
  outputs := h.outputs
  drive dir hdir y hy := by
    rw [h.drive dir hdir y hy, State.floats, ha]
    rfl
  given := h.given
  others := by
    obtain ⟨hldu, hadu, hfix⟩ := h.others
    exact ⟨hldu.trans hl, hadu.trans ha, hfix.trans hc.fixed⟩

theorem State.GroupEnded.of_start {st : MotionState} {cause : Option FailCause} {failed : List Nat} (h : r.GroupEnded e m st cause failed) (hc : s.Calms r)
    (hp : r.pmn = s.pmn) (hl : r.ldu = s.ldu) : s.GroupEnded e m st cause failed where
  record := h.record
  coils g hg x hx := (h.coils g (by rw [State.ldu?, hl]; exact hg) x hx).of_start (fun hr => by rw [State.reservedBy, hp]; exact hr) hc.layout hc.owner
  given := h.given
  told := h.told
  others := by
    obtain ⟨hldu, hosq, hfix⟩ := h.others
    refine ⟨fun n hn => (hldu n hn).trans ?_, hosq.trans hc.osq, hfix.trans hc.fixed⟩
    rw [State.ldu?, hl]
    rfl

/-- The end of a group drive stands through acts that put other motions to rest. -/
theorem State.GroupEnded.later {st : MotionState} {cause : Option FailCause} {failed : List Nat} (h : s.GroupEnded e m st cause failed) (hc : e.Calms t)
    (hl : t.ldu = e.ldu) : s.GroupEnded t m st cause failed where
  record := by
    obtain ⟨g, hg, hrec⟩ := h.record
    exact ⟨g, by rw [State.ldu?, hl]; exact hg, hrec⟩
  coils g hg x hx := (h.coils g hg x hx).later hc
  given := hc.nothingHeld h.given
  told := hc.todo.subset h.told
  others := by
    obtain ⟨hldu, hosq, hfix⟩ := h.others
    refine ⟨fun n hn => Eq.trans ?_ (hldu n hn), hc.osq.trans hosq, Eq.trans ?_ hfix⟩
    · rw [State.ldu?, hl]
      rfl
    · rw [fixed_finish, fixed_finish, hc.fixed]

end

/-! ### The expiry of a flow wait (R62, R85, R103, R141) -/

theorem aduEnd_ldu (m : Nat) (st : MotionState) (cause : Option FailCause) (s : State) : (s.aduEnd m st cause).ldu = s.ldu := by
  cases h : s.adu? m with
  | none => simp only [State.aduEnd, h]
  | some a => rw [aduEnd_eq h, emit_ldu, State.restDrive, setDrive_ldu, letGo_ldu]; rfl

/-- A motion that waits for flow. -/
def awaitsFlow (st : MotionState) (halt : Option HaltCause) : Prop := st = .waitingFlow ∨ (st = .halted ∧ halt = some .noFlow)

theorem awaitsFlow_iff (st : MotionState) (halt : Option HaltCause) :
    (st == .waitingFlow || (st == .halted && halt == some .noFlow)) = true ↔ awaitsFlow st halt := by simp [awaitsFlow]

section
variable {s : State} {m : Nat}

theorem lduNoFlow_absent (h : s.ldu? m = none) : s.lduNoFlow m = s := by simp [State.lduNoFlow, h]

theorem lduNoFlow_waiting {g : GroupMotion} (h : s.ldu? m = some g) (hw : awaitsFlow g.state g.halt) : s.lduNoFlow m = s.lduEnd m .failed (some .noFlow) [] := by
  simp only [State.lduNoFlow, h]
  exact if_pos ((awaitsFlow_iff _ _).2 hw)

theorem aduNoFlow_waiting {a : AxisMotion} (h : s.adu? m = some a) (hw : awaitsFlow a.state a.halt) : s.aduNoFlow m = s.aduEnd m .failed (some .noFlow) := by
  simp only [State.aduNoFlow, h]
  exact if_pos ((awaitsFlow_iff _ _).2 hw)

theorem State.Calms.lduNoFlow (m : Nat) (s : State) : s.Calms (s.lduNoFlow m) := by
  unfold State.lduNoFlow
  split
  · exact .refl s
  · split
    · exact .lduEnd _ _ _ _ s
    · exact .refl s

theorem State.Calms.aduNoFlow (m : Nat) (s : State) : s.Calms (s.aduNoFlow m) := by
  unfold State.aduNoFlow
  split
  · exact .refl s
  · split
    · exact .aduEnd _ _ _ s
    · exact .refl s

theorem aduNoFlow_ldu (m : Nat) (s : State) : (s.aduNoFlow m).ldu = s.ldu := by
  unfold State.aduNoFlow
  split
  · rfl
  · split
    · exact aduEnd_ldu _ _ _ s
    · rfl

theorem noFlow_jog : s.noFlow Config.jogMotion = s.endJog .noFlow := if_pos rfl

theorem noFlow_motion (h : m ≠ Config.jogMotion) : s.noFlow m = (s.lduNoFlow m).aduNoFlow m := if_neg h

/-- The end of a motion or a jog for want of flow reports on, holds no flow anew and leaves what no report touches. -/
theorem noFlow_rest (m : Nat) (s : State) : s.todo <+: (s.noFlow m).todo ∧ (s.noFlow m).fixed = s.fixed ∧
    (s.hpa.grantOf m = none → (s.noFlow m).hpa.grantOf m = none) ∧ (s.hpa.entryOf m = none → (s.noFlow m).hpa.entryOf m = none) := by
  by_cases hm : m = Config.jogMotion
  · subst hm
    rw [noFlow_jog]
    cases hj : s.osq.jog with
    | none => rw [endJog_none hj]; exact ⟨List.prefix_refl _, rfl, id, id⟩
    | some j =>
      by_cases hp : j.phase = .ended
      · rw [endJog_over hj hp]; exact ⟨List.prefix_refl _, rfl, id, id⟩
      · have hc := State.Calms.jogStopped j s
        rw [endJog_live hj hp]
        exact ⟨hc.todo, hc.fixed, hc.grants _, hc.requests _⟩
  · have hc := (State.Calms.lduNoFlow m s).trans (.aduNoFlow m _)
    rw [noFlow_motion hm]
    exact ⟨hc.todo, hc.fixed, hc.grants m, hc.requests m⟩

/-- Flow that is held or asked for is given up with a grant pass to follow. -/
theorem giveUpFlow_pass (h : s.hpa.entryOf m ≠ none) : Task.pass ∈ (s.giveUpFlow m).todo := by
  rw [State.giveUpFlow, if_pos (by simp [Option.isSome_iff_ne_none.2 h])]
  exact List.mem_append_right _ (List.mem_singleton_self _)

theorem flowWaitOut_absent (h : s.hpa.entryOf m = none) : s.flowWaitOut m = s := by simp [State.flowWaitOut, h]

theorem flowWaitOut_present (h : s.hpa.entryOf m ≠ none) : s.flowWaitOut m = (s.giveUpFlow m).noFlow m := if_pos (Option.isSome_iff_ne_none.2 h)

end

/-- Settles O44: the request is given up, and the unit of its motion, whose records HPA has not touched, ends it. -/
theorem flowWaitExpiryFailsTheMotion : Obligations.FlowWaitExpiryFailsTheMotion := by
  intro m s hs
  refine ⟨fun h => exec_act_same hs (flowWaitOut_absent h), fun h => ⟨s.flowWaitOut m, exec_act hs _, ?_⟩⟩
  have hc := State.Calms.giveUpFlow m s
  obtain ⟨hldu, hadu, hpmn, -⟩ := giveUpFlow_kept m s
  obtain ⟨hgrant, hentry⟩ := giveUpFlow_gone m s
  obtain ⟨htodo, hfix, hg, he⟩ := noFlow_rest m (s.giveUpFlow m)
  rw [flowWaitOut_present h]
  refine ⟨he hentry, hg hgrant, htodo.subset (giveUpFlow_pass h), fun hm g hrec hw => ?_, fun hm hno a hrec hw => ?_, fun hm j hj hp => ?_,
    fixed_finish_of (hfix.trans hc.fixed)⟩
  · have hrec' : (s.giveUpFlow m).ldu? m = some g := by rw [State.ldu?, hldu]; exact hrec
    rw [noFlow_motion hm, lduNoFlow_waiting hrec' hw]
    exact ((lduEnd_ended hrec' _ _ _).of_start hc hpmn hldu).later (.aduNoFlow m _) (aduNoFlow_ldu m _)
  · have hno' : (s.giveUpFlow m).ldu? m = none := by rw [State.ldu?, hldu]; exact hno
    have hrec' : (s.giveUpFlow m).adu? m = some a := by rw [State.adu?, hadu]; exact hrec
    rw [noFlow_motion hm, lduNoFlow_absent hno', aduNoFlow_waiting hrec' hw]
    exact (aduEnd_ended hrec' _ _).of_start hadu hc.osq hc.fixed
  · obtain rfl : m = Config.jogMotion := hm
    rw [noFlow_jog]
    exact (endJog_ended ((congrArg Osq.jog hc.osq).trans hj) hp _).of_start hc hpmn hldu hadu

end Sys2Proof.Machine
end

section
namespace Sys2Proof.Machine

/-! ### JOG's answers (R138) -/

section
variable {s : State} {st : Station} {run : Bool} {p d n : Nat} {dir : JogDir}

theorem jogDirOf_beyond (l : Layout) (p : Nat) (h : 2 ≤ d) : jogDirOf l p d = none := by
  match d, h with
  | k + 2, _ =>
    unfold jogDirOf
    split <;> rfl

/-- A point that has a direction is in the layout. -/
theorem jogDirOf_present {l : Layout} (h : jogDirOf l p d = some dir) : (tget l.points p).isNone = false := by
  unfold jogDirOf at h
  cases hp : tget l.points p with
  | none => rw [hp] at h; cases h
  | some _ => rfl

theorem ruleJog_missing (h : tget s.layout.points p = none) : ruleJog st run p d n s = s.refuse .notFound := by simp [ruleJog, h]

theorem ruleJog_undirected (h : tget s.layout.points p ≠ none) (hd : jogDirOf s.layout p d = none) : ruleJog st run p d n s = s.refuse .badValue := by
  simp [ruleJog, h, hd]

theorem ruleJog_unheld (hd : jogDirOf s.layout p d = some dir) (h : s.amu.holder ≠ holderOf st) : ruleJog st run p d n s = s.refuse .refusedAuthority := by
  simp [ruleJog, jogDirOf_present hd, hd, State.holds, h]

theorem ruleJog_mode (hd : jogDirOf s.layout p d = some dir) (h : s.amu.holder = holderOf st) (hm : s.amu.mode ≠ .maintenance) :
    ruleJog st run p d n s = s.refuse .refusedMode := by
  simp [ruleJog, jogDirOf_present hd, hd, State.holds, h, hm]

theorem ruleJog_stopped (hd : jogDirOf s.layout p d = some dir) (h : s.amu.holder = holderOf st) (hm : s.amu.mode = .maintenance)
    (hx : run = false ∨ s.ost.estop = .active) : ruleJog st run p d n s = s.refuse .refusedState := by
  simp [ruleJog, jogDirOf_present hd, hd, State.holds, h, hm, hx]

theorem ruleJog_busy (hd : jogDirOf s.layout p d = some dir) (h : s.amu.holder = holderOf st) (hm : s.amu.mode = .maintenance) (he : s.ost.estop ≠ .active)
    (hx : s.contextLive = true ∨ s.jogActive = true ∨ s.reservedBy p ≠ none) : ruleJog st true p d n s = s.refuse .busy := by
  have hbusy : (s.contextLive || s.jogActive || (s.reservedBy p).isSome) = true := by simpa [Option.isSome_iff_ne_none, or_assoc] using hx
  simp [ruleJog, jogDirOf_present hd, hd, State.holds, h, hm, he, hbusy]

theorem ruleJog_accepted (hd : jogDirOf s.layout p d = some dir) (h : s.amu.holder = holderOf st) (hm : s.amu.mode = .maintenance) (he : s.ost.estop ≠ .active)
    (hc : s.contextLive = false) (hj : s.jogActive = false) (hr : s.reservedBy p = none) : ruleJog st true p d n s = (s.startJog st p dir n).accept := by
  simp [ruleJog, jogDirOf_present hd, hd, State.holds, h, hm, he, hc, hj, hr]

/-- The record of a jog that is accepted. -/
def newJog (st : Station) (p : Nat) (dir : JogDir) (n : Nat) : Jog := { point := p, dir := dir, station := st, duration := clampDuration n }

/-- A jog that is asked for: its point reserved, its record made, its flow requested. -/
def State.jogAsking (s : State) (j : Jog) : State :=
  ({ s.claimedBy Config.jogMotion [j.point] with osq := { s.osq with jog := some j } }).request Config.jogMotion (s.jogFlow j.point).1 (s.jogFlow j.point).2
    (s.jogFlow j.point).2

theorem startJog_there (h : s.jogThere p dir = true) :
    s.startJog st p dir n = { s with osq := { s.osq with jog := some { newJog st p dir n with phase := .ended, cause := some .completed } } } := by
  simp [State.startJog, h, newJog]

theorem startJog_asks (h : s.jogThere p dir = false) (hp : (tget s.pmn.points p).isSome) (hr : s.reservedBy p = none) :
    s.startJog st p dir n = s.jogAsking (newJog st p dir n) := by
  have hfree : s.claim Config.jogMotion [p] = some (s.claimedBy Config.jogMotion [p]) := claim_free fun q hq => by
    rw [List.mem_singleton.1 hq]
    exact ⟨hp, hr⟩
  simp only [State.startJog, h, hfree]
  rfl

/-- The request of a jog on a point (R61). -/
def State.jogRequest (s : State) (p : Nat) : Request :=
  { motion := Config.jogMotion, cls := (s.jogFlow p).1, requested := (s.jogFlow p).2, minimum := (s.jogFlow p).2, stamp := s.hpa.arrival, passed := 0
    wait := s.tune.flowWait }

theorem jogAsking_requests (s : State) (j : Jog) : (s.jogAsking j).hpa.requests = s.hpa.requests ++ [s.jogRequest j.point] := rfl

theorem jogRequest_takeRun (st : Station) (run : Bool) (s : State) (p : Nat) : (s.takeRun st run).jogRequest p = s.jogRequest p := by
  unfold State.takeRun
  split <;> rfl

theorem jogThere_takeRun (st : Station) (run : Bool) (s : State) (p : Nat) (dir : JogDir) : (s.takeRun st run).jogThere p dir = s.jogThere p dir := by
  unfold State.takeRun
  split
  · cases dir with
    | lock d => rfl
    | axis x => cases x <;> rfl
  · rfl

theorem reservedBy_takeRun (st : Station) (run : Bool) (s : State) (p : Nat) : (s.takeRun st run).reservedBy p = s.reservedBy p := by
  rw [State.reservedBy, takeRun_pmn]
  rfl

end

/-- Settles O29, clause by clause in the order of the rule. -/
theorem jogClaimsThePoint : Obligations.JogClaimsThePoint := by
  intro st run p d n s hs
  have hlay := takeRun_layout st run s
  have htodo : s.todo = [] := by
    obtain ⟨⟨-, h⟩, -⟩ := hs
    exact h
  refine ⟨fun h => ?_, fun hp hd => ?_, fun dir hdir => ?_⟩
  · exact congrArg _ (serve_answered hs (ruleJog_missing (by rw [hlay]; exact h)))
  · exact congrArg _ (serve_answered hs (ruleJog_undirected (by rw [hlay]; exact hp) (jogDirOf_beyond _ _ hd)))
  rw [← hlay] at hdir
  refine ⟨fun h => ?_, fun h => ⟨fun hm => ?_, fun hm => ⟨fun hx => ?_, fun hrun he => ⟨fun hx => ?_, fun hc hj hr => ⟨fun ht => ?_, fun ht hp => ?_⟩⟩⟩⟩⟩
  all_goals have hholder := (takeRun_holder st run s)
  · exact congrArg _ (serve_answered hs (ruleJog_unheld hdir (by rw [hholder]; exact h)))
  all_goals rw [← takeRun_holder st run s] at h
  · exact congrArg _ (serve_answered hs (ruleJog_mode hdir h (by rw [takeRun_mode]; exact hm)))
  all_goals rw [← takeRun_mode st run s] at hm
  · exact congrArg _ (serve_answered hs (ruleJog_stopped hdir h hm (by rw [takeRun_ost]; exact hx)))
  all_goals
    subst hrun
    rw [← takeRun_ost st true s] at he
  · exact congrArg _ (serve_answered hs (ruleJog_busy hdir h hm he (by rw [takeRun_contextLive, takeRun_jogActive, reservedBy_takeRun]; exact hx)))
  all_goals
    rw [← takeRun_contextLive st true s] at hc
    rw [← takeRun_jogActive st true s] at hj
    rw [← reservedBy_takeRun st true s] at hr
    rw [← jogThere_takeRun st true s] at ht
    have hrule := ruleJog_accepted (n := n) hdir h hm he hc hj hr
  · have hstart := (hrule.trans (congrArg State.accept (startJog_there ht)))
    refine congrArg _ ((serve_accepted hs hstart).trans ?_)
    rw [State.acceptedAs, finish_of_todo_nil (by simpa using htodo)]
    rfl
  · rw [startJog_asks ht (by rw [takeRun_pmn]; exact hp) hr] at hrule
    refine ⟨(s.takeRun st true).jogAsking (newJog st p dir n), congrArg _ (serve_accepted hs hrule), ?_, ?_, fun q hq => ?_, ?_, ?_, ?_, ?_, ?_, ?_, ?_⟩
    · show ({ (s.takeRun st true).osq with jog := some (newJog st p dir n) } : Osq) = _
      rw [takeRun_osq]
      rfl
    · show ((s.takeRun st true).claimedBy Config.jogMotion [p]).reservedBy p = some 7
      rw [reservedBy_claimedBy (fun q hq => by rw [List.mem_singleton.1 hq, takeRun_pmn]; exact hp), if_pos (List.mem_singleton_self p)]
      rfl
    · show tget ((s.takeRun st true).claimedBy Config.jogMotion [p]).pmn.points q = _
      rw [tget_claimedBy, if_neg (by simpa using hq), takeRun_pmn]
    · rw [jogAsking_requests, jogRequest_takeRun, takeRun_hpa, State.jogRequest, State.jogFlow]
      simp only [newJog]
      cases hpt : tget s.layout.points p with
      | none => rfl
      | some x =>
        cases x with
        | lock y => rfl
        | axis y ws => simp only [commandFlow_eq]; rfl
    · show (s.takeRun st true).todo ++ [Task.pass] = _
      rw [takeRun_todo, htodo]
      rfl
    · exact fixed_finish_of rfl
    · exact takeRun_aeu st true s
    · exact takeRun_ost st true s
    · exact takeRun_ldu st true s
    · exact takeRun_adu st true s

end Sys2Proof.Machine
end

section
namespace Sys2Proof.Machine

/-! ### What AEU and CEV take of a pump's change (R37, R38, R56) -/

/-- What AEU logs of a pump's change: the event, then the raise or the clear of PUMP_FAULT. -/
def State.logPump (i : Nat) (was st : PumpState) (cause : Option PumpCause) (s : State) : State :=
  let s1 := s.event (.pumpState i st (if st == .faulted then cause else none))
  if st == .faulted then s1.raise .pumpFault i else if was == .faulted then s1.clearAlarm .pumpFault i else s1

section
variable {s : State} {i : Nat} {was st : PumpState} {cause : Option PumpCause}

theorem recordPump_eq (i : Nat) (was st : PumpState) (cause : Option PumpCause) (s : State) : s.recordPump i was st cause = (s.logPump i was st cause).recompute [6] := rfl

theorem logPump_kept (i : Nat) (was st : PumpState) (cause : Option PumpCause) (s : State) :
    (s.logPump i was st cause).hpa = s.hpa ∧ (s.logPump i was st cause).cev = s.cev ∧ (s.logPump i was st cause).amu = s.amu := by
  unfold State.logPump
  dsimp only
  split
  · exact ⟨rfl, rfl, rfl⟩
  · split <;> exact ⟨rfl, rfl, rfl⟩

/-- The event of the change, followed by a raise at most. -/
theorem logPump_logged (i : Nat) (was st : PumpState) (cause : Option PumpCause) (s : State) :
    ∃ es, s.aeu.Logged (s.logPump i was st cause).aeu (.pumpState i st (if st == .faulted then cause else none) :: es) ∧ es.length ≤ 1 := by
  unfold State.logPump
  generalize (if st == .faulted then cause else none) = c
  have hrec := (Aeu.Logged.record s.aeu (.pumpState i st c)).remake
  dsimp only
  split
  · obtain ⟨es, he, hn, -⟩ := Aeu.LoggedRaises.raise (s.event (.pumpState i st c)).aeu .pumpFault i
    exact ⟨es, (hrec.trans he).remake, hn⟩
  · split
    · exact ⟨[], (hrec.trans (Aeu.Logged.clear _ .pumpFault i)).remake, Nat.zero_le 1⟩
    · exact ⟨[], hrec, Nat.zero_le 1⟩

theorem recordPump_event (i : Nat) (was st : PumpState) (cause : Option PumpCause) (s : State) :
    ∃ r ∈ (s.recordPump i was st cause).aeu.events, r.event = .pumpState i st (if st == .faulted then cause else none) := by
  obtain ⟨es, hes, hlen⟩ := logPump_logged i was st cause s
  obtain ⟨fs, hfs, hlen', -⟩ := recompute_logged [6] (s.logPump i was st cause)
  exact (hes.trans hfs).mem_events (by simp; omega) (List.mem_append_left _ (List.mem_cons_self ..))

/-- An entry to FAULTED raises PUMP_FAULT, which the closure supervision of the recompute leaves (R56, R164). -/
theorem recordPump_raised (hf : st = .faulted) (h : s.aeu.NotAcked .pumpFault i) : (s.recordPump i was st cause).aeu.Raised .pumpFault i := by
  have hraise : (s.logPump i was st cause).aeu.Stands .pumpFault i := by
    subst hf
    have hm : (s.event (.pumpState i .faulted cause)).aeu.NotAcked .pumpFault i := (Aeu.notAcked_lasting False _ _).event h _
    exact (Aeu.stands_lasting False (by decide) i).remake (Aeu.raise_stands hm)
  exact ((Aeu.stands_lasting _ (by decide) i).recompute hraise [6]).raised

/-- PUMPS_AVAILABLE follows the pumps (R38). -/
theorem recordPump_condition (hs : s.cev.started = true) (hn : s.cev.conds.length = 32) :
    (s.recordPump i was st cause).cond 6 = Tri.ofBool (s.hpa.pumps.any (fun e => e.2.state != .faulted)) := by
  obtain ⟨hhpa, hcev, -⟩ := logPump_kept i was st cause s
  rw [recordPump_eq, cond_recompute, if_pos ⟨by rw [hcev]; exact hs, by simp, by rw [hcev, hn]; decide⟩]
  show Tri.ofBool ((s.logPump i was st cause).hpa.pumps.any (fun e => e.2.state != .faulted)) = _
  rw [hhpa]

end

/-! ### A pump's change of state (R55, R56) -/

/-- A pump's new record, its contactor and the drop leave everything but HPA, the contactors and the reports. -/
theorem enterPump_drop (i : Nat) (q : Pump) (s : State) : ∃ h cs ts, (s.enterPump i q).capacityDrop =
    { s with hpa := h, ost := { s.ost with contactors := cs }, todo := s.todo ++ ts } := by
  obtain ⟨cs, hc⟩ := contactor_shape i (q.state == .starting || q.state == .running) { s with hpa := { s.hpa with pumps := tput s.hpa.pumps i q } }
  obtain ⟨ts, hd⟩ := capacityDrop_eq (s.enterPump i q)
  rw [hd, State.enterPump, hc]
  exact ⟨_, cs, ts, rfl⟩

/-- A contactor switched off is off. -/
theorem contactorOn_contactor_off (i : Nat) (s : State) : (s.contactor i false).contactorOn i = false := by
  show (lmod s.ost.contactors i (fun _ => false)).getD i false = false
  rw [List.getD_eq_getElem?_getD, getElem?_lmod_self]
  cases s.ost.contactors[i]? <;> rfl

/-- A contactor that is off stays off when another one or its own is switched off. -/
theorem contactorOn_contactor_of_off {s : State} {j : Nat} (h : s.contactorOn j = false) (i : Nat) : (s.contactor i false).contactorOn j = false := by
  by_cases hij : i = j
  · rw [hij]
    exact contactorOn_contactor_off j s
  · show (lmod s.ost.contactors i (fun _ => false)).getD j false = false
    rw [List.getD_eq_getElem?_getD, getElem?_lmod_of_ne _ _ hij, ← List.getD_eq_getElem?_getD]
    exact h

/-- The change of a pump's state (R55, R56): its record, its contactor where it faults, the drop, the event and the alarm, c6, and a grant pass to follow. -/
structure State.PumpChanged (s e : State) (i : Nat) (p : Pump) (st : PumpState) (cause : Option PumpCause) (runDown : Option Nat) : Prop where
  pump      : tget e.hpa.pumps i = some { p with state := st, cause := cause, start := none, runDown := runDown }
  others    : ∀ k, k ≠ i → tget e.hpa.pumps k = tget s.hpa.pumps k
  within    : e.hpa.Within
  pass      : e.todo.getLast? = some .pass
  event     : ∃ r ∈ e.aeu.events, r.event = .pumpState i st cause
  contactor : st = .faulted → e.contactorOn i = false
  alarm     : st = .faulted → s.aeu.NotAcked .pumpFault i → e.aeu.Raised .pumpFault i
  condition : s.cev.started = true → s.cev.conds.length = 32 → e.cond 6 = if e.hpa.pumps.any (fun p => p.2.state != .faulted) then .yes else .no
  rest      : e.pmn = s.pmn ∧ e.ldu = s.ldu ∧ e.adu = s.adu ∧ e.osq = s.osq
  fixed     : e.fixed = s.fixed

section
variable {s : State} {i : Nat} {p : Pump} {st : PumpState} {cause : Option PumpCause} {runDown : Option Nat}

theorem setPump_last (h : tget s.hpa.pumps i = some p) (hst : st ≠ .starting) : s.setPump i st cause runDown =
    emit .pass ((s.enterPump i (p.enter st cause runDown)).capacityDrop.recordPump i p.state st cause) := by
  rw [setPump_eq h]
  exact if_neg (by simpa using hst)

/-- The contactors after a change are those that the pump's own switching leaves. -/
theorem setPump_contactors (h : tget s.hpa.pumps i = some p) :
    (s.setPump i st cause runDown).ost.contactors = (s.enterPump i (p.enter st cause runDown)).ost.contactors := by
  obtain ⟨-, -, -, -, -, -, hc⟩ := State.units_eq (setPump_acts h st cause runDown).units
  obtain ⟨ts, hd⟩ := capacityDrop_eq (s.enterPump i (p.enter st cause runDown))
  rw [hc, hd]

/-- A pump that leaves work has its contactor off, and no contactor is closed. -/
theorem setPump_contactorOn_off (h : tget s.hpa.pumps i = some p) (hst : st = .faulted ∨ st = .stopped) :
    (s.setPump i st cause runDown).contactorOn i = false ∧
      ∀ j, s.contactorOn j = false → (s.setPump i st cause runDown).contactorOn j = false := by
  have hc := setPump_contactors (st := st) (cause := cause) (runDown := runDown) h
  have he : s.enterPump i (p.enter st cause runDown) =
      State.contactor i false { s with hpa := { s.hpa with pumps := tput s.hpa.pumps i (p.enter st cause runDown) } } := by
    rcases hst with rfl | rfl <;> rfl
  rw [he] at hc
  constructor
  · rw [State.contactorOn, hc]
    exact contactorOn_contactor_off i _
  · intro j hj
    rw [State.contactorOn, hc]
    exact contactorOn_contactor_of_off hj i

theorem setPump_rest (h : tget s.hpa.pumps i = some p) : (s.setPump i st cause runDown).ldu = s.ldu ∧ (s.setPump i st cause runDown).adu = s.adu ∧
    (s.setPump i st cause runDown).osq = s.osq ∧ (s.setPump i st cause runDown).ost.coils = s.ost.coils ∧
    (s.setPump i st cause runDown).ost.props = s.ost.props ∧ (s.setPump i st cause runDown).pmn = s.pmn ∧ (s.setPump i st cause runDown).fixed = s.fixed := by
  obtain ⟨h0, cs, ts, hd⟩ := enterPump_drop i (p.enter st cause runDown) s
  have hacts := setPump_acts h st cause runDown
  have hpmn : (s.setPump i st cause runDown).pmn = (s.enterPump i (p.enter st cause runDown)).capacityDrop.pmn := by
    rw [setPump_eq h]
    dsimp only
    split
    · exact recordPump_pmn _ _ _ _ _
    · exact recordPump_pmn _ _ _ _ _
  obtain ⟨-, hl, ha, ho, hco, hpr, -⟩ := State.units_eq hacts.units
  rw [hl, ha, ho, hco, hpr, hpmn, hacts.fixed, hd]
  exact ⟨rfl, rfl, rfl, rfl, rfl, rfl, rfl⟩

/-- A present pump changes state as R55 and R56 say. -/
theorem setPump_changed (h : tget s.hpa.pumps i = some p) (hst : st ≠ .starting) (hc : st = .faulted ∨ cause = none) :
    s.PumpChanged (s.setPump i st cause runDown) i p st cause runDown := by
  have hpumps := setPump_pumps h st cause runDown
  have hwithin := setPump_within h st cause runDown
  have hcause : (if st == .faulted then cause else none) = cause := by
    rcases hc with rfl | rfl
    · rfl
    · split <;> rfl
  have hstart : (if st == .starting then some p.startTime else none) = none := if_neg (by simpa using hst)
  obtain ⟨hl, ha, ho, -, -, hpmn, hfix⟩ := setPump_rest (st := st) (cause := cause) (runDown := runDown) h
  obtain ⟨h0, cs, ts, hd⟩ := enterPump_drop i (p.enter st cause runDown) s
  have hhpa := setPump_hpa h st cause runDown
  have hlast := setPump_last (cause := cause) (runDown := runDown) h hst
  refine ⟨?_, fun k hk => ?_, hwithin, ?_, ?_, fun hf => ?_, fun hf hn => ?_, fun hs hn => ?_, ⟨hpmn, hl, ha, ho⟩, hfix⟩
  · rw [hpumps, tget_tput_self, Pump.enter, hstart]
  · rw [hpumps, tget_tput_of_ne _ _ (Ne.symm hk)]
  · rw [hlast]
    exact List.getLast?_concat
  · have hev := recordPump_event i p.state st cause (s.enterPump i (p.enter st cause runDown)).capacityDrop
    rw [hcause] at hev
    rw [hlast]
    exact hev
  · exact (setPump_contactorOn_off h (.inl hf)).1
  · rw [hlast]
    exact recordPump_raised hf (by rw [hd]; exact hn)
  · rw [hhpa, hlast]
    exact recordPump_condition (by rw [hd]; exact hs) (by rw [hd]; exact hn)

end

/-! ### Feedback and timers of a pump (R54, R55) -/

/-- A pump's feedback, entered in its record. -/
def State.heard (i : Nat) (p : Pump) (on : Bool) (s : State) : State :=
  { s with hpa := { s.hpa with pumps := tput s.hpa.pumps i { p with feedback := on } } }

section
variable {s : State} {i : Nat} {p : Pump} {on : Bool}

theorem tget_heard (i : Nat) (p : Pump) (on : Bool) (s : State) : tget (s.heard i p on).hpa.pumps i = some { p with feedback := on } := tget_tput_self _ _ _

/-- The change of a pump told of the state before its feedback was entered. -/
theorem State.PumpChanged.of_heard {e : State} {q : Pump} {st : PumpState} {cause : Option PumpCause} {runDown : Option Nat}
    (h : (s.heard i p on).PumpChanged e i q st cause runDown) : s.PumpChanged e i q st cause runDown :=
  { h with others := fun k hk => (h.others k hk).trans (tget_tput_of_ne _ _ (Ne.symm hk)) }

theorem heard_changed {st : PumpState} {cause : Option PumpCause} {runDown : Option Nat} (hst : st ≠ .starting) (hc : st = .faulted ∨ cause = none) :
    s.PumpChanged ((s.heard i p on).setPump i st cause runDown) i { p with feedback := on } st cause runDown :=
  (setPump_changed (tget_heard i p on s) hst hc).of_heard

theorem pumpFeedback_stopped (h : tget s.hpa.pumps i = some p) (hs : p.state = .stopped) (hr : p.runDown = none) :
    s.pumpFeedback i true = (s.heard i p true).setPump i .faulted (some .contactorFault) none := by
  obtain ⟨_, _, st, _, _, rd, _⟩ := p
  obtain rfl : st = .stopped := hs
  obtain rfl : rd = none := hr
  simp only [State.pumpFeedback, h]
  rfl

theorem pumpFeedback_starting (h : tget s.hpa.pumps i = some p) (hs : p.state = .starting) :
    s.pumpFeedback i true = (s.heard i p true).setPump i .running none none := by
  obtain ⟨_, _, st, _, _, _, _⟩ := p
  obtain rfl : st = .starting := hs
  simp only [State.pumpFeedback, h]
  rfl

theorem pumpFeedback_tripped (h : tget s.hpa.pumps i = some p) (hs : p.state = .running) (hc : s.contactorOn i = true) :
    s.pumpFeedback i false = (s.heard i p false).setPump i .faulted (some .tripped) none := by
  obtain ⟨_, _, st, _, _, _, _⟩ := p
  obtain rfl : st = .running := hs
  simp only [State.pumpFeedback, h]
  exact if_pos hc

theorem pumpFeedback_ran (h : tget s.hpa.pumps i = some p) (hs : p.state = .running) (hc : s.contactorOn i = false) :
    s.pumpFeedback i false = (s.heard i p false).setPump i .stopped none (some 10) := by
  obtain ⟨_, _, st, _, _, _, _⟩ := p
  obtain rfl : st = .running := hs
  simp only [State.pumpFeedback, h]
  exact if_neg (by simp [hc])

/-- Feedback that the table of R55 does not list is entered and no more. -/
theorem pumpFeedback_unlisted (h : tget s.hpa.pumps i = some p) (hu : p.state = .faulted ∨ (p.state = .running ∧ on = true) ∨ (p.state = .starting ∧ on = false) ∨
    (p.state = .stopped ∧ (on = false ∨ p.runDown ≠ none))) : s.pumpFeedback i on = s.heard i p on := by
  obtain ⟨_, _, st, _, _, rd, _⟩ := p
  simp only [State.pumpFeedback, h]
  rcases hu with hs | ⟨hs, rfl⟩ | ⟨hs, rfl⟩ | ⟨hs, rfl | hr⟩
  · obtain rfl : st = .faulted := hs
    rfl
  · obtain rfl : st = .running := hs
    rfl
  · obtain rfl : st = .starting := hs
    rfl
  · obtain rfl : st = .stopped := hs
    rfl
  · obtain rfl : st = .stopped := hs
    cases on with
    | false => rfl
    | true => exact if_neg (by simpa using hr)

theorem startExpiry_late (h : tget s.hpa.pumps i = some p) (hs : p.state = .starting) (ht : p.start ≠ none) (hf : p.feedback = false) :
    s.startExpiry i = s.setPump i .faulted (some .noStart) none := by
  simp [State.startExpiry, h, hs, Option.isSome_iff_ne_none.2 ht, hf]

theorem startExpiry_other (h : tget s.hpa.pumps i = some p) (hn : p.state ≠ .starting ∨ p.start = none ∨ p.feedback = true) : s.startExpiry i = s := by
  simp only [State.startExpiry, h]
  refine if_neg ?_
  rcases hn with hn | hn | hn <;> simp [hn]

theorem runDownExpiry_welded (h : tget s.hpa.pumps i = some p) (hs : p.state = .stopped) (ht : p.runDown ≠ none) (hf : p.feedback = true) :
    s.runDownExpiry i = s.setPump i .faulted (some .contactorFault) none := by
  simp [State.runDownExpiry, h, hs, Option.isSome_iff_ne_none.2 ht, hf]

theorem runDownExpiry_over (h : tget s.hpa.pumps i = some p) (hs : p.state = .stopped) (ht : p.runDown ≠ none) (hf : p.feedback = false) :
    s.runDownExpiry i = emit .pass { s with hpa := { s.hpa with pumps := tput s.hpa.pumps i { p with runDown := none } } } := by
  simp [State.runDownExpiry, h, hs, Option.isSome_iff_ne_none.2 ht, hf]

theorem runDownExpiry_other (h : tget s.hpa.pumps i = some p) (hn : p.state ≠ .stopped ∨ p.runDown = none) : s.runDownExpiry i = s := by
  simp only [State.runDownExpiry, h]
  refine if_neg ?_
  rcases hn with hn | hn <;> simp [hn]

end

/-! ### The idle timer (R60) -/

/-- A pump that HPA has stopped: its run-down of 1.0 s runs. -/
def Pump.halted (p : Pump) : Pump := { p with state := .stopped, cause := none, start := none, runDown := some 10 }

/-- From `s` to `e` HPA has stopped pumps that worked, and no contactor has closed (R55, R60). -/
structure State.PumpsStop (s e : State) : Prop where
  pumps      : ∀ i, tget e.hpa.pumps i = tget s.hpa.pumps i ∨
    ∃ p, p.working = true ∧ tget s.hpa.pumps i = some p ∧ tget e.hpa.pumps i = some p.halted ∧ e.contactorOn i = false
  contactors : ∀ i, s.contactorOn i = false → e.contactorOn i = false
  rest       : e.pmn = s.pmn ∧ e.ldu = s.ldu ∧ e.adu = s.adu ∧ e.osq = s.osq ∧ e.ost.coils = s.ost.coils ∧ e.ost.props = s.ost.props ∧ e.fixed = s.fixed

theorem State.PumpsStop.refl (s : State) : s.PumpsStop s := ⟨fun _ => .inl rfl, fun _ h => h, rfl, rfl, rfl, rfl, rfl, rfl, rfl⟩

theorem State.PumpsStop.trans {s m e : State} (h : s.PumpsStop m) (k : m.PumpsStop e) : s.PumpsStop e where
  pumps i := by
    rcases h.pumps i with hh | ⟨p, hp, hs, hm, hc⟩
    · rw [← hh]
      exact k.pumps i
    · rcases k.pumps i with hk | ⟨q, hq, hm', -, -⟩
      · exact .inr ⟨p, hp, hs, hk.trans hm, k.contactors i hc⟩
      · rw [hm] at hm'
        cases hm'
        cases hq
  contactors i hi := k.contactors i (h.contactors i hi)
  rest := by
    obtain ⟨h1, h2, h3, h4, h5, h6, h7⟩ := h.rest
    obtain ⟨k1, k2, k3, k4, k5, k6, k7⟩ := k.rest
    exact ⟨k1.trans h1, k2.trans h2, k3.trans h3, k4.trans h4, k5.trans h5, k6.trans h6, k7.trans h7⟩

/-- A pump does not work. -/
def State.pumpIdle (s : State) (i : Nat) : Prop := ∀ p, tget s.hpa.pumps i = some p → p.working = false

/-- A pump that does not work stays so while others are stopped. -/
theorem State.PumpsStop.pumpIdle {s e : State} (h : s.PumpsStop e) {i : Nat} (hi : s.pumpIdle i) : e.pumpIdle i := by
  intro q hq
  rcases h.pumps i with hh | ⟨p, -, -, he, -⟩
  · exact hi q (hh ▸ hq)
  · rw [he] at hq
    cases hq
    rfl

section
variable {s : State} {i : Nat}

theorem stopPump_working {p : Pump} (h : tget s.hpa.pumps i = some p) (hw : p.working = true) : s.stopPump i = s.setPump i .stopped none (some 10) := by
  simp only [State.stopPump, h]
  exact if_pos hw

theorem stopPump_idle (h : s.pumpIdle i) : s.stopPump i = s := by
  unfold State.stopPump
  split
  · rename_i p hp
    exact if_neg (by simp [h p hp])
  · rfl

theorem stopPump_stops (i : Nat) (s : State) : s.PumpsStop (s.stopPump i) ∧ (s.stopPump i).pumpIdle i := by
  by_cases hi : s.pumpIdle i
  · rw [stopPump_idle hi]
    exact ⟨.refl s, hi⟩
  · obtain ⟨p, hp, hw⟩ : ∃ p, tget s.hpa.pumps i = some p ∧ p.working = true := by simpa [State.pumpIdle] using hi
    have hch := setPump_changed (cause := none) (runDown := some 10) hp (by decide : PumpState.stopped ≠ .starting) (.inr rfl)
    obtain ⟨hoff, hoffs⟩ := setPump_contactorOn_off (cause := none) (runDown := some 10) hp (.inr rfl : PumpState.stopped = .faulted ∨ _)
    obtain ⟨hl, ha, ho, hco, hpr, hpmn, hfix⟩ := setPump_rest (st := .stopped) (cause := none) (runDown := some 10) hp
    rw [stopPump_working hp hw]
    refine ⟨⟨fun k => ?_, hoffs, hpmn, hl, ha, ho, hco, hpr, hfix⟩, fun q hq => ?_⟩
    · by_cases hk : k = i
      · subst hk
        exact .inr ⟨p, hw, hp, hch.pump, hoff⟩
      · exact .inl (hch.others k hk)
    · rw [hch.pump] at hq
      cases hq
      rfl

/-- Every pump of the list has stopped. -/
theorem foldl_stopPump (l : List Nat) (s : State) : s.PumpsStop (l.foldl (fun x i => x.stopPump i) s) ∧
    ∀ i ∈ l, (l.foldl (fun x i => x.stopPump i) s).pumpIdle i := by
  induction l generalizing s with
  | nil => exact ⟨.refl s, fun _ h => nomatch h⟩
  | cons j l ih =>
    obtain ⟨hstep, hidle⟩ := stopPump_stops j s
    obtain ⟨hrest, hall⟩ := ih (s.stopPump j)
    refine ⟨hstep.trans hrest, fun i hi => ?_⟩
    rcases List.mem_cons.1 hi with rfl | hi
    · exact hrest.pumpIdle hidle
    · exact hall i hi

/-- HPA stops its pumps: those that worked run down with their contactors off, the others are left (R60). -/
theorem stopPumps_stops (s : State) : s.PumpsStop s.stopPumps ∧ ∀ i, s.stopPumps.pumpIdle i := by
  obtain ⟨hstop, hall⟩ := foldl_stopPump (s.hpa.pumps.map (fun e => e.1)) s
  refine ⟨hstop, fun i q hq => ?_⟩
  rcases hstop.pumps i with hh | ⟨p, -, hs, -⟩
  · have hmem := mem_of_tget (hh ▸ hq : tget s.hpa.pumps i = some q)
    exact hall i (List.mem_map.2 ⟨(i, q), hmem, rfl⟩) q hq
  · exact hall i (List.mem_map.2 ⟨(i, p), mem_of_tget hs, rfl⟩) q hq

theorem working_iff (p : Pump) : p.working = true ↔ p.state = .running ∨ p.state = .starting := by simp [Pump.working]

end

/-- A change of state as the obligation writes it. -/
theorem State.PumpChanged.parts {s e : State} {i : Nat} {q : Pump} {st : PumpState} {cause : Option PumpCause} {runDown : Option Nat}
    (h : s.PumpChanged e i q st cause runDown) :
    tget e.hpa.pumps i = some { q with state := st, cause := cause, start := none, runDown := runDown } ∧
      (∀ k, k ≠ i → tget e.hpa.pumps k = tget s.hpa.pumps k) ∧ e.hpa.Within ∧ e.todo.getLast? = some .pass ∧
      (∃ r ∈ e.aeu.events, r.event = .pumpState i st cause) ∧ (st = .faulted → e.contactorOn i = false) ∧
      (st = .faulted → s.aeu.NotAcked .pumpFault i → e.aeu.Raised .pumpFault i) ∧
      (s.cev.started = true → s.cev.conds.length = 32 → e.cond 6 = if e.hpa.pumps.any (fun p => p.2.state != .faulted) then .yes else .no) ∧
      e.pmn = s.pmn ∧ e.ldu = s.ldu ∧ e.adu = s.adu ∧ e.osq = s.osq ∧ (finish e).fixed = s.fixed := by
  obtain ⟨hpmn, hl, ha, ho⟩ := h.rest
  exact ⟨h.pump, h.others, h.within, h.pass, h.event, h.contactor, h.alarm, h.condition, hpmn, hl, ha, ho, fixed_finish_of h.fixed⟩

/-- Settles O43: the rows of R55's table, each a change of the pump's state or none, and the idle timer's stop of every working pump. -/
theorem pumpsFollowTheirTable : Obligations.PumpsFollowTheirTable := by
  refine ⟨fun i s hs => ⟨fun q hq => ⟨fun h1 h2 h3 => ?_, fun h => ?_, fun h1 h2 h3 => ?_, fun h1 h2 h3 => ?_, fun h => ?_, fun h1 h2 => ?_, fun h1 => ?_,
    fun h1 h2 => ?_, fun h1 h2 => ?_, fun on h => pumpFeedback_unlisted hq h⟩, fun hq => ⟨exec_act_same hs ?_, exec_act_same hs ?_⟩⟩,
    fun s hs => ⟨fun h => exec_act_same hs ?_, fun h => ⟨s.stopPumps, ?_, fun i q hq => ⟨fun hw => ?_, fun hw => ?_⟩, ?_⟩⟩⟩
  · refine ⟨s.startExpiry i, exec_act hs _, ?_⟩
    rw [startExpiry_late hq h1 h2 h3]
    exact (setPump_changed hq (by decide) (.inl rfl)).parts
  · exact exec_act_same hs (startExpiry_other hq h)
  · refine ⟨s.runDownExpiry i, exec_act hs _, ?_⟩
    rw [runDownExpiry_welded hq h1 h2 h3]
    exact (setPump_changed hq (by decide) (.inl rfl)).parts
  · exact (exec_act hs _).trans (congrArg (fun x => Host.Outcome.next (finish x)) (runDownExpiry_over hq h1 h2 h3))
  · exact exec_act_same hs (runDownExpiry_other hq h)
  · rw [pumpFeedback_stopped hq h1 h2]
    exact (heard_changed (by decide) (.inl rfl)).parts
  · rw [pumpFeedback_starting hq h1]
    exact (heard_changed (by decide) (.inr rfl)).parts
  · rw [pumpFeedback_tripped hq h1 h2]
    exact (heard_changed (by decide) (.inl rfl)).parts
  · rw [pumpFeedback_ran hq h1 h2]
    exact (heard_changed (by decide) (.inr rfl)).parts
  · simp [State.startExpiry, hq]
  · simp [State.runDownExpiry, hq]
  · simp [State.idleOut, h]
  · exact (exec_act hs _).trans (congrArg (fun x => Host.Outcome.next (finish x)) (if_pos (Option.isSome_iff_ne_none.2 h)))
  all_goals obtain ⟨hstop, hidle⟩ := stopPumps_stops s
  · rcases hstop.pumps i with he | ⟨p, -, hp, he, hc⟩
    · have hno := hidle i q (he.trans hq)
      rw [(working_iff q).2 hw] at hno
      cases hno
    · rw [hq] at hp
      cases hp
      exact ⟨he, hc⟩
  · rcases hstop.pumps i with he | ⟨p, hwork, hp, -, -⟩
    · exact he.trans hq
    · rw [hq] at hp
      cases hp
      rcases (working_iff q).1 hwork with h1 | h1 <;> rcases hw with h2 | h2 <;> rw [h1] at h2 <;> cases h2
  · obtain ⟨h1, h2, h3, h4, h5, h6, h7⟩ := hstop.rest
    exact ⟨h1, h2, h3, h4, h5, h6, fixed_finish_of h7⟩

end Sys2Proof.Machine
end

section
namespace Sys2Proof.Machine

/-! ### The walk order (R64, R65) -/

/-- A TRAVEL entry that has been passed over `K` times or more is promoted; no entry is while `K` is 0 (R65). -/
def Request.promoted (K : Nat) (r : Request) : Bool := r.cls == .travel && K != 0 && decide (r.passed ≥ K)

theorem walkOrder_eq (K : Nat) (rs : List Request) : walkOrder K rs =
    rs.filter (Request.promoted K) ++ rs.filter (fun r => r.cls == .locking) ++ rs.filter (fun r => r.cls == .travel && !Request.promoted K r) := rfl

theorem promoted_iff {K : Nat} {r : Request} : r.promoted K = true ↔ r.cls = .travel ∧ K ≠ 0 ∧ K ≤ r.passed := by simp [Request.promoted, and_assoc]

theorem unpromoted_iff {K : Nat} {r : Request} : (r.cls == .travel && !r.promoted K) = true ↔ r.cls = .travel ∧ (K = 0 ∨ r.passed < K) := by
  cases hc : r.cls
  · simp
  · simp [Request.promoted, hc]

/-- The walk order takes every entry of the list once. -/
theorem walkOrder_perm (K : Nat) (rs : List Request) : (walkOrder K rs).Perm rs := by
  have hlock : (rs.filter (fun r => !Request.promoted K r)).filter (fun r => r.cls == .locking) = rs.filter (fun r => r.cls == .locking) := by
    rw [List.filter_filter]
    refine List.filter_congr fun r _ => ?_
    cases hc : r.cls <;> simp [Request.promoted, hc]
  have htravel : (rs.filter (fun r => !Request.promoted K r)).filter (fun r => !(r.cls == .locking)) =
      rs.filter (fun r => r.cls == .travel && !Request.promoted K r) := by
    rw [List.filter_filter]
    refine List.filter_congr fun r _ => ?_
    cases hc : r.cls <;> simp
  have hrest := List.filter_append_perm (fun r : Request => r.cls == .locking) (rs.filter (fun r => !Request.promoted K r))
  rw [hlock, htravel] at hrest
  rw [walkOrder_eq, List.append_assoc]
  exact (hrest.append_left _).trans (List.filter_append_perm (Request.promoted K) rs)

/-! ### Requests and grants entered by their stamp -/

theorem find?_insertGrant_other {g : Grant} {m : Nat} (h : g.motion ≠ m) (gs : List Grant) :
    (insertGrant g gs).find? (fun x => x.motion == m) = gs.find? (fun x => x.motion == m) := by
  have hg : (g.motion == m) = false := by simpa using h
  induction gs with
  | nil => simp [insertGrant, hg]
  | cons x xs ih =>
    rw [insertGrant]
    split
    · rw [List.find?_cons, hg]
    · rw [List.find?_cons, List.find?_cons, ih]

theorem find?_insertGrant_self {g : Grant} {gs : List Grant} (h : ∀ x ∈ gs, x.motion ≠ g.motion) :
    (insertGrant g gs).find? (fun x => x.motion == g.motion) = some g := by
  induction gs with
  | nil => simp [insertGrant]
  | cons x xs ih =>
    have hx : (x.motion == g.motion) = false := by simpa using h x (List.mem_cons_self ..)
    rw [insertGrant]
    split
    · simp
    · rw [List.find?_cons, hx]
      exact ih fun y hy => h y (List.mem_cons_of_mem _ hy)

theorem mem_insertRequest {r x : Request} {rs : List Request} : x ∈ insertRequest r rs ↔ x = r ∨ x ∈ rs := (insertRequest_perm r rs).mem_iff.trans List.mem_cons

/-- The list stands in stamp order. -/
def StampOrder (rs : List Request) : Prop := rs.Pairwise (fun a b => a.stamp.toNat ≤ b.stamp.toNat)

theorem StampOrder.insertRequest {rs : List Request} (h : StampOrder rs) (r : Request) : StampOrder (insertRequest r rs) := by
  induction rs with
  | nil => exact List.pairwise_singleton _ _
  | cons x xs ih =>
    obtain ⟨hx, hxs⟩ := List.pairwise_cons.1 h
    rw [Machine.insertRequest]
    split
    · rename_i hlt
      refine List.pairwise_cons.2 ⟨fun y hy => ?_, h⟩
      rcases List.mem_cons.1 hy with rfl | hy
      · exact Nat.le_of_lt hlt
      · exact Nat.le_trans (Nat.le_of_lt hlt) (hx y hy)
    · rename_i hge
      refine List.pairwise_cons.2 ⟨fun y hy => ?_, ih hxs⟩
      rcases mem_insertRequest.1 hy with rfl | hy
      · exact Nat.le_of_not_lt hge
      · exact hx y hy

section
variable (wait : Nat) (gs : List Grant)

theorem mem_foldl_again (rs : List Request) (r : Request) :
    r ∈ gs.foldl (fun rs g => insertRequest (g.again wait) rs) rs ↔ r ∈ rs ∨ ∃ g ∈ gs, r = g.again wait := by
  induction gs generalizing rs with
  | nil => simp
  | cons g gs ih =>
    rw [List.foldl_cons, ih, mem_insertRequest, List.exists_mem_cons_iff]
    tauto

theorem stampOrder_foldl_again {rs : List Request} (h : StampOrder rs) : StampOrder (gs.foldl (fun rs g => insertRequest (g.again wait) rs) rs) := by
  induction gs generalizing rs with
  | nil => exact h
  | cons g gs ih => exact ih (h.insertRequest _)

end

/-! ### The pass, entry by entry (R64, R65) -/

/-- The grant that an entry gets. -/
def Request.granted (flow : Nat) (r : Request) : Grant :=
  { motion := r.motion, cls := r.cls, flow := flow, requested := r.requested, minimum := r.minimum, stamp := r.stamp }

/-- A TRAVEL entry that `n` more LOCKING grants have passed over (R65). -/
def Request.passedOver (n : Nat) (r : Request) : Request := if r.cls = .travel then { r with passed := min (r.passed + n) 255 } else r

theorem passedOver_motion (n : Nat) (r : Request) : (r.passedOver n).motion = r.motion := by
  unfold Request.passedOver
  split <;> rfl

theorem passedOver_zero {r : Request} (h : r.passed ≤ 255) : r.passedOver 0 = r := by
  unfold Request.passedOver
  split
  · rw [Nat.add_zero, Nat.min_eq_left h]
  · rfl

theorem passedOver_le {r : Request} (h : r.passed ≤ 255) (n : Nat) : (r.passedOver n).passed ≤ 255 := by
  unfold Request.passedOver
  split
  · exact Nat.min_le_right _ _
  · exact h

theorem passedOver_passedOver (n m : Nat) (r : Request) : (r.passedOver n).passedOver m = r.passedOver (n + m) := by
  by_cases h : r.cls = .travel
  · simp only [Request.passedOver, h, if_true, Request.mk.injEq, true_and, and_true]
    omega
  · simp [Request.passedOver, h]

section
variable (r : Request) (flow : Nat) (h : Hpa)

theorem grant_grants : (h.grant r flow).grants = insertGrant (r.granted flow) h.grants := rfl

/-- A grant takes its entry from the list; a LOCKING one passes over what stays. -/
theorem grant_requests : (h.grant r flow).requests =
    (h.requests.filter (fun x => x.motion != r.motion)).map (if r.cls = .locking then Request.passedOver 1 else id) := by
  have hover : (fun x : Request => if x.cls == .travel then { x with passed := min (x.passed + 1) 255 } else x) = Request.passedOver 1 := by
    funext x
    simp [Request.passedOver]
  simp only [Hpa.grant]
  rw [hover]
  by_cases hl : r.cls = .locking <;> simp [hl]

theorem grant_grantOf_other {m : Nat} (hm : r.motion ≠ m) : (h.grant r flow).grantOf m = h.grantOf m := find?_insertGrant_other hm _

theorem grant_grantOf_self (hn : ∀ g ∈ h.grants, g.motion ≠ r.motion) : (h.grant r flow).grantOf r.motion = some (r.granted flow) :=
  find?_insertGrant_self (g := r.granted flow) hn

end

theorem fits_none {r : Request} {free : Nat} (h : r.fits free = none) : (r.cls = .locking → free < r.requested) ∧ (r.cls = .travel → free < r.minimum) := by
  unfold Request.fits at h
  split at h
  · rename_i hc
    have : ¬ r.requested ≤ free := fun hle => by rw [if_pos hle] at h; cases h
    exact ⟨fun _ => by omega, fun ht => by rw [hc] at ht; cases ht⟩
  · rename_i hc
    have : ¬ r.minimum ≤ free := fun hle => by rw [if_pos hle] at h; cases h
    exact ⟨fun ht => (by rw [hc] at ht; cases ht), fun _ => by omega⟩

theorem fits_some {r : Request} {free flow : Nat} (h : r.fits free = some flow) :
    (r.cls = .locking → r.requested ≤ free ∧ flow = r.requested) ∧ (r.cls = .travel → r.minimum ≤ free ∧ flow = min r.requested free) := by
  unfold Request.fits at h
  split at h
  · rename_i hc
    split at h
    · cases h
      exact ⟨fun _ => ⟨by assumption, rfl⟩, fun ht => by rw [hc] at ht; cases ht⟩
    · cases h
  · rename_i hc
    split at h
    · cases h
      exact ⟨fun ht => (by rw [hc] at ht; cases ht), fun _ => ⟨by assumption, rfl⟩⟩
    · cases h

/-- The entries granted are the first of the walk. -/
theorem passGo_motions (rs : List Request) (h : Hpa) : (passGo rs h).2.1 = (rs.take (passGo rs h).2.1.length).map (fun r => r.motion) := by
  induction rs generalizing h with
  | nil => rfl
  | cons r rs ih =>
    cases hf : r.fits h.freeFlow with
    | none => rw [passGo_stops hf]; rfl
    | some flow =>
      rw [passGo_grants hf, List.length_cons, List.take_succ_cons, List.map_cons, ← ih]

/-- The pass ends at the entry after those granted. -/
theorem passGo_ended (rs : List Request) (h : Hpa) : (passGo rs h).2.2 = rs[(passGo rs h).2.1.length]? := by
  induction rs generalizing h with
  | nil => rfl
  | cons r rs ih =>
    cases hf : r.fits h.freeFlow with
    | none => rw [passGo_stops hf]; rfl
    | some flow =>
      rw [passGo_grants hf, List.length_cons, List.getElem?_cons_succ]
      exact ih _

/-- The entry at which a pass ends does not fit the free flow. -/
theorem passGo_short {rs : List Request} {h : Hpa} {r : Request} (hr : (passGo rs h).2.2 = some r) : r.fits (passGo rs h).1.freeFlow = none := by
  induction rs generalizing h with
  | nil => cases hr
  | cons q rs ih =>
    cases hf : q.fits h.freeFlow with
    | none =>
      rw [passGo_stops hf] at hr ⊢
      cases hr
      exact hf
    | some flow =>
      rw [passGo_grants hf] at hr ⊢
      exact ih hr

theorem passGo_keeps {g : Grant} (rs : List Request) {h : Hpa} (hg : g ∈ h.grants) : g ∈ (passGo rs h).1.grants := by
  induction rs generalizing h with
  | nil => exact hg
  | cons r rs ih =>
    cases hf : r.fits h.freeFlow with
    | none => rw [passGo_stops hf]; exact hg
    | some flow => rw [passGo_grants hf]; exact ih (mem_insertGrant.2 (.inr hg))

theorem passGo_grantOf_other {m : Nat} (rs : List Request) (h : Hpa) (hm : ∀ r ∈ rs, r.motion ≠ m) : (passGo rs h).1.grantOf m = h.grantOf m := by
  induction rs generalizing h with
  | nil => rfl
  | cons r rs ih =>
    cases hf : r.fits h.freeFlow with
    | none => rw [passGo_stops hf]
    | some flow =>
      rw [passGo_grants hf]
      exact (ih _ fun q hq => hm q (List.mem_cons_of_mem _ hq)).trans (grant_grantOf_other r flow h (hm r (List.mem_cons_self ..)))

/-- Each entry granted gets what fits the free flow at its turn (R64). -/
theorem passGo_flows (rs : List Request) (h : Hpa) (hn : (rs.map (fun r => r.motion)).Nodup) (hg : ∀ r ∈ rs, ∀ g ∈ h.grants, g.motion ≠ r.motion) :
    ∃ flows : List Nat, flows.length = (passGo rs h).2.1.length ∧ ∀ (k : Nat) (r : Request), k < (passGo rs h).2.1.length → rs[k]? = some r →
      ∃ flow, flows[k]? = some flow ∧ r.fits (h.freeFlow - (flows.take k).sum) = some flow ∧ (passGo rs h).1.grantOf r.motion = some (r.granted flow) := by
  induction rs generalizing h with
  | nil => exact ⟨[], rfl, fun _ _ hk => absurd hk (Nat.not_lt_zero _)⟩
  | cons q rs ih =>
    obtain ⟨hq, hrs⟩ := List.nodup_cons.1 hn
    have hne (r : Request) (hr : r ∈ rs) : r.motion ≠ q.motion := fun he => hq (List.mem_map.2 ⟨r, hr, he⟩)
    cases hf : q.fits h.freeFlow with
    | none =>
      rw [passGo_stops hf]
      exact ⟨[], rfl, fun _ _ hk => absurd hk (Nat.not_lt_zero _)⟩
    | some flow =>
      have hg' : ∀ r ∈ rs, ∀ g ∈ (h.grant q flow).grants, g.motion ≠ r.motion := by
        intro r hr g hgm
        rcases mem_insertGrant.1 hgm with rfl | hgm
        · exact (hne r hr).symm
        · exact hg r (List.mem_cons_of_mem _ hr) g hgm
      obtain ⟨flows, hlen, hall⟩ := ih (h.grant q flow) hrs hg'
      rw [passGo_grants hf]
      refine ⟨flow :: flows, by simp [hlen], fun k r hk hr => ?_⟩
      cases k with
      | zero =>
        obtain rfl : q = r := by simpa using hr
        refine ⟨flow, rfl, by simpa using hf, ?_⟩
        exact (passGo_grantOf_other rs _ hne).trans (grant_grantOf_self q flow h (hg q (List.mem_cons_self ..)))
      | succ k =>
        obtain ⟨f, hf1, hf2, hf3⟩ := hall k r (by simpa using hk) (by simpa using hr)
        refine ⟨f, by simpa using hf1, ?_, hf3⟩
        rw [grant_freeFlow, Nat.sub_sub] at hf2
        rw [List.take_succ_cons, List.sum_cons]
        exact hf2

/-- The LOCKING entries among the first of a walk. -/
def lockingsIn (rs : List Request) : Nat := (rs.filter (fun r => r.cls == .locking)).length

theorem lockingsIn_cons (r : Request) (rs : List Request) : lockingsIn (r :: rs) = (if r.cls = .locking then 1 else 0) + lockingsIn rs := by
  unfold lockingsIn
  rw [List.filter_cons]
  by_cases hc : r.cls = .locking
  · simp [hc]
    omega
  · simp [hc]

/-- What a pass leaves of the list: the entries not granted, TRAVEL ones passed over by every LOCKING grant (R64, R65). -/
theorem passGo_requests (rs : List Request) (h : Hpa) (hp : ∀ r ∈ h.requests, r.passed ≤ 255) :
    (passGo rs h).1.requests = (h.requests.filter (fun r => !(passGo rs h).2.1.contains r.motion)).map
      (Request.passedOver (lockingsIn (rs.take (passGo rs h).2.1.length))) := by
  have hnone (l : List Request) (hl : ∀ r ∈ l, r.passed ≤ 255) : l = (l.filter (fun r => !([] : List Nat).contains r.motion)).map (Request.passedOver 0) := by
    have hall : l.filter (fun r => !([] : List Nat).contains r.motion) = l := List.filter_eq_self.2 fun _ _ => rfl
    rw [hall]
    exact ((List.map_congr_left fun r hr => passedOver_zero (hl r hr)).trans (List.map_id _)).symm
  induction rs generalizing h with
  | nil => exact hnone _ hp
  | cons r rs ih =>
    cases hf : r.fits h.freeFlow with
    | none => rw [passGo_stops hf]; exact hnone _ hp
    | some flow =>
      have hp' : ∀ x ∈ (h.grant r flow).requests, x.passed ≤ 255 := by
        intro x hx
        rw [grant_requests] at hx
        obtain ⟨y, hy, rfl⟩ := List.mem_map.1 hx
        have hle := hp y (List.mem_of_mem_filter hy)
        split
        · exact passedOver_le hle 1
        · exact hle
      rw [passGo_grants hf, ih _ hp', grant_requests, List.filter_map, List.map_map, List.filter_filter, List.length_cons, List.take_succ_cons, lockingsIn_cons]
      by_cases hc : r.cls = .locking
      · simp only [hc, if_true]
        refine congrArg₂ _ (funext fun x => passedOver_passedOver 1 _ x) (List.filter_congr fun x _ => ?_)
        simp [passedOver_motion, Bool.and_comm, bne, Bool.beq_eq_decide_eq]
      · simp only [hc, if_false, Nat.zero_add]
        refine congrArg₂ _ rfl (List.filter_congr fun x _ => ?_)
        simp [Bool.and_comm, bne, Bool.beq_eq_decide_eq]

end Sys2Proof.Machine
end

section
namespace Sys2Proof.Machine

/-! ### The start decision (R66) -/

/-- A pump that the start decision may start (R55). -/
def Hpa.startable (h : Hpa) (i : Nat) (q : Pump) : Prop := tget h.pumps i = some q ∧ q.state = .stopped ∧ q.runDown = none

theorem eligible_iff (q : Pump) : q.eligible = true ↔ q.state = .stopped ∧ q.runDown = none := by simp [Pump.eligible]

section
variable {h : Hpa}

/-- The first eligible pump of the table is the lowest-numbered one. -/
theorem find?_eligible (hs : tsorted h.pumps = true) {i : Nat} {q : Pump} (hq : h.startable i q) (hlow : ∀ k p, k < i → ¬ h.startable k p) :
    h.pumps.find? (fun e => e.2.eligible) = some (i, q) := by
  obtain ⟨hget, hel⟩ := hq
  have hmem := mem_of_tget hget
  cases hfind : h.pumps.find? (fun e => e.2.eligible) with
  | none => exact absurd ((eligible_iff q).2 hel) (by simpa using List.find?_eq_none.1 hfind (i, q) hmem)
  | some e =>
    obtain ⟨he, before, after, hsplit, hbefore⟩ := List.find?_eq_some_iff_append.1 hfind
    rw [hsplit] at hmem
    rcases List.mem_append.1 hmem with hin | hin
    · have := hbefore _ hin
      rw [(eligible_iff q).2 hel] at this
      cases this
    · rcases List.mem_cons.1 hin with rfl | hin
      · rfl
      · have hlt : e.1 < i := by
          have hpair := (tsorted_iff _).1 hs
          rw [hsplit] at hpair
          obtain ⟨-, htail, -⟩ := List.pairwise_append.1 hpair
          exact List.rel_of_pairwise_cons htail hin
        exact absurd ⟨tget_of_mem hs (List.mem_of_find?_eq_some hfind), (eligible_iff e.2).1 he⟩ (hlow e.1 e.2 hlt)

theorem find?_eligible_none (hs : tsorted h.pumps = true) (hn : ∀ i q, ¬ h.startable i q) : h.pumps.find? (fun e => e.2.eligible) = none := by
  rw [List.find?_eq_none]
  intro e he hel
  exact hn e.1 e.2 ⟨tget_of_mem hs he, (eligible_iff e.2).1 hel⟩

/-- With no pump STARTING the coming capacity is the capacity (R63, R66). -/
theorem comingCapacity_eq (hn : ∀ e ∈ h.pumps, e.2.state ≠ .starting) : h.comingCapacity = h.capacity := by
  unfold Hpa.comingCapacity Hpa.capacity
  have hsame : h.pumps.filter (fun e => e.2.state == .running || e.2.state == .starting) = h.pumps.filter (fun e => e.2.state == .running) :=
    List.filter_congr fun e he => by simp [hn e he]
  rw [hsame]

theorem starting_any_false (hn : ∀ e ∈ h.pumps, e.2.state ≠ .starting) : h.pumps.any (fun e => e.2.state == .starting) = false := by simpa using hn

theorem startChoice_lowest (hs : tsorted h.pumps = true) {r : Request} {i : Nat} {q : Pump} (hn : ∀ e ∈ h.pumps, e.2.state ≠ .starting) (hq : h.startable i q)
    (hlow : ∀ k p, k < i → ¬ h.startable k p) : h.startChoice true (some r) = if h.capacity < h.allocation + r.requested then some i else none := by
  simp only [Hpa.startChoice, starting_any_false hn, find?_eligible hs hq hlow, comingCapacity_eq hn]
  rfl

theorem startChoice_none (hs : tsorted h.pumps = true) {clear : Bool} {ended : Option Request}
    (hx : ended = none ∨ clear = false ∨ (∃ e ∈ h.pumps, e.2.state = .starting) ∨ ∀ i q, ¬ h.startable i q) : h.startChoice clear ended = none := by
  cases ended with
  | none => rfl
  | some r =>
    simp only [Hpa.startChoice]
    rcases hx with hx | hx | hx | hx
    · cases hx
    · simp [hx]
    · have hany : h.pumps.any (fun e => e.2.state == .starting) = true := by simpa using hx
      rw [hany, Bool.not_true, Bool.and_false]
      rfl
    · rw [find?_eligible_none hs hx]
      exact ite_self _

end

/-! ### A pass and the start after it (R64, R66) -/

theorem afterPass_pumps (s : State) : s.afterPass.hpa.pumps = s.hpa.pumps := passGo_pumps _ _

theorem afterPass_startable (s : State) (i : Nat) (q : Pump) : s.afterPass.hpa.startable i q ↔ s.hpa.startable i q := by
  rw [Hpa.startable, afterPass_pumps]
  rfl

/-- The start decision of a pass starts nothing. -/
theorem grantPass_idle {s : State} (h : s.afterPass.hpa.startChoice (s.ost.estop == .clear) s.passed.2.2 = none) : s.grantPass = s.afterPass := by
  rw [grantPass_eq, h]

/-- The start decision of a pass starts a pump. -/
theorem grantPass_starts {s : State} {i : Nat} (h : s.afterPass.hpa.startChoice (s.ost.estop == .clear) s.passed.2.2 = some i) :
    s.grantPass = s.afterPass.setPump i .starting none none := by
  rw [grantPass_eq, h]

/-- A pump that is not RUNNING before and after changes no flow (R63). -/
theorem setPump_flow {s : State} {i : Nat} {p : Pump} {st : PumpState} {cause : Option PumpCause} {runDown : Option Nat} (h : tget s.hpa.pumps i = some p)
    (hp : p.state ≠ .running) (hst : st ≠ .running) (hw : s.hpa.Within) :
    (s.setPump i st cause runDown).hpa.grants = s.hpa.grants ∧ (s.setPump i st cause runDown).hpa.requests = s.hpa.requests := by
  obtain ⟨ts, hd⟩ := capacityDrop_eq (s.enterPump i (p.enter st cause runDown))
  have hw' : (s.enterPump i (p.enter st cause runDown)).hpa.Within := by
    rw [enterPump_hpa]
    exact Nat.le_trans (m := s.hpa.capacity) hw (Nat.le_of_eq (capacity_tput (q := p.enter st cause runDown) h hp hst).symm)
  rw [setPump_hpa h, hd, drop_of_within hw', enterPump_hpa]
  exact ⟨rfl, rfl⟩

theorem setPump_todo {s : State} {i : Nat} {p : Pump} {st : PumpState} {cause : Option PumpCause} {runDown : Option Nat} (h : tget s.hpa.pumps i = some p) :
    s.todo <+: (s.setPump i st cause runDown).todo := by
  obtain ⟨h0, cs, ts, hd⟩ := enterPump_drop i (p.enter st cause runDown) s
  have hacts := (setPump_acts h st cause runDown).todo
  rw [hd] at hacts
  exact (List.prefix_append _ _).trans hacts

/-- While the emergency stop is not ACTIVE a pump that starts has its contactor closed (R55, R149). -/
theorem setPump_starting_contactorOn {s : State} {i : Nat} {p : Pump} (h : tget s.hpa.pumps i = some p) (he : s.ost.estop = .clear) (hi : i < s.ost.contactors.length) :
    (s.setPump i .starting none none).contactorOn i = true := by
  have hon : s.enterPump i (p.enter .starting none none) =
      State.modOst (fun o => { o with contactors := lmod o.contactors i (fun _ => true) })
        { s with hpa := { s.hpa with pumps := tput s.hpa.pumps i (p.enter .starting none none) } } := by
    simp [State.enterPump, State.contactor, Pump.enter, he]
  rw [State.contactorOn, setPump_contactors h, hon]
  show (lmod s.ost.contactors i (fun _ => true)).getD i false = true
  rw [List.getD_eq_getElem?_getD, getElem?_lmod_self, List.getElem?_eq_getElem hi]
  rfl

section
variable {s : State}

/-- The start decision, if it starts a pump, starts an eligible one. -/
theorem startChoice_startable (hs : tsorted s.hpa.pumps = true) {clear : Bool} {ended : Option Request} {i : Nat}
    (h : s.hpa.startChoice clear ended = some i) : ∃ q, s.hpa.startable i q := by
  unfold Hpa.startChoice at h
  repeat' split at h
  all_goals cases h
  rename_i e hfind _
  exact ⟨e.2, tget_of_mem hs (List.mem_of_find?_eq_some hfind), (eligible_iff e.2).1 (List.find?_some (p := fun e : Nat × Pump => e.2.eligible) hfind)⟩

/-- The flows and the grants handed out are those of the pass, whether a pump starts or not. -/
theorem grantPass_passed (hw : s.hpa.Within) (hs : tsorted s.hpa.pumps = true) :
    s.grantPass.hpa.grants = s.passed.1.grants ∧ s.grantPass.hpa.requests = s.passed.1.requests ∧ ∀ m ∈ s.passed.2.1, Task.granted m ∈ s.grantPass.todo := by
  have htold : ∀ m ∈ s.passed.2.1, Task.granted m ∈ s.afterPass.todo := fun m hm => List.mem_append_right _ (List.mem_map.2 ⟨m, hm, rfl⟩)
  cases hc : s.afterPass.hpa.startChoice (s.ost.estop == .clear) s.passed.2.2 with
  | none =>
    rw [grantPass_idle hc]
    exact ⟨rfl, rfl, htold⟩
  | some i =>
    obtain ⟨q, hq, hstop, -⟩ := startChoice_startable (s := s.afterPass) (by rw [afterPass_pumps]; exact hs) hc
    obtain ⟨hgr, hrq⟩ := setPump_flow (st := .starting) (cause := none) (runDown := none) hq (by rw [hstop]; decide) (by decide) (afterPass_within s hw)
    rw [grantPass_starts hc]
    exact ⟨hgr, hrq, fun m hm => (setPump_todo hq).subset (htold m hm)⟩

end

/-! ### Requests and drops -/

/-- The arrival counter is 0 while list and grants are empty (R61). -/
theorem tidy_arrival (n : Nat) {h : Hpa} (hr : h.requests = []) (hg : h.grants = []) : (h.tidy n).arrival = 0 := by simp [Hpa.tidy, hr, hg]

theorem request_arrival (m : Nat) (cls : FlowClass) (requested minimum : Nat) (s : State) : (s.request m cls requested minimum).hpa.arrival = s.hpa.arrival + 1 := by
  simp [State.request, State.modHpa, Hpa.tidy]

theorem giveUpFlow_held {m : Nat} {s : State} (h : s.hpa.entryOf m ≠ none ∨ s.hpa.grantOf m ≠ none) (hr : (s.giveUpFlow m).hpa.requests = [])
    (hg : (s.giveUpFlow m).hpa.grants = []) : (s.giveUpFlow m).hpa.arrival = 0 := by
  have hheld : ((s.hpa.grantOf m).isSome || (s.hpa.entryOf m).isSome) = true := by
    rw [Bool.or_eq_true, Option.isSome_iff_ne_none, Option.isSome_iff_ne_none]
    exact h.symm
  unfold State.giveUpFlow at hr hg ⊢
  rw [if_pos hheld] at hr hg ⊢
  exact tidy_arrival _ hr hg

theorem capacityDrop_told (s : State) :
    s.capacityDrop.todo = s.todo ++ (s.hpa.drop s.tune.flowWait).2.1.map Task.reduced ++ (s.hpa.drop s.tune.flowWait).2.2.map Task.revoked := by
  simp only [State.capacityDrop, foldl_emit_eq, State.modHpa]

/-- Settles O59: the walk order, the pass entry by entry, the start decision, arrivals, and the two stages of a drop. -/
theorem grantPassServesInWalkOrder : Obligations.GrantPassServesInWalkOrder := by
  refine ⟨fun K rs => ⟨walkOrder_perm K rs, _, _, _, walkOrder_eq K rs, List.filter_sublist, List.filter_sublist, List.filter_sublist,
      fun r hr => promoted_iff.1 (List.of_mem_filter hr), fun r hr => by simpa using List.of_mem_filter hr, fun r hr => unpromoted_iff.1 (List.mem_filter.1 hr).2⟩,
    fun rs h hw hn hg => ⟨passGo_within rs h hw, passGo_pumps rs h, passGo_motions rs h, passGo_ended rs h, fun r hr => ?_, ?_, fun g => passGo_keeps rs,
      passGo_requests rs h⟩,
    fun s hw hs => ?_, fun m cls requested minimum s => ⟨rfl, request_arrival m cls requested minimum s, rfl, rfl, fun hheld => ?_⟩, fun wait h => ?_,
    fun s => ⟨?_, ?_, capacityDrop_told s⟩⟩
  · obtain ⟨hlock, htravel⟩ := fits_none (passGo_short hr)
    split
    · rename_i hc; exact hlock hc
    · rename_i hc; exact htravel hc
  · obtain ⟨flows, hlen, hall⟩ := passGo_flows rs h hn hg
    refine ⟨flows, hlen, fun k r hk hr => ?_⟩
    obtain ⟨flow, hflow, hfits, hgrant⟩ := hall k r hk hr
    obtain ⟨hlock, htravel⟩ := fits_some hfits
    refine ⟨r.granted flow, hgrant, rfl, rfl, rfl, rfl, hflow, ?_⟩
    split
    · rename_i hc; exact hlock hc
    · rename_i hc; exact htravel hc
  · obtain ⟨hgr, hrq, htold⟩ := grantPass_passed hw hs
    have hs' : tsorted s.afterPass.hpa.pumps = true := by rw [afterPass_pumps]; exact hs
    refine ⟨hgr, hrq, htold, fun r i q hr he hno hq hlow => ?_, fun hx => ?_⟩
    · have hchoice := startChoice_lowest (r := r) hs' (by rw [afterPass_pumps]; exact hno) ((afterPass_startable s i q).2 hq)
        fun k p hk hkp => hlow k p hk ((afterPass_startable s k p).1 hkp)
      have hclear : (s.ost.estop == .clear) = true := by rw [he]; rfl
      have hended : s.passed.2.2 = some r := hr
      rw [← hclear, ← hended] at hchoice
      have hget : tget s.afterPass.hpa.pumps i = some q := by rw [afterPass_pumps]; exact hq.1
      refine ⟨fun hlt => ?_, fun hle => ?_⟩
      · rw [grantPass_starts (hchoice.trans (if_pos hlt)), setPump_pumps hget, afterPass_pumps]
        exact ⟨tget_tput_self _ _ _, fun k hk => tget_tput_of_ne _ _ (Ne.symm hk), fun hi => setPump_starting_contactorOn hget he hi⟩
      · rw [grantPass_idle (hchoice.trans (if_neg (Nat.not_lt.2 hle))), afterPass_pumps]
    · have hidle : s.afterPass.hpa.startChoice (s.ost.estop == .clear) s.passed.2.2 = none := by
        refine startChoice_none hs' (hx.imp_right (Or.imp ?_ (Or.imp ?_ ?_)))
        · exact fun hc => by simpa using hc
        · exact fun he => by rw [afterPass_pumps]; exact he
        · exact fun hn i q hq => hn i q ((afterPass_startable s i q).1 hq)
      rw [grantPass_idle hidle, afterPass_pumps]
  · obtain ⟨hgone, hgone'⟩ := giveUpFlow_gone m s
    exact ⟨hgone', hgone, giveUpFlow_held hheld⟩
  · obtain ⟨i, k, hd⟩ := drop_dropped wait h
    refine ⟨i, k, hd.taken, hd.reducing, hd.reduced, hd.revoked, hd.revoking, hd.within, by rw [hd.eq]; rfl, rfl, fun r => ?_, fun ho => ?_, by rw [hd.eq]; rfl,
      fun g hg hne hleft => ?_⟩
    · rw [hd.eq]
      exact mem_foldl_again wait _ _ r
    · rw [hd.eq]
      exact stampOrder_foldl_again wait _ ho
    · rw [hd.eq]
      refine List.mem_filter.2 ⟨List.mem_map.2 ⟨g, List.mem_filter.2 ⟨hg, decide_eq_true hne⟩, rfl⟩, List.any_eq_true.2 ⟨_, hleft, ?_⟩⟩
      exact beq_iff_eq.2 (reduced_motion g)
  all_goals
    obtain ⟨ts, hdrop⟩ := capacityDrop_eq s
    rw [hdrop]
    rfl

end Sys2Proof.Machine
end

section
namespace Sys2Proof.Machine

/-! ### Commands on an axis's outputs (R94, R148) -/

/-- Only proportional outputs have changed. -/
def State.PropsOnly (s e : State) : Prop := e = { s with ost := { s.ost with props := e.ost.props } }

theorem State.PropsOnly.trans {s m e : State} (h : s.PropsOnly m) (k : m.PropsOnly e) : s.PropsOnly e := by
  have hk : e = { m with ost := { m.ost with props := e.ost.props } } := k
  rw [show m = { s with ost := { s.ost with props := m.ost.props } } from h] at hk
  exact hk

/-- What a demand on a proportional output makes of the outputs. -/
structure State.PropDemanded (s e : State) (m out v : Nat) : Prop where
  frame : s.PropsOnly e
  other : ∀ o, o ≠ out → e.ost.props[o]? = s.ost.props[o]?
  taken : ∀ i q, s.reservedBy i = some m → s.ost.props[out]? = some q → q.owner = some i →
    e.ost.props[out]? = some { q with command := if q.state ≠ .active ∨ s.ost.estop = .active then 0 else min v 1000 }

theorem demandProp_demanded (m out v : Nat) (s : State) : s.PropDemanded (s.demandProp m out v) m out v := by
  unfold State.demandProp
  split
  · rename_i a ha
    split
    · refine ⟨rfl, fun o ho => getElem?_lmod_of_ne _ _ (Ne.symm ho), fun i q _ hq ho => ?_⟩
      show (lmod s.ost.props out _)[out]? = _
      rw [getElem?_lmod_self, hq]
      simp
    · rename_i hn
      refine ⟨rfl, fun _ _ => rfl, fun i q hr hq ho => absurd hr ?_⟩
      have hai : a = i := by simpa [hq, ho] using ha.symm
      simpa [hai] using hn
  · rename_i hn
    exact ⟨rfl, fun _ _ => rfl, fun i q _ hq ho => by simp [hq, ho] at hn⟩

theorem out_ne_opposite {d : AxisDef} (h : d.openOut ≠ d.closeOut) (dir : AxisDir) : d.out dir ≠ d.out dir.opposite := by
  cases dir
  · exact h
  · exact Ne.symm h

theorem out_eq_or (d : AxisDef) (dir : AxisDir) : d.out dir = d.openOut ∨ d.out dir = d.closeOut := by
  cases dir
  · exact .inl rfl
  · exact .inr rfl

/-- An axis driven by a motion: one output at the speed, the other at 0, nothing else changed (R94, R140). -/
structure State.AxisDriven (s e : State) (m i : Nat) (d : AxisDef) (dir : AxisDir) (v : Nat) : Prop where
  frame    : s.PropsOnly e
  others   : ∀ o, o ≠ d.openOut → o ≠ d.closeOut → e.ost.props[o]? = s.ost.props[o]?
  ahead    : d.openOut ≠ d.closeOut → s.reservedBy i = some m → s.ost.estop ≠ .active → ∀ q, s.ost.props[d.out dir]? = some q → q.owner = some i →
    q.state = .active → v ≤ 1000 → e.ost.props[d.out dir]? = some { q with command := v }
  opposite : d.openOut ≠ d.closeOut → s.reservedBy i = some m → ∀ q, s.ost.props[d.out dir.opposite]? = some q → q.owner = some i →
    e.ost.props[d.out dir.opposite]? = some { q with command := 0 }

theorem driveAxis_driven (m i : Nat) (d : AxisDef) (dir : AxisDir) (v : Nat) (s : State) : s.AxisDriven (s.driveAxis m d dir v) m i d dir v := by
  have hoff := demandProp_demanded m (d.out dir.opposite) 0 s
  have hon := demandProp_demanded m (d.out dir) v (s.demandProp m (d.out dir.opposite) 0)
  have hframe : s.demandProp m (d.out dir.opposite) 0 = _ := hoff.frame
  have hpmn : (s.demandProp m (d.out dir.opposite) 0).pmn = s.pmn := by rw [hframe]
  have hestop : (s.demandProp m (d.out dir.opposite) 0).ost.estop = s.ost.estop := by rw [hframe]
  refine ⟨hoff.frame.trans hon.frame, fun o h1 h2 => ?_, fun hne hr he q hq ho ha hv => ?_, fun hne hr q hq ho => ?_⟩
  · have hout (x : AxisDir) : o ≠ d.out x := fun h => (out_eq_or d x).elim (fun hx => h1 (h.trans hx)) (fun hx => h2 (h.trans hx))
    exact (hon.other o (hout dir)).trans (hoff.other o (hout dir.opposite))
  · have hq' : (s.demandProp m (d.out dir.opposite) 0).ost.props[d.out dir]? = some q := (hoff.other _ (out_ne_opposite hne dir)).trans hq
    have htaken := hon.taken i q (by rw [State.reservedBy, hpmn]; exact hr) hq' ho
    rw [if_neg (by simp [ha, hestop, he]), Nat.min_eq_left hv] at htaken
    exact htaken
  · have htaken := hoff.taken i q hr hq ho
    rw [Nat.zero_min, ite_self] at htaken
    exact (hon.other _ (out_ne_opposite hne dir).symm).trans htaken

/-! ### The jog's checks and its timer (R139, R140, R141) -/

/-- The end zone in a direction. -/
def endZone : AxisDir → Zone
  | .opening => .openEnd
  | .closing => .closedEnd

theorem jogThere_axis (s : State) (p : Nat) (dir : AxisDir) : s.jogThere p (.axis dir) = true ↔ ∃ y, s.axis? p = some y ∧ y.zone = endZone dir := by
  cases dir <;> simp [State.jogThere, endZone, Option.any_eq_true]

/-- A position lies beyond the overtravel band in a direction (R28, R140). -/
def beyondBand (d : AxisDef) (u : Int) : AxisDir → Prop
  | .opening => u > d.travel + 50
  | .closing => u < -50

theorem overtravelAhead_iff (s : State) (d : AxisDef) (dir : AxisDir) : s.overtravelAhead d dir = true ↔ ∃ u ∈ s.unclampedAll d, beyondBand d u dir := by
  cases dir
  · simp [State.overtravelAhead, beyondBand, Config.overtravel]
  · simp only [State.overtravelAhead, beyondBand, List.any_eq_true, decide_eq_true_eq]
    rfl

section
variable {s : State} {j : Jog}

theorem jogOut_runs (hj : s.osq.jog = some j) (hp : j.phase ≠ .ended) (ht : j.timer ≠ none) : s.jogOut = s.endJog .expired := by
  simp [State.jogOut, hj, hp, Option.isSome_iff_ne_none.2 ht]

theorem jogOut_idle (h : ∀ j, s.osq.jog = some j → j.phase = .ended ∨ j.timer = none) : s.jogOut = s := by
  cases hj : s.osq.jog with
  | none => simp [State.jogOut, hj]
  | some j =>
    simp only [State.jogOut, hj]
    refine if_neg ?_
    rcases h j hj with hp | ht
    · simp [hp]
    · simp [ht]

/-- Only a driving jog of an axis in the layout is checked (R140). -/
theorem jogCheck_idle (h : ∀ j dir, s.osq.jog = some j → j.dir = .axis dir → j.phase ≠ .driving ∨ s.layout.axis? j.point = none) : s.jogCheck = s := by
  unfold State.jogCheck
  split
  · rfl
  · rename_i j hj
    split
    · rename_i dir d hp hdir hd
      rcases h j dir hj hdir with hp' | hd'
      · exact absurd hp hp'
      · rw [hd] at hd'; cases hd'
    · rfl

variable {dir : AxisDir} {d : AxisDef}

theorem jogCheck_driving (hj : s.osq.jog = some j) (hdir : j.dir = .axis dir) (hp : j.phase = .driving) (hd : s.layout.axis? j.point = some d) : s.jogCheck =
    if (s.position j.point).isNone then s.endJog .positionLost
    else if s.jogThere j.point (.axis dir) then s.endJog .completed
    else if s.overtravelAhead d dir then s.endJog .overtravel
    else s.driveAxis Config.jogMotion d dir d.vMin := by
  simp only [State.jogCheck, hj, hdir, hp, hd]

end

/-! ### A jog's grant, its loss, and the jogged lock's arrival (R67, R68, R139, R140) -/

/-- A jog's record once it has its grant; the timer starts with the first one. -/
def Jog.driven (flow : Nat) (j : Jog) : Jog := { j with phase := .driving, granted := some flow, timer := some (j.timer.getD j.duration) }

/-- A jog's record once its grant is lost. -/
def Jog.waiting (j : Jog) : Jog := { j with phase := .waitingFlow, granted := none }

/-- What the end of a float leaves of an axis and of the units (R105). -/
structure State.FloatEnded (s e : State) (i : Nat) : Prop where
  grounded : e.floats i = false
  kept     : e.pmn = s.pmn ∧ e.hpa = s.hpa ∧ e.ldu = s.ldu ∧ e.adu.motions = s.adu.motions ∧ e.osq = s.osq ∧ e.todo = s.todo ∧ e.ost.props = s.ost.props
  fixed    : e.fixed = s.fixed

theorem demandFloat_coilsOff (i out : Nat) (s : State) : s.CoilsOff (s.demandFloat i out false) := by
  unfold State.demandFloat
  split
  · exact .putDemand _ _ s
  · exact .refl s

theorem State.CoilsOff.todo {s e : State} (h : s.CoilsOff e) : e.todo = s.todo := by rw [h.frame]

/-- The float coil of an axis, if it has one, off. -/
def State.floatCoilOff (i : Nat) (s : State) : State :=
  match (s.layout.axis? i).bind (fun d => d.float) with
  | some w => s.demandFloat i w.coil false
  | none => s

theorem floatCoilOff_coilsOff (i : Nat) (s : State) : s.CoilsOff (s.floatCoilOff i) := by
  unfold State.floatCoilOff
  split
  · exact demandFloat_coilsOff _ _ s
  · exact .refl s

theorem floatEnd_floating {s : State} {i : Nat} (h : s.floats i = true) : s.floatEnd i =
    (({ s.floatCoilOff i with adu := { (s.floatCoilOff i).adu with floats := tdel (s.floatCoilOff i).adu.floats i } }).clearAlarm .floatLimit i).clearAlarm
      .rampLiftoff i := if_pos h

theorem floatEnd_ended (i : Nat) (s : State) : s.FloatEnded (s.floatEnd i) i := by
  by_cases hf : s.floats i = true
  · have hoff := floatCoilOff_coilsOff i s
    have hfixed : (s.floatEnd i).fixed = s.fixed := fixed_floatEnd i s
    obtain ⟨hldu, hadu, hhpa, hpmn, hprops⟩ := hoff.kept
    rw [floatEnd_floating hf] at hfixed ⊢
    refine ⟨?_, ⟨hpmn, hhpa, hldu, ?_, hoff.calms.osq, hoff.todo, hprops⟩, hfixed⟩
    · show (tget (tdel (s.floatCoilOff i).adu.floats i) i).isSome = false
      rw [tget_tdel, if_pos rfl]
      rfl
    · show (s.floatCoilOff i).adu.motions = _
      rw [hadu]
  · have he : s.floatEnd i = s := if_neg hf
    rw [he]
    exact ⟨by simpa using hf, ⟨rfl, rfl, rfl, rfl, rfl, rfl, rfl⟩, rfl⟩

section
variable {s : State} {j : Jog} {q : Grant}

theorem jogGrant_ended (hj : s.osq.jog = some j) (hq : s.hpa.grantOf Config.jogMotion = some q) (hp : j.phase = .ended) :
    s.jogGrant = s.giveUpFlow Config.jogMotion := by
  simp only [State.jogGrant, hj, hq]
  exact if_pos (by simp [hp])

theorem jogGrant_lock {dir : LockDir} (hj : s.osq.jog = some j) (hq : s.hpa.grantOf Config.jogMotion = some q) (hp : j.phase ≠ .ended) (hdir : j.dir = .lock dir) :
    s.jogGrant = (s.modJog (Jog.driven q.flow)).driveLock Config.jogMotion j.point dir true := by
  have hne : (j.phase == .ended) = false := by simpa using hp
  simp only [State.jogGrant, hj, hq, hne, hdir]
  rfl

theorem jogGrant_axis {dir : AxisDir} (hj : s.osq.jog = some j) (hq : s.hpa.grantOf Config.jogMotion = some q) (hp : j.phase ≠ .ended) (hdir : j.dir = .axis dir) :
    s.jogGrant = (((s.modJog (Jog.driven q.flow)).floatEnd j.point).setDrive j.point .driving).jogCheck := by
  have hne : (j.phase == .ended) = false := by simpa using hp
  simp only [State.jogGrant, hj, hq, hne, hdir]
  rfl

theorem modJog_driven (hj : s.osq.jog = some j) : (s.modJog (Jog.driven q.flow)).osq =
    { s.osq with jog := some { j with phase := .driving, granted := some q.flow, timer := some (j.timer.getD j.duration) } } := by
  rw [modJog_osq, hj]
  rfl

/-- A coil that a motion demands on, whether the output exists or not (R142). -/
theorem driveLock_demandedOn {m p : Nat} {dir : LockDir} {d : LockDef} (hd : s.layout.lock? p = some d) (hr : s.reservedBy p = some m)
    (ho : ∀ c, s.ost.coils[d.coil dir]? = some c → c.owner = some p) : (s.driveLock m p dir true).coilDemanded (d.coil dir) true := by
  cases hc : s.ost.coils[d.coil dir]? with
  | some c => exact (driveLock_energizes m p dir s).on d c hd hr hc (ho c hc)
  | none =>
    have he : s.driveLock m p dir true = s := by simp [State.driveLock, hd, State.demandCoil, hc]
    intro c hc'
    rw [he, hc] at hc'
    cases hc'

theorem jogRevoked_driving (hj : s.osq.jog = some j) (hp : j.phase = .driving) : s.jogRevoked = ((s.jogOff j).jogRest j).modJog Jog.waiting := by
  simp [State.jogRevoked, hj, hp]
  rfl

theorem jogMoved_there {dir : LockDir} (hj : s.osq.jog = some j) (hp : j.phase ≠ .ended) (hdir : j.dir = .lock dir) (ht : s.confirmed j.point = dir.target) :
    s.jogMoved j.point = s.endJog .completed := by
  simp [State.jogMoved, hj, hdir, hp, ht]

theorem jogRest_reservedBy (j : Jog) (s : State) (p : Nat) : (s.jogRest j).reservedBy p = s.reservedBy p := by
  unfold State.jogRest
  split
  · rfl
  · exact reservedBy_setDrive _ _ s p

/-- What the loss of its grant leaves of a jog. -/
structure State.JogWaits (s e : State) (j : Jog) : Prop where
  record   : e.osq = { s.osq with jog := some { j with phase := .waitingFlow, granted := none } }
  kept     : e.hpa = s.hpa ∧ e.fixed = s.fixed ∧ ∀ p, e.reservedBy p = s.reservedBy p
  coil     : ∀ dir d, j.dir = .lock dir → s.layout.lock? j.point = some d → s.reservedBy j.point = some Config.jogMotion →
    (∀ c, s.ost.coils[d.coil dir]? = some c → c.owner = some j.point) → e.coilDemanded (d.coil dir) false
  outputs  : ∀ dir, j.dir = .axis dir → (∀ o ∈ e.ost.props, o.owner = some j.point → o.command = 0) ∧
    ∀ y, e.axis? j.point = some y → y.drive = if s.floats j.point = true then .float else .idle

theorem jogRevoked_waits (hj : s.osq.jog = some j) (hp : j.phase = .driving) : s.JogWaits s.jogRevoked j := by
  have hrest := State.Calms.jogRest j (s.jogOff j)
  have hcalm := (State.Calms.jogOff j s).trans hrest
  obtain ⟨-, -, hhpa, hpmn⟩ := jogOff_kept j s
  obtain ⟨-, -, hhpa', -⟩ := jogRest_kept j (s.jogOff j)
  rw [jogRevoked_driving hj hp]
  refine ⟨?_, ⟨hhpa'.trans hhpa, hcalm.fixed, fun p => ?_⟩, fun dir d hdir hd hr ho => hrest.demandedOff (jogOff_coil hdir hr hd ho),
    fun dir hdir => ⟨hrest.still (jogOff_still hdir), fun y hy => ?_⟩⟩
  · rw [modJog_osq, hcalm.osq, hj]
    rfl
  · refine (jogRest_reservedBy j (s.jogOff j) p).trans ?_
    rw [State.reservedBy, hpmn]
    rfl
  · have hfl : ((s.jogOff j).jogRest j).floats j.point = s.floats j.point := by rw [State.floats, hcalm.floats]; rfl
    rw [jogRest_atRest hdir y hy, hfl]

end

/-- Settles O49: the jog from its grant to its end, each event of it by the rule that takes it. -/
theorem jogTimersEndOrDrive : Obligations.JogTimersEndOrDrive := by
  intro s hs
  refine ⟨fun h => exec_act_same hs (jogOut_idle h), fun j hj hp ht => ⟨s.jogOut, exec_act hs _, ?_⟩, fun h => exec_act_same hs (jogCheck_idle h),
    fun j dir d hj hdir hp hd => ?_, fun j q hj hq => ⟨fun hp => ?_, fun dir d hp hdir hd => ?_, fun dir y hp hdir hy => ?_⟩, fun j hj hp => ?_,
    fun j dir hj hp hdir hr ht => ?_⟩
  · rw [jogOut_runs hj hp ht]
    exact endJog_ended hj hp _
  · have hne : j.phase ≠ .ended := by rw [hp]; decide
    have hcheck := jogCheck_driving hj hdir hp hd
    have hend (cause : JogEnd) (he : s.jogCheck = s.endJog cause) : ∃ e : State, exec .jogAxisCheck s = .next (finish e) ∧ s.JogEnded e j cause :=
      ⟨s.jogCheck, exec_act hs _, he ▸ endJog_ended hj hne cause⟩
    refine ⟨fun hpos => hend _ (hcheck.trans (if_pos (by rw [hpos]; rfl))), fun hpos => ?_⟩
    rw [if_neg (by rw [Option.isNone_iff_eq_none]; exact hpos)] at hcheck
    intro there beyond
    have hthere : s.jogThere j.point (.axis dir) = true ↔ there := by
      rw [jogThere_axis]
      cases dir <;> rfl
    have hbeyond : s.overtravelAhead d dir = true ↔ beyond := by
      rw [overtravelAhead_iff]
      cases dir <;> rfl
    refine ⟨fun ht => hend _ (hcheck.trans (if_pos (hthere.2 ht))), fun ht hb => hend _ ?_, fun ht hb => ⟨s.jogCheck, ?_⟩⟩
    · rw [if_neg (mt hthere.1 ht), if_pos (hbeyond.2 hb)] at hcheck
      exact hcheck
    · rw [if_neg (mt hthere.1 ht), if_neg (mt hbeyond.1 hb)] at hcheck
      have hdrive := driveAxis_driven Config.jogMotion j.point d dir d.vMin s
      rw [← hcheck] at hdrive
      have htodo : s.jogCheck.todo = [] := by
        rw [show s.jogCheck = _ from hdrive.frame]
        exact hs.2
      exact ⟨(exec_act hs _).trans (congrArg _ (finish_of_todo_nil htodo)),
        fun hne hr he => ⟨fun o ho hown ha hv => hdrive.ahead hne hr he o ho hown ha hv, fun o ho hown => hdrive.opposite hne hr o ho hown⟩,
        hdrive.others, hdrive.frame⟩
  · have he : runTask (.granted 7) s = s.giveUpFlow Config.jogMotion := jogGrant_ended hj hq hp
    obtain ⟨-, -, hpmn, host⟩ := giveUpFlow_kept Config.jogMotion s
    obtain ⟨hgone, -⟩ := giveUpFlow_gone Config.jogMotion s
    rw [he]
    refine ⟨hgone, ?_, (State.Calms.giveUpFlow _ s).osq, host, hpmn⟩
    rw [State.giveUpFlow, if_pos (by rw [show s.hpa.grantOf Config.jogMotion = some q from hq]; rfl)]
    exact List.mem_append_right _ (List.mem_singleton_self _)
  · have he : runTask (.granted 7) s = _ := jogGrant_lock hj hq hp hdir
    have hdrive := driveLock_energizes Config.jogMotion j.point dir (s.modJog (Jog.driven q.flow))
    obtain ⟨hhpa, hldu, hadu, hosq⟩ := hdrive.units
    rw [he]
    exact ⟨hosq.trans (modJog_driven hj), hhpa, hldu, hadu, hdrive.fixed, hdrive.coils d hd,
      fun hr ho => driveLock_demandedOn (s := s.modJog (Jog.driven q.flow)) hd hr ho⟩
  · have he : runTask (.granted 7) s = _ := jogGrant_axis hj hq hp hdir
    have hfloat := floatEnd_ended j.point (s.modJog (Jog.driven q.flow))
    obtain ⟨hpmn, hhpa, hldu, hadu, hosq, htodo, -⟩ := hfloat.kept
    have hcalm := State.Calms.setDrive j.point .driving ((s.modJog (Jog.driven q.flow)).floatEnd j.point)
    obtain ⟨hldu', hadu', hhpa', -⟩ := setDrive_kept j.point .driving ((s.modJog (Jog.driven q.flow)).floatEnd j.point)
    refine ⟨_, he, (hcalm.osq.trans hosq).trans (modJog_driven hj), ?_, ?_, hhpa'.trans hhpa, hldu'.trans hldu, (congrArg Adu.motions hadu').trans hadu,
      (setDrive_todo _ _ _).trans htodo, hcalm.fixed.trans hfloat.fixed⟩
    · rw [State.floats, hcalm.floats]
      exact hfloat.grounded
    · rw [axis?_setDrive, if_pos rfl, State.axis?, hpmn]
      show (s.axis? j.point).map _ = _
      rw [hy]
      rfl
  · have hw := jogRevoked_waits hj hp
    obtain ⟨hhpa, hfix, hres⟩ := hw.kept
    exact ⟨hw.record, hhpa, hfix, hres, hw.coil, hw.outputs⟩
  · have he : runTask (.lockMoved j.point) s = s.jogMoved j.point := by
      simp only [runTask, State.tellMoved, hr]
      rfl
    rw [he, jogMoved_there hj hp hdir ht]
    exact endJog_ended hj hp _

end Sys2Proof.Machine
end

section
namespace Sys2Proof.Machine

/-! ### A group drive whose members change (R76 to R83) -/

/-- No member moves any more. -/
def GroupMotion.idle (h : GroupMotion) : Prop := ∀ x ∈ h.members, x.state ≠ .driving ∧ x.state ≠ .backingOff

/-- The points of the failed members. -/
def GroupMotion.failedPoints (h : GroupMotion) : List Nat := (h.members.filter (fun x => x.state == .failed)).map (fun x => x.point)

theorem any_moving_iff (h : GroupMotion) : h.members.any Member.moving = true ↔ ¬ h.idle := by
  simp only [List.any_eq_true, Member.moving, Bool.or_eq_true, beq_iff_eq, GroupMotion.idle]
  push Not
  exact exists_congr fun x => and_congr_right fun _ => or_iff_not_imp_left

/-- From `s` to `e` the group drive `m` has gone from record `g` to record `h` with the same members, coils of its members at most switched off or reported; its end can
be told of `s`. -/
structure State.GroupRuns (s e : State) (m : Nat) (g h : GroupMotion) : Prop where
  before : s.ldu? m = some g
  record : e.ldu? m = some h
  points : h.members.map (fun x => x.point) = g.members.map (fun x => x.point)
  others : ∀ n, n ≠ m → e.ldu? n = s.ldu? n
  coils  : ∀ t p, e.LockOff t m p → s.LockOff t m p
  rest   : e.osq = s.osq ∧ e.fixed = s.fixed

section
variable {s e t : State} {m : Nat} {g h k : GroupMotion}

theorem State.GroupRuns.refl (hg : s.ldu? m = some g) : s.GroupRuns s m g g := ⟨hg, hg, rfl, fun _ _ => rfl, fun _ _ h => h, rfl, rfl⟩

theorem State.GroupRuns.trans (hs : s.GroupRuns e m g h) (he : e.GroupRuns t m h k) : s.GroupRuns t m g k := by
  obtain ⟨hosq, hfix⟩ := hs.rest
  obtain ⟨hosq', hfix'⟩ := he.rest
  exact ⟨hs.before, he.record, he.points.trans hs.points, fun n hn => (he.others n hn).trans (hs.others n hn), fun x p hx => hs.coils x p (he.coils x p hx),
    hosq'.trans hosq, hfix'.trans hfix⟩

theorem State.GroupRuns.of_coilsOff (hg : s.ldu? m = some g) (hc : s.CoilsOff e) : s.GroupRuns e m g g where
  before := hg
  record := by rw [State.ldu?, hc.ldu]; exact hg
  points := rfl
  others n _ := by rw [State.ldu?, hc.ldu]; rfl
  coils _ _ hx := hx.of_coilsOff hc
  rest := ⟨hc.calms.osq, hc.calms.fixed⟩

theorem State.GroupRuns.modLdu (hg : s.ldu? m = some g) {f : GroupMotion → GroupMotion}
    (hf : (f g).members.map (fun x => x.point) = g.members.map (fun x => x.point)) : s.GroupRuns (s.modLdu m f) m g (f g) where
  before := hg
  record := by rw [ldu?_modLdu, if_pos rfl, hg]; rfl
  points := hf
  others n hn := by rw [ldu?_modLdu, if_neg (Ne.symm hn)]
  coils _ _ hx := hx
  rest := ⟨rfl, rfl⟩

theorem State.GroupRuns.recordFault (hg : s.ldu? m = some g) (p : Nat) (code : FaultCode) : s.GroupRuns (s.recordFault p code) m g g := by
  have hacts := State.ActsTo.recordFault p code s
  obtain ⟨-, hldu, -, hosq, hcoils, -⟩ := State.units_eq hacts.units
  refine ⟨hg, by rw [State.ldu?, hldu]; exact hg, rfl, fun n _ => by rw [State.ldu?, hldu]; rfl, fun x q hx => ?_, hosq, hacts.fixed⟩
  exact hx.of_start (fun hr => by rw [reservedBy_recordFault]; exact hr) (layout_of_fixed hacts.fixed) fun i => by rw [hcoils]

/-- The motion ends, told of the start. -/
theorem State.GroupRuns.ended (hs : s.GroupRuns e m g h) (st : MotionState) (cause : Option FailCause) (failed : List Nat) :
    s.GroupEnded (e.lduEnd m st cause failed) m st cause failed := by
  have hend := lduEnd_ended hs.record st cause failed
  obtain ⟨hothers, hosq, hfix⟩ := hend.others
  obtain ⟨hosq', hfix'⟩ := hs.rest
  refine ⟨hend.record, fun g' hg' x hx => ?_, hend.given, hend.told, fun n hn => (hothers n hn).trans (hs.others n hn), hosq.trans hosq', hfix.trans hfix'⟩
  rw [hs.before] at hg'
  cases hg'
  have hmem : x.point ∈ h.members.map (fun y => y.point) := by rw [hs.points]; exact List.mem_map_of_mem hx
  obtain ⟨y, hy, hp⟩ := List.mem_map.1 hmem
  have hoff := hend.coils h hs.record y hy
  simp only [hp] at hoff
  exact hs.coils _ _ hoff

/-- What a check makes of a motion that may have come to its end (R76, R83). -/
structure State.GoesOn (s t : State) (m : Nat) (h : GroupMotion) : Prop where
  moving : ¬ h.idle → t.ldu? m = some h
  done   : h.idle → h.failedPoints = [] → s.GroupEnded t m .done none []
  failed : h.idle → h.failedPoints ≠ [] → s.GroupEnded t m .failed h.firstCause h.failedPoints

theorem lduCheck_moving (hr : s.ldu? m = some h) (hm : ¬ h.idle) : s.lduCheck m = s := by
  simp only [State.lduCheck, hr, (any_moving_iff h).2 hm, Bool.or_true, if_true]

theorem lduCheck_idle (hr : s.ldu? m = some h) (he : h.state.ended = false) (hi : h.idle) :
    s.lduCheck m = if h.failedPoints = [] then s.lduEnd m .done none [] else s.lduEnd m .failed h.firstCause h.failedPoints := by
  have hany : h.members.any Member.moving = false := by
    rw [← Bool.not_eq_true, any_moving_iff]
    exact not_not.2 hi
  simp only [State.lduCheck, hr, he, hany, List.isEmpty_iff]
  rfl

theorem State.GroupRuns.check (hs : s.GroupRuns e m g h) (he : h.state.ended = false) : s.GoesOn (e.lduCheck m) m h where
  moving hi := by rw [lduCheck_moving hs.record hi]; exact hs.record
  done hi hf := by rw [lduCheck_idle hs.record he hi, if_pos hf]; exact hs.ended _ _ _
  failed hi hf := by rw [lduCheck_idle hs.record he hi, if_neg hf]; exact hs.ended _ _ _

end

/-! ### A member that fails, its fault reported by LDU or told to it (R77, R80, R81) -/

/-- The state in which a member has failed, its fault recorded where LDU found it itself. -/
def State.memberDown (m p : Nat) (code : FaultCode) (report : Bool) (s : State) : State :=
  if report then s.failMember m p code else (s.lockOff m p).modLdu m (GroupMotion.memberFailed p code)

theorem State.LockOff.of_coils {s e t : State} {m p : Nat} (h : s.LockOff e m p) (hc : t.ost.coils = e.ost.coils) : s.LockOff t m p := by
  intro hr d hd o ho hown c hget
  rw [hc] at hget
  exact h hr d hd o ho hown c hget

theorem modMember_points (p : Nat) (f : Member → Member) (hf : ∀ x, (f x).point = x.point) (g : GroupMotion) :
    (g.modMember p f).members.map (fun x => x.point) = g.members.map (fun x => x.point) := by
  simp only [GroupMotion.modMember, List.map_map]
  refine List.map_congr_left fun x _ => ?_
  simp only [Function.comp]
  split
  · exact hf x
  · rfl

section
variable {s : State} {m p : Nat} {g : GroupMotion} {x : Member} {code : FaultCode} {report : Bool}

theorem memberDown_runs (h : s.ldu? m = some g) (p : Nat) (code : FaultCode) (report : Bool) :
    s.GroupRuns (s.memberDown m p code report) m g (g.memberFailed p code) := by
  have hoff := State.GroupRuns.of_coilsOff h (State.CoilsOff.lockOff m p s)
  have hrec : s.GroupRuns ((s.lockOff m p).modLdu m (GroupMotion.memberFailed p code)) m g (g.memberFailed p code) :=
    hoff.trans (.modLdu hoff.record (modMember_points p Member.failed (fun _ => rfl) g))
  cases report with
  | false => exact hrec
  | true => exact hrec.trans (.recordFault hrec.record p code)

theorem memberDown_lockOff : s.LockOff (s.memberDown m p code report) m p := by
  have hrec := (lockOff_lockOff m p s).later (State.Calms.modLdu m (GroupMotion.memberFailed p code) _)
  cases report with
  | false => exact hrec
  | true => exact hrec.of_coils (coils_of_units (State.ActsTo.recordFault p code _).units)

theorem memberDown_adu : (s.memberDown m p code report).adu = s.adu := by
  cases report with
  | false => exact (State.CoilsOff.lockOff m p s).adu
  | true => exact (failMember_kept (s := s) (m := m) (p := p) (code := code)).1

/-- Under STOP_GROUP the motion ends at once (R82); under CARRY_ON it goes on. -/
theorem lduFail_down (h : s.ldu? m = some g) (hx : g.member? p = some x) (hs : x.state ≠ .failed) (hg : g.state.ended = false) :
    s.lduFail m p code report =
      if g.policy = .stopGroup then (s.memberDown m p code report).lduEnd m .failed (some (.point code)) [p] else s.memberDown m p code report := by
  unfold State.lduFail
  simp only [h, hx]
  rw [if_neg (by simp [hs, hg])]
  cases g.policy <;> rfl

theorem lduFail_failed (h : s.ldu? m = some g) (hx : g.member? p = some x) (hs : x.state = .failed) : s.lduFail m p code report = s := by
  simp [State.lduFail, h, hx, hs]

theorem lduFail_ended (h : s.ldu? m = some g) (hg : g.state.ended = true) : s.lduFail m p code report = s := by
  simp only [State.lduFail, h]
  split
  · rfl
  · simp [hg]

/-- A member that fails while its motion waits or drives: the coils, and the motion as its policy says. -/
structure State.MemberFails (s t : State) (m p : Nat) (code : FaultCode) (g : GroupMotion) : Prop where
  coils    : s.LockOff t m p
  stopped  : g.policy = .stopGroup → s.GroupEnded t m .failed (some (.point code)) [p]
  carried  : g.policy = .carryOn → s.GoesOn t m (g.memberFailed p code)

theorem lduFail_fails (h : s.ldu? m = some g) (hx : g.member? p = some x) (hs : x.state ≠ .failed) (hg : g.state.ended = false) :
    s.MemberFails ((s.lduFail m p code report).lduCheck m) m p code g := by
  have hruns := memberDown_runs h p code report
  have hoff := memberDown_lockOff (s := s) (m := m) (p := p) (code := code) (report := report)
  rw [lduFail_down h hx hs hg]
  split
  · rename_i hp
    have hend := hruns.ended .failed (some (.point code)) [p]
    obtain ⟨k, hk, hstate, -⟩ := hend.record
    rw [lduCheck_ended hk (by rw [hstate]; rfl)]
    exact ⟨hoff.later (.lduEnd _ _ _ _ _), fun _ => hend, fun hc => by rw [hp] at hc; cases hc⟩
  · rename_i hp
    exact ⟨hoff.later (.lduCheck m _), fun hst => absurd hst hp, fun _ => hruns.check (show g.state.ended = false from hg)⟩

end

/-! ### A lock that moves (R74, R76, R78, R79, R80) -/

/-- A motion waits for flow, not driving (R84). -/
def GroupMotion.waits (g : GroupMotion) : Prop := awaitsFlow g.state g.halt

theorem drives_or_waits_iff {g : GroupMotion} :
    (g.state == .driving || (g.state == .waitingFlow || g.state == .halted && g.halt == some .noFlow)) = true ↔ g.state = .driving ∨ g.waits := by
  rw [Bool.or_eq_true, awaitsFlow_iff, beq_iff_eq]
  rfl

theorem waits_not_ended {g : GroupMotion} (h : g.state = .driving ∨ g.waits) : g.state.ended = false := by
  rcases h with h | h | ⟨h, -⟩ <;> rw [h] <;> rfl

/-- A member that has arrived. -/
def Member.arrived (y : Member) : Member := { y.still with state := .done }

/-- A member that has left its target again; its travel timer runs where the motion drives. -/
def Member.away (driving : Bool) (y : Member) : Member := { y with state := .driving, travel := if driving then some y.limit else none }

section
variable {s : State} {m p : Nat} {g : GroupMotion} {x : Member}

theorem lduMoved_conflict (h : s.ldu? m = some g) (hx : g.member? p = some x) (hg : g.state = .driving ∨ g.waits) (hc : s.confirmed p = .conflict) :
    s.lduMoved m p = (s.lduFail m p .sensorConflict true).lduCheck m := by
  have hlive := drives_or_waits_iff.2 hg
  simp [State.lduMoved, h, hx, hlive, hc]

/-- The coil direction of a moving member. -/
def Member.heads (dir : LockDir) (y : Member) : LockDir := if y.state = .driving then dir else dir.opposite

theorem lduMoved_home (h : s.ldu? m = some g) (hx : g.member? p = some x) (hg : g.state = .driving ∨ g.waits) (hc : s.confirmed p = g.dir.target)
    (hs : x.state = .driving ∨ x.state = .backingOff) : s.lduMoved m p =
      ((s.driveLock m p (x.heads g.dir) false).modLdu m (fun k => k.modMember p Member.arrived)).lduCheck m := by
  have hlive := drives_or_waits_iff.2 hg
  have hne : (g.dir.target == Confirmed.conflict) = false := by cases g.dir <;> rfl
  rcases hs with hs | hs
  · simp only [State.lduMoved, h, hx, hlive, hc, hne, hs, Member.heads]
    simp only [Bool.not_true, Bool.false_eq_true, ↓reduceIte, BEq.rfl]
    rfl
  · simp only [State.lduMoved, h, hx, hlive, hc, hne, hs, Member.heads]
    simp only [Bool.not_true, Bool.false_eq_true, ↓reduceIte, BEq.rfl, reduceCtorEq]
    rfl

theorem lduMoved_away (h : s.ldu? m = some g) (hx : g.member? p = some x) (hg : g.state = .driving ∨ g.waits) (hn : s.confirmed p ≠ g.dir.target)
    (hc : s.confirmed p ≠ .conflict) (hs : x.state = .done) : s.lduMoved m p =
      if g.state = .driving then (s.modLdu m (fun k => k.modMember p (Member.away true))).driveLock m p g.dir true
      else s.modLdu m (fun k => k.modMember p (Member.away false)) := by
  have hlive := drives_or_waits_iff.2 hg
  have hn' : (s.confirmed p == g.dir.target) = false := by simpa using hn
  have hc' : (s.confirmed p == .conflict) = false := by simpa using hc
  by_cases hd : g.state = .driving
  · simp only [State.lduMoved, h, hx, hlive, hc', hn', hs]
    simp only [Bool.not_true, Bool.false_eq_true, ↓reduceIte, hd, BEq.rfl]
    rfl
  · have hd' : (g.state == .driving) = false := by simpa using hd
    simp only [State.lduMoved, h, hx, hlive, hc', hn', hs]
    simp only [Bool.not_true, Bool.false_eq_true, ↓reduceIte, hd', hd]
    rfl

theorem lduMoved_same (h : s.ldu? m = some g) (hx : g.member? p = some x) (hc : s.confirmed p ≠ .conflict)
    (hs : (s.confirmed p = g.dir.target ∧ x.state = .done) ∨ (s.confirmed p ≠ g.dir.target ∧ x.state ≠ .done) ∨ x.state = .failed) : s.lduMoved m p = s := by
  have hc' : (s.confirmed p == .conflict) = false := by simpa using hc
  simp only [State.lduMoved, h, hx, hc']
  split
  · rfl
  · rcases hs with ⟨hh, hs⟩ | ⟨hh, hs⟩ | hs
    · simp [hh, hs]
    · have hh' : (s.confirmed p == g.dir.target) = false := by simpa using hh
      cases hst : x.state with
      | done => exact absurd hst hs
      | driving => simp [hh']
      | backingOff => simp [hh']
      | failed => rfl
    · simp [hs]

/-- A member that arrives: its coil goes off, and the motion is checked (R76, R78). -/
theorem lduMoved_arrives (h : s.ldu? m = some g) (hx : g.member? p = some x) (hg : g.state = .driving ∨ g.waits) (hc : s.confirmed p = g.dir.target)
    (hs : x.state = .driving ∨ x.state = .backingOff) : s.GoesOn (s.lduMoved m p) m (g.modMember p Member.arrived) := by
  have hoff := State.GroupRuns.of_coilsOff h (State.CoilsOff.driveLock m p (x.heads g.dir) s)
  rw [lduMoved_home h hx hg hc hs]
  exact (hoff.trans (.modLdu hoff.record (modMember_points p Member.arrived (fun _ => rfl) g))).check (waits_not_ended hg)

theorem lduMoved_quiet (h : s.ldu? m = some g) (hx : g.member? p = some x) (hg : g.state = .driving ∨ g.waits) (hc : s.confirmed p = g.dir.target)
    (hs : x.state = .driving ∨ x.state = .backingOff) (hr : s.reservedBy p = some m) {d : LockDef} (hd : s.layout.lock? p = some d)
    (ho : ∀ c, s.ost.coils[d.coil (x.heads g.dir)]? = some c → c.owner = some p) : (s.lduMoved m p).coilDemanded (d.coil (x.heads g.dir)) false := by
  rw [lduMoved_home h hx hg hc hs]
  exact ((State.Calms.modLdu m _ _).trans (.lduCheck m _)).demandedOff (driveLock_demandedOff hr hd ho)

/-- A member that leaves its target is to be driven again (R79). -/
theorem lduMoved_leaves (h : s.ldu? m = some g) (hx : g.member? p = some x) (hg : g.state = .driving ∨ g.waits) (hn : s.confirmed p ≠ g.dir.target)
    (hc : s.confirmed p ≠ .conflict) (hs : x.state = .done) :
    (s.lduMoved m p).ldu? m = some (g.modMember p (fun y => { y with state := .driving, travel := if g.state = .driving then some y.limit else none })) ∧
      (g.state = .driving → ∀ d, s.layout.lock? p = some d → s.reservedBy p = some m →
        (∀ c, s.ost.coils[d.coil g.dir]? = some c → c.owner = some p) → (s.lduMoved m p).coilDemanded (d.coil g.dir) true) := by
  have hrec (b : Bool) : (s.modLdu m (fun k => k.modMember p (Member.away b))).ldu? m = some (g.modMember p (Member.away b)) := by
    rw [ldu?_modLdu, if_pos rfl, h]
    rfl
  rw [lduMoved_away h hx hg hn hc hs]
  by_cases hd : g.state = .driving
  · obtain ⟨-, hldu, -⟩ := (driveLock_energizes m p g.dir (s.modLdu m (fun k => k.modMember p (Member.away true)))).units
    simp only [if_pos hd]
    exact ⟨by rw [State.ldu?, hldu]; exact hrec true,
      fun _ d hl hr ho => driveLock_demandedOn (s := s.modLdu m (fun k => k.modMember p (Member.away true))) hl hr ho⟩
  · simp only [if_neg hd]
    exact ⟨hrec false, fun hd' => absurd hd' hd⟩

end

end Sys2Proof.Machine
end

section
namespace Sys2Proof.Machine

/-! ### Fault reports to a group drive (R81, R131) -/

section
variable {s : State} {m p : Nat} {g : GroupMotion} {x : Member} {code : FaultCode} {fresh : Bool}

theorem lduFault_live (h : s.ldu? m = some g) (hg : g.state = .driving ∨ g.waits) : s.lduFault m p code fresh = (s.lduFail m p code false).lduCheck m := by
  simp only [State.lduFault, h]
  rcases hg with hg | hg | ⟨hg, hh⟩
  · rw [hg]
  · rw [hg]
  · simp [hg, hh]

theorem lduFault_held (h : s.ldu? m = some g) (hg : g.state = .halted) (hh : g.halt = some .hold) :
    s.lduFault m p code fresh = if fresh = true then emit (.cause (pointFaultCause p)) s else s := by simp [State.lduFault, h, hg, hh]

theorem lduFault_over (h : s.ldu? m = some g) (hg : g.state = .done ∨ g.state = .failed) : s.lduFault m p code fresh = s := by
  simp only [State.lduFault, h]
  rcases hg with hg | hg <;> rw [hg]

theorem aduFault_absent (h : s.adu? m = none) : s.aduFault m p code fresh = s := by simp [State.aduFault, h]

theorem lduFault_absent (h : s.ldu? m = none) : s.lduFault m p code fresh = s := by simp [State.lduFault, h]

/-- A report of a group drive's end leaves ADU. -/
theorem adu_lduCheck (m : Nat) (s : State) : (s.lduCheck m).adu = s.adu := by
  rcases lduCheck_cases m s with h | ⟨st, cause, failed, h⟩
  · rw [h]
  · rw [h]
    exact adu_lduEnd _ _ _ _ s

theorem adu_lduFail (m p : Nat) (code : FaultCode) (report : Bool) (s : State) : (s.lduFail m p code report).adu = s.adu := by
  have hdown := memberDown_adu (s := s) (m := m) (p := p) (code := code) (report := report)
  cases hg : s.ldu? m with
  | none => simp [State.lduFail, hg]
  | some g =>
    cases hx : g.member? p with
    | none => simp [State.lduFail, hg, hx]
    | some x =>
      by_cases hs : x.state = .failed
      · rw [lduFail_failed hg hx hs]
      · cases he : g.state.ended with
        | true => rw [lduFail_ended hg he]
        | false =>
          rw [lduFail_down hg hx hs he]
          split
          · exact (adu_lduEnd _ _ _ _ _).trans hdown
          · exact hdown

theorem adu_lduFault (m p : Nat) (code : FaultCode) (fresh : Bool) (s : State) : (s.lduFault m p code fresh).adu = s.adu := by
  have hfail : ((s.lduFail m p code false).lduCheck m).adu = s.adu := (adu_lduCheck _ _).trans (adu_lduFail _ _ _ _ _)
  unfold State.lduFault
  repeat' split
  any_goals exact hfail
  all_goals rfl

/-- The unit of a group drive alone takes a fault report of its member (R13). -/
theorem faulted_group (hm : m ≠ Config.jogMotion) (hr : s.reservedBy p = some m) (ha : s.adu? m = none) :
    runTask (.faulted p code fresh) s = s.lduFault m p code fresh := by
  have ha' : (s.lduFault m p code fresh).adu? m = none := by rw [State.adu?, adu_lduFault]; exact ha
  simp only [runTask, State.tellFault, hr, if_neg hm]
  exact aduFault_absent ha'

end

/-! ### A group drive that is halted (R84) -/

section
variable {s : State} {m : Nat} {g : GroupMotion}

theorem lduHalt_absent (h : s.ldu? m = none) (why : HaltCause) : s.lduHalt m why = s := by simp [State.lduHalt, h]

theorem lduHalt_held (h : s.ldu? m = some g) (hg : g.state = .driving ∨ g.waits) : s.lduHalt m .hold = (s.haltGroup m .hold g).giveUpFlow m := by
  simp only [State.lduHalt, h]
  rcases hg with hg | hg | ⟨hg, hh⟩
  · rw [hg]; rfl
  · rw [hg]; rfl
  · rw [hg, hh]; rfl

theorem lduHalt_starved (h : s.ldu? m = some g) (hg : g.state = .waitingFlow ∨ g.state = .driving) : s.lduHalt m .noFlow = s.haltGroup m .noFlow g := by
  simp only [State.lduHalt, h]
  rcases hg with hg | hg <;> rw [hg] <;> rfl

theorem lduHalt_other (h : s.ldu? m = some g) (hd : g.state ≠ .driving) (hw : ¬ g.waits) : s.lduHalt m .hold = s := by
  simp only [GroupMotion.waits, awaitsFlow, not_or, not_and] at hw
  obtain ⟨hw1, hw2⟩ := hw
  simp only [State.lduHalt, h]
  rw [if_neg (by simp [hd, hw1]), if_neg (by simpa using hw2)]

theorem aduHalt_absent (h : s.adu? m = none) (why : HaltCause) : s.aduHalt m why = s := by simp [State.aduHalt, h]

theorem haltGroup_kept (m : Nat) (why : HaltCause) (g : GroupMotion) (s : State) : (s.haltGroup m why g).hpa = s.hpa ∧ (s.haltGroup m why g).adu = s.adu ∧
    (s.haltGroup m why g).pmn = s.pmn ∧ (s.haltGroup m why g).todo = s.todo := by
  have hoff := State.CoilsOff.groupOff m g s
  obtain ⟨-, hadu, hhpa, hpmn, -⟩ := hoff.kept
  exact ⟨hhpa, hadu, hpmn, hoff.todo⟩

theorem haltGroup_record (h : s.ldu? m = some g) (why : HaltCause) : (s.haltGroup m why g).ldu? m = some (g.haltedBy why) := by
  have hoff := State.GroupRuns.of_coilsOff h (State.CoilsOff.groupOff m g s)
  rw [State.haltGroup, ldu?_modLdu, if_pos rfl, hoff.record]
  rfl

theorem State.Calms.haltGroup (m : Nat) (why : HaltCause) (g : GroupMotion) (s : State) : s.Calms (s.haltGroup m why g) :=
  (State.CoilsOff.groupOff m g s).calms.trans (.modLdu _ _ _)

theorem haltGroup_lockOff (m : Nat) (why : HaltCause) (g : GroupMotion) (s : State) : ∀ x ∈ g.members, s.LockOff (s.haltGroup m why g) m x.point :=
  fun x hx => (groupOff_lockOff m g s x hx).later (.modLdu _ _ _)

theorem giveUpFlow_none {s : State} {m : Nat} (hg : s.hpa.grantOf m = none) (hr : s.hpa.entryOf m = none) : s.giveUpFlow m = s := by
  simp [State.giveUpFlow, hg, hr]

/-- A group drive that stands halted, its flow given up or not. -/
structure State.GroupHalted (s t : State) (m : Nat) (why : HaltCause) (g : GroupMotion) : Prop where
  record : t.ldu? m = some (g.haltedBy why)
  coils  : ∀ x ∈ g.members, s.LockOff t m x.point
  rest   : t.osq = s.osq ∧ t.fixed = s.fixed ∧ ∀ p, t.reservedBy p = s.reservedBy p

theorem haltGroup_halted (h : s.ldu? m = some g) (why : HaltCause) : s.GroupHalted (s.haltGroup m why g) m why g := by
  obtain ⟨-, -, hpmn, -⟩ := haltGroup_kept m why g s
  have hc := State.Calms.haltGroup m why g s
  exact ⟨haltGroup_record h why, haltGroup_lockOff m why g s, hc.osq, hc.fixed, fun p => by rw [State.reservedBy, hpmn]; rfl⟩

/-- The halt stands through acts that leave the record and the reservations. -/
theorem State.GroupHalted.later {t u : State} {why : HaltCause} (h : s.GroupHalted t m why g) (hc : t.Calms u) (hl : u.ldu = t.ldu)
    (hr : ∀ p, u.reservedBy p = t.reservedBy p) : s.GroupHalted u m why g := by
  obtain ⟨hosq, hfix, hres⟩ := h.rest
  exact ⟨by rw [State.ldu?, hl]; exact h.record, fun x hx => (h.coils x hx).later hc, hc.osq.trans hosq, hc.fixed.trans hfix, fun p => (hr p).trans (hres p)⟩

/-- A hold halts a group drive that drives or waits (R84). -/
theorem lduHalt_hold_halted (h : s.ldu? m = some g) (hg : g.state = .driving ∨ g.waits) : s.GroupHalted (s.lduHalt m .hold) m .hold g := by
  obtain ⟨hldu, -, hpmn, -⟩ := giveUpFlow_kept m (s.haltGroup m .hold g)
  rw [lduHalt_held h hg]
  exact (haltGroup_halted h .hold).later (.giveUpFlow m _) hldu fun p => by rw [State.reservedBy, hpmn]; rfl

/-- A hold gives up the flow of the motion. -/
theorem lduHalt_hold_flow (h : s.ldu? m = some g) (hg : g.state = .driving ∨ g.waits) :
    (s.lduHalt m .hold).hpa.grantOf m = none ∧ (s.lduHalt m .hold).hpa.entryOf m = none ∧
      (s.hpa.grantOf m = none → s.hpa.entryOf m = none → (s.lduHalt m .hold).hpa = s.hpa ∧ (s.lduHalt m .hold).todo = s.todo) := by
  obtain ⟨hhpa, -, -, htodo⟩ := haltGroup_kept m .hold g s
  obtain ⟨hgrant, hentry⟩ := giveUpFlow_gone m (s.haltGroup m .hold g)
  rw [lduHalt_held h hg]
  refine ⟨hgrant, hentry, fun h1 h2 => ?_⟩
  rw [giveUpFlow_none (by rw [hhpa]; exact h1) (by rw [hhpa]; exact h2)]
  exact ⟨hhpa, htodo⟩

theorem aduHalt_kept (m : Nat) (why : HaltCause) (s : State) : (s.aduHalt m why).ldu = s.ldu ∧ (∀ p, (s.aduHalt m why).reservedBy p = s.reservedBy p) ∧
    s.Calms (s.aduHalt m why) := by
  have hmove (i : Nat) : s.Calms (s.haltMove m why i) := (State.Calms.zeroProps i s).trans (.modAdu _ _ _)
  rcases aduHalt_cases m why s with h | ⟨i, t, ht, h⟩
  · rw [h]
    exact ⟨rfl, fun _ => rfl, .refl s⟩
  · have hkept : t.ldu = s.ldu ∧ (∀ p, t.reservedBy p = s.reservedBy p) ∧ s.Calms t := by
      rcases ht with rfl | rfl
      · exact ⟨rfl, fun _ => rfl, hmove i⟩
      · exact ⟨setDrive_ldu i .halted _, fun p => reservedBy_setDrive i .halted _ p, (hmove i).trans (.setDrive _ _ _)⟩
    obtain ⟨hldu, hres, hcalm⟩ := hkept
    rcases h with h | h
    · rw [h]
      exact ⟨hldu, hres, hcalm⟩
    · obtain ⟨hldu', -, hpmn', -⟩ := giveUpFlow_kept m t
      rw [h]
      exact ⟨hldu'.trans hldu, fun p => (by rw [State.reservedBy, hpmn']; exact hres p), hcalm.trans (.giveUpFlow m t)⟩

/-- The loss of flow halts an axis move without touching HPA (R101). -/
theorem aduHalt_starved_hpa (m : Nat) (s : State) : (s.aduHalt m .noFlow).hpa = s.hpa := by
  unfold State.aduHalt
  split
  · rfl
  · rename_i a _
    dsimp only
    split
    · obtain ⟨-, -, hhpa, -⟩ := setDrive_kept a.axis .halted (s.haltMove m .noFlow a.axis)
      rw [if_neg (by decide)]
      split
      · rfl
      · exact hhpa
    · rw [if_neg (by simp)]

end

/-! ### A group drive that gets its grant (R67, R75, R84) -/

/-- From `s` to `e` coils have been demanded on, and their banks' faults reported. -/
structure State.PowersOn (s e : State) : Prop where
  units    : e.hpa = s.hpa ∧ e.ldu = s.ldu ∧ e.adu = s.adu ∧ e.osq = s.osq
  fixed    : e.fixed = s.fixed
  reserved : ∀ p, e.reservedBy p = s.reservedBy p
  owners   : ∀ i : Nat, e.ost.coils[i]?.map (fun c => c.owner) = s.ost.coils[i]?.map (fun c => c.owner)
  demanded : ∀ o, s.coilDemanded o true → e.coilDemanded o true

theorem State.PowersOn.refl (s : State) : s.PowersOn s := ⟨⟨rfl, rfl, rfl, rfl⟩, rfl, fun _ => rfl, fun _ => rfl, fun _ h => h⟩

theorem State.PowersOn.trans {s m e : State} (h : s.PowersOn m) (k : m.PowersOn e) : s.PowersOn e := by
  obtain ⟨h1, h2, h3, h4⟩ := h.units
  obtain ⟨k1, k2, k3, k4⟩ := k.units
  exact ⟨⟨k1.trans h1, k2.trans h2, k3.trans h3, k4.trans h4⟩, k.fixed.trans h.fixed, fun p => (k.reserved p).trans (h.reserved p),
    fun i => (k.owners i).trans (h.owners i), fun o ho => k.demanded o (h.demanded o ho)⟩

theorem State.PowersOn.foldl {α : Type} {f : State → α → State} (h : ∀ x a, State.PowersOn x (f x a)) (l : List α) (s : State) : s.PowersOn (l.foldl f s) := by
  induction l generalizing s with
  | nil => exact .refl s
  | cons a l ih => exact (h s a).trans (ih _)

theorem putDemand_reservedBy (out owner : Nat) (on : Bool) (s : State) (p : Nat) : (s.putDemand out owner on).reservedBy p = s.reservedBy p := by
  unfold State.putDemand
  dsimp only
  split
  · exact reservedBy_recordFault _ _ _ p
  · rfl

theorem State.PowersOn.putDemand (out owner : Nat) (s : State) (hfix : (s.putDemand out owner true).fixed = s.fixed) : s.PowersOn (s.putDemand out owner true) := by
  have hu := putDemand_on out owner s
  simp only [State.units, Units.mk.injEq] at hu
  obtain ⟨h1, h2, h3, h4, h5, -⟩ := hu
  refine ⟨⟨h1, h2, h3, h4⟩, hfix, putDemand_reservedBy out owner true s, fun i => ?_, fun o ho c hc => ?_⟩
  · rw [h5, getElem?_lmod]
    split
    · rw [Option.map_map]
      exact congrArg (fun f => Option.map f _) (funext fun c => owner_follow _ _)
    · rfl
  · rw [h5, getElem?_lmod] at hc
    split at hc
    · obtain ⟨c', -, rfl⟩ := Option.map_eq_some_iff.1 hc
      exact ⟨follow_demand _ _, fun h => nomatch h⟩
    · exact ho c hc

theorem State.PowersOn.driveLock (m p : Nat) (dir : LockDir) (s : State) : s.PowersOn (s.driveLock m p dir true) := by
  have hfix : (s.driveLock m p dir true).fixed = s.fixed := fixed_driveLock _ _ _ _ _
  unfold State.driveLock State.demandCoil at hfix ⊢
  split
  · rename_i d hd
    rw [hd] at hfix
    dsimp only at hfix
    split
    · rename_i q hq
      rw [hq] at hfix
      dsimp only at hfix
      split
      · rename_i hr
        rw [if_pos hr] at hfix
        exact .putDemand _ _ s hfix
      · exact .refl s
    · exact .refl s
  · exact .refl s

/-- A member as the grant finds it: the timer of what it is to do starts at its limit. -/
def Member.driven (backOff : Nat) (x : Member) : Member :=
  if x.state = .driving then { x with travel := some x.limit } else if x.state = .backingOff then { x with back := some backOff } else x

/-- A group drive's record once it has its grant. -/
def GroupMotion.granting (flow : Nat) (g : GroupMotion) : GroupMotion :=
  { g with state := .driving, halt := none, granted := some flow, members := g.members.map (Member.driven g.backOff) }

/-- A member's coil is energized: toward the target, or away from it while it backs off. -/
def State.energize (m : Nat) (dir : LockDir) (x : State) (e : Member) : State :=
  if e.state = .driving then x.driveLock m e.point dir true else if e.state = .backingOff then x.driveLock m e.point dir.opposite true else x

section
variable {s : State} {m flow : Nat} {g : GroupMotion}

theorem lduDrive_eq (h : s.ldu? m = some g) : s.lduDrive m flow = g.members.foldl (State.energize m g.dir) (s.modLdu m (GroupMotion.granting flow)) := by
  have hrec (k : GroupMotion) : ({ k with
      state := .driving, halt := none, granted := some flow
      members := k.members.map (fun e =>
        match e.state with
        | .driving => { e with travel := some e.limit }
        | .backingOff => { e with back := some k.backOff }
        | .done => e
        | .failed => e) } : GroupMotion) = k.granting flow := by
    refine congrArg (fun l => { k with state := .driving, halt := none, granted := some flow, members := l }) (List.map_congr_left fun e _ => ?_)
    unfold Member.driven
    cases e.state <;> rfl
  have hacts : (fun (x : State) (e : Member) =>
      match e.state with
      | .driving => x.driveLock m e.point g.dir true
      | .backingOff => x.driveLock m e.point g.dir.opposite true
      | .done => x
      | .failed => x) = State.energize m g.dir := by
    funext x e
    unfold State.energize
    cases e.state <;> rfl
  simp only [State.lduDrive, h]
  exact congrArg₂ (fun f x => List.foldl f x g.members) hacts (congrArg (fun f => State.modLdu m f s) (funext hrec))

theorem energize_powersOn (m : Nat) (dir : LockDir) (x : State) (e : Member) : x.PowersOn (x.energize m dir e) := by
  unfold State.energize
  split
  · exact .driveLock _ _ _ x
  · split
    · exact .driveLock _ _ _ x
    · exact .refl x

/-- A lock's coil is demanded on where the motion reserves the lock and the lock owns the coil (R11, R142). -/
def State.Energized (s t : State) (m p : Nat) (dir : LockDir) : Prop := ∀ d, s.layout.lock? p = some d → s.reservedBy p = some m →
  (∀ c, s.ost.coils[d.coil dir]? = some c → c.owner = some p) → t.coilDemanded (d.coil dir) true

theorem State.Energized.of_start {r t : State} {p : Nat} {dir : LockDir} (h : r.Energized t m p dir) (k : s.PowersOn r) : s.Energized t m p dir := by
  intro d hd hr ho
  refine h d (by rw [layout_of_fixed k.fixed]; exact hd) (by rw [k.reserved]; exact hr) fun c hc => ?_
  have hown := k.owners (d.coil dir)
  rw [hc] at hown
  obtain ⟨c', hc', he⟩ := Option.map_eq_some_iff.1 hown.symm
  exact he.symm.trans (ho c' hc')

theorem State.Energized.later {t u : State} {p : Nat} {dir : LockDir} (h : s.Energized t m p dir) (k : t.PowersOn u) : s.Energized u m p dir :=
  fun d hd hr ho => k.demanded _ (h d hd hr ho)

/-- A member's own coil, once it is its turn. -/
theorem energize_energized (m : Nat) (dir : LockDir) (x : State) (e : Member) :
    (e.state = .driving → x.Energized (x.energize m dir e) m e.point dir) ∧
      (e.state = .backingOff → x.Energized (x.energize m dir e) m e.point dir.opposite) := by
  refine ⟨fun hs d hd hr ho => ?_, fun hs d hd hr ho => ?_⟩
  · rw [State.energize, if_pos hs]
    exact driveLock_demandedOn hd hr ho
  · rw [State.energize, if_neg (by rw [hs]; decide), if_pos hs]
    exact driveLock_demandedOn hd hr ho

/-- Every member's coil is demanded on by the time the last has had its turn. -/
theorem foldl_energize (m : Nat) (dir : LockDir) (l : List Member) (s : State) : ∀ x ∈ l,
    (x.state = .driving → s.Energized (l.foldl (State.energize m dir) s) m x.point dir) ∧
      (x.state = .backingOff → s.Energized (l.foldl (State.energize m dir) s) m x.point dir.opposite) := by
  induction l generalizing s with
  | nil => exact fun _ h => nomatch h
  | cons e l ih =>
    intro x hx
    have hstep := energize_powersOn m dir s e
    have hrest := State.PowersOn.foldl (energize_powersOn m dir) l (s.energize m dir e)
    rcases List.mem_cons.1 hx with rfl | hx
    · obtain ⟨hd, hb⟩ := energize_energized m dir s x
      exact ⟨fun hs => (hd hs).later hrest, fun hs => (hb hs).later hrest⟩
    · obtain ⟨hd, hb⟩ := ih (s.energize m dir e) x hx
      exact ⟨fun hs => (hd hs).of_start hstep, fun hs => (hb hs).of_start hstep⟩

/-- What a grant that LDU takes makes of the motion. -/
structure State.GroupDrives (s t : State) (m flow : Nat) (g : GroupMotion) : Prop where
  record : t.ldu? m = some (g.granting flow)
  coils  : ∀ x ∈ g.members, (x.state = .driving → s.Energized t m x.point g.dir) ∧ (x.state = .backingOff → s.Energized t m x.point g.dir.opposite)
  others : ∀ n, n ≠ m → t.ldu? n = s.ldu? n
  rest   : t.adu = s.adu ∧ t.osq = s.osq ∧ t.hpa = s.hpa ∧ t.fixed = s.fixed

theorem lduDrive_drives (h : s.ldu? m = some g) : s.GroupDrives (s.lduDrive m flow) m flow g := by
  have hpow := State.PowersOn.foldl (energize_powersOn m g.dir) g.members (s.modLdu m (GroupMotion.granting flow))
  obtain ⟨hhpa, hldu, hadu, hosq⟩ := hpow.units
  rw [lduDrive_eq h]
  refine ⟨?_, foldl_energize m g.dir g.members (s.modLdu m (GroupMotion.granting flow)), fun n hn => ?_, hadu, hosq, hhpa, hpow.fixed⟩
  · rw [State.ldu?, hldu]
    show (s.modLdu m _).ldu? m = _
    rw [ldu?_modLdu, if_pos rfl, h]
    rfl
  · rw [State.ldu?, hldu]
    show (s.modLdu m _).ldu? n = _
    rw [ldu?_modLdu, if_neg (Ne.symm hn)]

variable {q : Grant}

/-- A halted motion's watched entry is found unsatisfied (R51, R84). -/
def brokenWatch (s : State) (st : MotionState) (w : Option Subject) (c : Nat) : Prop := st = .halted ∧ w.bind s.permissive = some c

theorem lduGrant_drives (h : s.ldu? m = some g) (hq : s.hpa.grantOf m = some q) (hw : g.waits) (hb : ∀ c, ¬ brokenWatch s g.state g.watched c) :
    s.lduGrant m = s.lduDrive m q.flow := by
  simp only [State.lduGrant, h, hq]
  rcases hw with hg | ⟨hg, hh⟩
  · simp [hg]
  · have hnone : s.watchBroken g.watched = none := Option.eq_none_iff_forall_ne_some.2 fun c hc => hb c ⟨hg, hc⟩
    simp [hg, hh, hnone, MotionState.live]

theorem lduGrant_broken (h : s.ldu? m = some g) (hq : s.hpa.grantOf m = some q) (hw : g.waits) {c : Nat} (hb : brokenWatch s g.state g.watched c) :
    s.lduGrant m = emit (.cause (permissiveCause c)) s := by
  obtain ⟨hg, hc⟩ := hb
  have hh : g.halt = some .noFlow := by
    rcases hw with hw | ⟨-, hh⟩
    · rw [hg] at hw; cases hw
    · exact hh
  have hsome : s.watchBroken g.watched = some c := hc
  simp [State.lduGrant, h, hq, hg, hh, hsome, MotionState.live]

theorem lduGrant_stands (h : s.ldu? m = some g) (hq : s.hpa.grantOf m = some q) (hg : g.state = .driving ∨ g.state = .settling) : s.lduGrant m = s := by
  simp only [State.lduGrant, h, hq]
  rcases hg with hg | hg <;> rw [hg] <;> rfl

theorem lduGrant_released (h : s.ldu? m = some g) (hq : s.hpa.grantOf m = some q) (hw : ¬ g.waits) (hd : g.state ≠ .driving) (hs : g.state ≠ .settling) :
    s.lduGrant m = s.giveUpFlow m := by
  simp only [GroupMotion.waits, awaitsFlow, not_or, not_and] at hw
  obtain ⟨hw1, hw2⟩ := hw
  have hlive : ¬ g.state.live = true := fun hl => ((live_iff _).1 hl).elim hw1 fun hl => hl.elim hd hs
  simp only [State.lduGrant, h, hq]
  rw [if_neg (by simpa using hw1), if_neg hlive, if_neg (by simpa using hw2)]

/-- A grant that no motion stands on is released (R67). -/
theorem giveUpFlow_released (hq : s.hpa.grantOf m = some q) : (s.giveUpFlow m).hpa.grantOf m = none ∧ Task.pass ∈ (s.giveUpFlow m).todo := by
  refine ⟨(giveUpFlow_gone m s).1, ?_⟩
  rw [State.giveUpFlow, if_pos (by rw [hq]; rfl)]
  exact List.mem_append_right _ (List.mem_singleton_self _)

end

end Sys2Proof.Machine
end

section
namespace Sys2Proof.Machine

/-! ### A group drive that is re-issued (R84) -/

/-- A member as the re-issue finds it. -/
def State.reissued (s : State) (dir : LockDir) (x : Member) : Member := { x with
  state :=
    if x.state = .failed then .failed
    else if s.confirmed x.point = dir.target then .done
    else if x.state = .backingOff then .backingOff else .driving }

/-- A group drive's record when it is re-issued, before its bad members fail. -/
def State.groupAgain (s : State) (g : GroupMotion) : GroupMotion :=
  { g with
    state := .waitingFlow, halt := none, watched := s.watchFor (.group g.group g.dir), members := g.members.map (s.reissued g.dir) }

/-- The members that fail a re-issue: those with a fault, and those in CONFLICT. -/
def State.badMembers (s : State) (g : GroupMotion) : List Nat :=
  (g.members.filter (fun x => x.state != .failed && ((s.faultOf x.point).isSome || s.confirmed x.point == .conflict))).map (fun x => x.point)

/-- The code with which a bad member fails: its own, or SENSOR_CONFLICT, which LDU reports. -/
def State.failBad (s : State) (m : Nat) (x : State) (p : Nat) : State := x.lduFail m p ((s.faultOf p).getD .sensorConflict) (s.faultOf p).isNone

/-- The request of a re-issued motion that has not ended. -/
def State.askAgain (m : Nat) (x : State) : State :=
  match x.ldu? m with
  | some h => if h.state == .waitingFlow then x.request m .locking h.requested h.requested else x
  | none => x

section
variable {s e : State} {m : Nat} {g h : GroupMotion}

theorem memberAgain_eq (s : State) (dir : LockDir) (x : Member) : ({ x with state := s.memberAgain dir x } : Member) = s.reissued dir x := by
  unfold State.memberAgain State.reissued
  cases x.state with
  | failed => rfl
  | done => by_cases hc : s.confirmed x.point = dir.target <;> simp [hc]
  | driving => by_cases hc : s.confirmed x.point = dir.target <;> simp [hc]
  | backingOff => by_cases hc : s.confirmed x.point = dir.target <;> simp [hc]

theorem lduReissue_eq (hr : s.ldu? m = some g) (hg : g.state = .halted) (hh : g.halt = some .hold) :
    s.lduReissue m = (((s.badMembers g).foldl (s.failBad m) (s.modLdu m s.groupAgain)).lduCheck m).askAgain m := by
  have hagain : (fun x : GroupMotion => ({ x with
      state := .waitingFlow, halt := none, watched := s.watchFor (.group x.group x.dir)
      members := x.members.map (fun e => { e with state := s.memberAgain x.dir e }) } : GroupMotion)) = s.groupAgain := by
    funext x
    simp only [memberAgain_eq]
    rfl
  have hfail : (fun (x : State) (p : Nat) =>
      match s.faultOf p with
      | some c => x.lduFail m p c false
      | none => x.lduFail m p .sensorConflict true) = s.failBad m := by
    funext x p
    unfold State.failBad
    cases s.faultOf p <;> rfl
  have hcond : (g.state == .halted && g.halt == some .hold) = true := by simp [hg, hh]
  simp only [State.lduReissue, hr, if_pos hcond]
  rw [hagain]
  refine congrArg (State.askAgain m) (congrArg (State.lduCheck m) ?_)
  exact congrArg (fun f => List.foldl f _ (s.badMembers g)) hfail

theorem groupAgain_points (s : State) (g : GroupMotion) : (s.groupAgain g).members.map (fun x => x.point) = g.members.map (fun x => x.point) := by
  simp [State.groupAgain, State.reissued]

theorem groupAgain_runs (hr : s.ldu? m = some g) : s.GroupRuns (s.modLdu m s.groupAgain) m g (s.groupAgain g) := .modLdu hr (groupAgain_points s g)

theorem askAgain_ended (hr : e.ldu? m = some h) (hs : h.state.ended = true) : e.askAgain m = e := by
  have hne : ¬ (h.state == .waitingFlow) = true := by
    intro hw
    rw [beq_iff_eq] at hw
    rw [hw] at hs
    cases hs
  simp only [State.askAgain, hr]
  exact if_neg hne

theorem askAgain_waiting (hr : e.ldu? m = some h) (hs : h.state = .waitingFlow) : e.askAgain m = e.request m .locking h.requested h.requested := by
  simp only [State.askAgain, hr]
  exact if_pos (by simp [hs])

/-- A group drive that has ended asks for no flow. -/
theorem State.GroupEnded.askAgain {st : MotionState} {cause : Option FailCause} {failed : List Nat} (k : s.GroupEnded e m st cause failed) (hst : st.ended = true) :
    s.GroupEnded (e.askAgain m) m st cause failed := by
  obtain ⟨h, hrec, hstate, -⟩ := k.record
  rw [askAgain_ended hrec (hstate ▸ hst)]
  exact k

/-- Asking for flow leaves the records. -/
theorem askAgain_ldu (m : Nat) (e : State) : (e.askAgain m).ldu = e.ldu := by
  unfold State.askAgain
  split
  · split <;> rfl
  · rfl

/-- A re-issue without bad members: the motion has come to its end, or asks for its flow. -/
theorem lduReissue_clean (hr : s.ldu? m = some g) (hg : g.state = .halted) (hh : g.halt = some .hold) (hb : s.badMembers g = []) :
    s.GoesOn (s.lduReissue m) m (s.groupAgain g) := by
  have hgo := (groupAgain_runs hr).check rfl
  rw [lduReissue_eq hr hg hh, hb, List.foldl_nil]
  exact
    { moving := fun hi => by rw [State.ldu?, askAgain_ldu]; exact hgo.moving hi
      done := fun hi hf => (hgo.done hi hf).askAgain rfl
      failed := fun hi hf => (hgo.failed hi hf).askAgain rfl }

theorem lduReissue_asks (hr : s.ldu? m = some g) (hg : g.state = .halted) (hh : g.halt = some .hold) (hb : s.badMembers g = [])
    (hi : ¬ (s.groupAgain g).idle) : s.lduReissue m = (s.modLdu m s.groupAgain).request m .locking g.requested g.requested := by
  have hrec := (groupAgain_runs hr).record
  rw [lduReissue_eq hr hg hh, hb, List.foldl_nil, lduCheck_moving hrec hi, askAgain_waiting hrec rfl]
  rfl

/-- An ended motion takes no more failures. -/
theorem foldl_failBad_ended (l : List Nat) (hr : e.ldu? m = some h) (hs : h.state.ended = true) : l.foldl (s.failBad m) e = e := by
  induction l with
  | nil => rfl
  | cons p l ih =>
    have hstep : s.failBad m e p = e := lduFail_ended hr hs
    rw [List.foldl_cons, hstep, ih]

/-- The member at a point is found where no two members share one. -/
theorem member?_of_mem (hn : (g.members.map (fun x => x.point)).Nodup) {x : Member} (hx : x ∈ g.members) : g.member? x.point = some x := by
  unfold GroupMotion.member?
  cases hf : g.members.find? (fun y => y.point == x.point) with
  | none => exact absurd (List.find?_eq_none.1 hf x hx) (by simp)
  | some y =>
    have hy := List.mem_of_find?_eq_some hf
    have hp : y.point = x.point := by simpa using List.find?_some hf
    rw [List.inj_on_of_nodup_map hn hy hx hp]

theorem reissued_not_failed {dir : LockDir} {x : Member} (h : x.state ≠ .failed) : (s.reissued dir x).state ≠ .failed := by
  show (if x.state = .failed then MemberState.failed else _) ≠ _
  rw [if_neg h]
  split
  · decide
  · split <;> decide

theorem mem_badMembers {p : Nat} (h : p ∈ s.badMembers g) : ∃ x ∈ g.members, x.point = p ∧ x.state ≠ .failed := by
  obtain ⟨x, hx, hp⟩ := List.mem_map.1 h
  obtain ⟨hmem, hcond⟩ := List.mem_filter.1 hx
  exact ⟨x, hmem, hp, by simpa using (Bool.and_eq_true_iff.1 hcond).1⟩

/-- A bad member is found, not failed, in the re-issued record. -/
theorem groupAgain_bad (hn : (g.members.map (fun x => x.point)).Nodup) {p : Nat} (h : p ∈ s.badMembers g) :
    ∃ x, (s.groupAgain g).member? p = some x ∧ x.state ≠ .failed := by
  obtain ⟨x, hx, rfl, hs⟩ := mem_badMembers h
  have hmem : s.reissued g.dir x ∈ (s.groupAgain g).members := List.mem_map.2 ⟨x, hx, rfl⟩
  exact ⟨s.reissued g.dir x, member?_of_mem (by rw [groupAgain_points]; exact hn) hmem, reissued_not_failed hs⟩

/-- Under STOP_GROUP the first bad member fails the motion (R82, R84). -/
theorem lduReissue_stopped (hr : s.ldu? m = some g) (hg : g.state = .halted) (hh : g.halt = some .hold) (hn : (g.members.map (fun x => x.point)).Nodup)
    {p : Nat} {rest : List Nat} (hb : s.badMembers g = p :: rest) (hp : g.policy = .stopGroup) :
    s.GroupEnded (s.lduReissue m) m .failed (some (.point ((s.faultOf p).getD .sensorConflict))) [p] := by
  have hruns := groupAgain_runs (s := s) hr
  obtain ⟨x, hx, hs⟩ := groupAgain_bad (s := s) hn (p := p) (by rw [hb]; exact List.mem_cons_self ..)
  have hdown := memberDown_runs hruns.record p ((s.faultOf p).getD .sensorConflict) (s.faultOf p).isNone
  have hend := (hruns.trans hdown).ended .failed (some (.point ((s.faultOf p).getD .sensorConflict))) [p]
  obtain ⟨k, hk, hstate, -⟩ := hend.record
  have hover : k.state.ended = true := by rw [hstate]; rfl
  have hfirst : s.failBad m (s.modLdu m s.groupAgain) p = _ := (lduFail_down hruns.record hx hs rfl).trans (if_pos hp)
  rw [lduReissue_eq hr hg hh, hb, List.foldl_cons, hfirst, foldl_failBad_ended rest hk hover, lduCheck_ended hk hover, askAgain_ended hk hover]
  exact hend

/-- A CARRY_ON motion under re-issue: it still waits, its members have the points they had, and those at the points dealt with have failed. -/
structure GroupMotion.CarriesOn (h : GroupMotion) (points done : List Nat) : Prop where
  state  : h.state = .waitingFlow
  policy : h.policy = .carryOn
  points : h.members.map (fun x => x.point) = points
  failed : ∀ x ∈ h.members, x.point ∈ done → x.state = .failed

theorem GroupMotion.CarriesOn.memberFailed {points done : List Nat} (k : h.CarriesOn points done) (p : Nat) (code : FaultCode) :
    (h.memberFailed p code).CarriesOn points (p :: done) := by
  refine ⟨k.state, k.policy, (modMember_points p Member.failed (fun _ => rfl) h).trans k.points, fun x hx hd => ?_⟩
  obtain ⟨y, hy, rfl⟩ := List.mem_map.1 hx
  split
  · rfl
  · rename_i hyp
    rw [if_neg hyp] at hd
    exact k.failed y hy ((List.mem_cons.1 hd).resolve_left hyp)

theorem GroupMotion.CarriesOn.already {points done : List Nat} (k : h.CarriesOn points done) (hn : points.Nodup) {p : Nat} {x : Member} (hx : h.member? p = some x)
    (hs : x.state = .failed) : h.CarriesOn points (p :: done) := by
  refine ⟨k.state, k.policy, k.points, fun y hy hd => ?_⟩
  rcases List.mem_cons.1 hd with hp | hd
  · have hfound := member?_of_mem (g := h) (by rw [k.points]; exact hn) hy
    rw [hp, hx] at hfound
    cases hfound
    exact hs
  · exact k.failed y hy hd

/-- Under CARRY_ON every bad member fails and the motion goes on waiting. -/
theorem foldl_failBad_carries {points : List Nat} (hn : points.Nodup) (l : List Nat) (hl : ∀ p ∈ l, p ∈ points) (done : List Nat) (e : State) (h : GroupMotion)
    (hr : e.ldu? m = some h) (k : h.CarriesOn points done) :
    ∃ h', (l.foldl (s.failBad m) e).ldu? m = some h' ∧ h'.CarriesOn points (l.reverse ++ done) := by
  induction l generalizing done e h with
  | nil => exact ⟨h, hr, k⟩
  | cons p l ih =>
    have hp : p ∈ h.members.map (fun x => x.point) := by rw [k.points]; exact hl p (List.mem_cons_self ..)
    obtain ⟨x, hx, rfl⟩ := List.mem_map.1 hp
    have hfound : h.member? x.point = some x := member?_of_mem (by rw [k.points]; exact hn) hx
    have hstep : ∃ h', (s.failBad m e x.point).ldu? m = some h' ∧ h'.CarriesOn points (x.point :: done) := by
      by_cases hs : x.state = .failed
      · exact ⟨h, by rw [State.failBad, lduFail_failed hr hfound hs]; exact hr, k.already hn hfound hs⟩
      · refine ⟨h.memberFailed x.point ((s.faultOf x.point).getD .sensorConflict), ?_, k.memberFailed _ _⟩
        rw [State.failBad, lduFail_down hr hfound hs (by rw [k.state]; rfl), if_neg (by rw [k.policy]; decide)]
        exact (memberDown_runs hr _ _ _).record
    obtain ⟨h', hr', k'⟩ := hstep
    obtain ⟨h'', hr'', k''⟩ := ih (fun q hq => hl q (List.mem_cons_of_mem _ hq)) _ _ _ hr' k'
    exact ⟨h'', hr'', by rw [List.reverse_cons, List.append_assoc]; exact k''⟩

/-- An end keeps what members have failed. -/
theorem lduCheck_keepsFailed {done : List Nat} (hr : e.ldu? m = some h) (hf : ∀ x ∈ h.members, x.point ∈ done → x.state = .failed) {h' : GroupMotion}
    (hr' : (e.lduCheck m).ldu? m = some h') : ∀ x ∈ h'.members, x.point ∈ done → x.state = .failed := by
  rcases lduCheck_cases m e with he | ⟨st, cause, failed, he⟩
  · rw [he, hr] at hr'
    cases hr'
    exact hf
  · rw [he, ldu?_lduEnd hr, if_pos rfl] at hr'
    cases hr'
    intro x hx hd
    obtain ⟨y, hy, rfl⟩ := List.mem_map.1 hx
    exact hf y hy hd

theorem lduReissue_carried (hr : s.ldu? m = some g) (hg : g.state = .halted) (hh : g.halt = some .hold) (hn : (g.members.map (fun x => x.point)).Nodup)
    (hp : g.policy = .carryOn) {h : GroupMotion} (hrec : (s.lduReissue m).ldu? m = some h) : ∀ x ∈ h.members, x.point ∈ s.badMembers g → x.state = .failed := by
  have hsub : ∀ p ∈ s.badMembers g, p ∈ g.members.map (fun x => x.point) := fun p hp => by
    obtain ⟨x, hx, hxp, -⟩ := mem_badMembers hp
    exact List.mem_map.2 ⟨x, hx, hxp⟩
  obtain ⟨k, hk, hcarry⟩ := foldl_failBad_carries (s := s) hn (s.badMembers g) hsub [] _ _ (groupAgain_runs hr).record
    ⟨rfl, hp, groupAgain_points s g, fun _ _ h => nomatch h⟩
  rw [lduReissue_eq hr hg hh, State.ldu?, askAgain_ldu] at hrec
  intro x hx hb
  exact lduCheck_keepsFailed hk hcarry.failed hrec x hx (List.mem_append_left _ (List.mem_reverse.2 hb))

end

end Sys2Proof.Machine
end

section
namespace Sys2Proof.Machine

/-! ### An axis move that gets its grant (R67, R92, R101) -/

/-- A move waits for flow (R101). -/
@[reducible] def AxisMotion.waits (a : AxisMotion) : Prop := a.state = .waitingFlow ∨ (a.state = .halted ∧ a.halt = some .noFlow)

/-- A move goes on, waiting or driven. -/
def AxisMotion.moves (a : AxisMotion) : Prop := a.waits ∨ a.state = .driving ∨ a.state = .settling

theorem AxisMotion.moves_iff (a : AxisMotion) : a.moves ↔ a.state.live = true ∨ (a.state = .halted ∧ a.halt = some .noFlow) := by
  rw [live_iff]
  unfold AxisMotion.moves
  tauto

/-- A move's record once it drives. -/
def AxisMotion.driven (d : AxisDef) (flow p : Nat) (a : AxisMotion) : AxisMotion :=
  { a with
    state := .driving, halt := none, granted := some flow, travel := some (d.limit a.dir), settle := none
    stall := some { left := d.stallWindow, start := p } }

section
variable {s : State} {m flow p : Nat} {a : AxisMotion} {d : AxisDef} {y : AxisDyn} {q : Grant}

theorem aduGrant_starts (h : s.adu? m = some a) (hq : s.hpa.grantOf m = some q) (hw : a.waits) (hb : ∀ c, ¬ brokenWatch s a.state a.watched c) :
    s.aduGrant m = s.aduStart m q.flow := by
  simp only [State.aduGrant, h, hq]
  rcases hw with hg | ⟨hg, hh⟩
  · simp [hg]
  · have hnone : s.watchBroken a.watched = none := Option.eq_none_iff_forall_ne_some.2 fun c hc => hb c ⟨hg, hc⟩
    simp [hg, hh, hnone, MotionState.live]

theorem aduGrant_broken (h : s.adu? m = some a) (hq : s.hpa.grantOf m = some q) (hw : a.waits) {c : Nat} (hb : brokenWatch s a.state a.watched c) :
    s.aduGrant m = emit (.cause (permissiveCause c)) s := by
  obtain ⟨hg, hc⟩ := hb
  have hh : a.halt = some .noFlow := by
    rcases hw with hw | ⟨-, hh⟩
    · rw [hg] at hw; cases hw
    · exact hh
  have hsome : s.watchBroken a.watched = some c := hc
  simp [State.aduGrant, h, hq, hg, hh, hsome, MotionState.live]

theorem aduGrant_stands (h : s.adu? m = some a) (hq : s.hpa.grantOf m = some q) (hg : a.state = .driving ∨ a.state = .settling) : s.aduGrant m = s := by
  simp only [State.aduGrant, h, hq]
  rcases hg with hg | hg <;> rw [hg] <;> rfl

theorem aduGrant_released (h : s.adu? m = some a) (hq : s.hpa.grantOf m = some q) (hw : ¬ a.waits) (hd : a.state ≠ .driving) (hs : a.state ≠ .settling) :
    s.aduGrant m = s.giveUpFlow m := by
  simp only [AxisMotion.waits, not_or, not_and] at hw
  obtain ⟨hw1, hw2⟩ := hw
  have hlive : ¬ a.state.live = true := fun hl => ((live_iff _).1 hl).elim hw1 fun hl => hl.elim hd hs
  simp only [State.aduGrant, h, hq]
  rw [if_neg (by simpa using hw1), if_neg hlive, if_neg (by simpa using hw2)]

/-- A move that drives, its float ended, before its first control interval (R92). -/
def State.moveDriven (s : State) (m flow p : Nat) (a : AxisMotion) (d : AxisDef) : State :=
  ((s.floatEnd a.axis).modAdu m (AxisMotion.driven d flow p)).setDrive a.axis .driving

theorem floatEnd_axis? (i q : Nat) (s : State) : (s.floatEnd i).axis? q = s.axis? q := by
  obtain ⟨hpmn, -⟩ := (floatEnd_ended i s).kept
  rw [State.axis?, hpmn]
  rfl

theorem floatEnd_adu? (i n : Nat) (s : State) : (s.floatEnd i).adu? n = s.adu? n := by
  obtain ⟨-, -, -, hadu, -⟩ := (floatEnd_ended i s).kept
  rw [State.adu?, hadu]
  rfl

theorem aduStart_eq (h : s.adu? m = some a) (hd : s.layout.axis? a.axis = some d) (hy : s.axis? a.axis = some y) (hp : y.p = some p) :
    s.aduStart m flow = if s.runAsserted = true then (s.moveDriven m flow p a d).aduInterval m
      else emit (.cause { kind := .runReleased, subject := .holder s.amu.holder }) (s.moveDriven m flow p a d) := by
  have hfix := (floatEnd_ended a.axis s).fixed
  have hrec : ((s.floatEnd a.axis).modAdu m (fun x => { x with granted := some flow, travel := some (d.limit a.dir) })).adu? m =
      some { a with granted := some flow, travel := some (d.limit a.dir) } := by
    rw [adu?_modAdu, if_pos rfl, floatEnd_adu?, h]
    rfl
  have hlay : ((s.floatEnd a.axis).modAdu m (fun x => { x with granted := some flow, travel := some (d.limit a.dir) })).layout.axis? a.axis = some d := by
    show (s.floatEnd a.axis).layout.axis? a.axis = some d
    rw [layout_of_fixed hfix]
    exact hd
  have hpos : ((s.floatEnd a.axis).modAdu m (fun x => { x with granted := some flow, travel := some (d.limit a.dir) })).position a.axis = some p := by
    show (s.floatEnd a.axis).position a.axis = some p
    rw [State.position, floatEnd_axis?, hy]
    exact hp
  have hamu : (s.floatEnd a.axis).amu = s.amu := amu_of_fixed hfix
  have hrun : ((s.floatEnd a.axis).modAdu m (fun x => { x with granted := some flow, travel := some (d.limit a.dir) })).runAsserted = s.runAsserted := by
    show (s.floatEnd a.axis).runAsserted = _
    rw [State.runAsserted, hamu]
    rfl
  have hcause : ((s.floatEnd a.axis).modAdu m (fun x => { x with granted := some flow, travel := some (d.limit a.dir) })).runReleasedCause =
      { kind := .runReleased, subject := .holder s.amu.holder } := by
    show (s.floatEnd a.axis).runReleasedCause = _
    rw [State.runReleasedCause, hamu]
  have hdriven : (s.floatEnd a.axis).modAdu m (fun x => { x with
      granted := some flow, travel := some (d.limit a.dir), state := .driving, halt := none, settle := none
      stall := some { left := d.stallWindow, start := p } }) = (s.floatEnd a.axis).modAdu m (AxisMotion.driven d flow p) :=
    modAdu_congr ((floatEnd_adu? a.axis m s).trans h) rfl
  simp only [State.aduStart, h, hd, Option.map_some, Option.getD_some]
  simp only [State.aduGo, hrec, hlay, hpos, hrun, hcause, modAdu_modAdu, Option.map_some, Option.getD_some, State.moveDriven]
  rw [hdriven]

/-- What ADU's taking of a grant makes of the move, before its first control interval. -/
structure State.MoveDrives (s e : State) (m flow p : Nat) (a : AxisMotion) (d : AxisDef) (y : AxisDyn) : Prop where
  record   : e.adu? m = some (a.driven d flow p)
  axis     : e.axis? a.axis = some { y with drive := .driving }
  grounded : e.floats a.axis = false
  coil     : ∀ w, d.float = some w → s.floats a.axis = true → (∀ c, s.ost.coils[w.coil]? = some c → c.owner = some a.axis) → e.coilDemanded w.coil false
  ldu      : e.ldu = s.ldu
  osq      : e.osq = s.osq
  hpa      : e.hpa = s.hpa
  todo     : e.todo = s.todo
  fixed    : e.fixed = s.fixed

/-- A coil demanded off by its owner, whether the output exists or not. -/
theorem demandFloat_off {i out : Nat} (ho : ∀ c, s.ost.coils[out]? = some c → c.owner = some i) : (s.demandFloat i out false).coilDemanded out false := by
  intro c hc
  cases hget : s.ost.coils[out]? with
  | none =>
    have he : s.demandFloat i out false = s := by simp [State.demandFloat, hget]
    rw [he, hget] at hc
    cases hc
  | some c' =>
    have he : s.demandFloat i out false = s.putDemand out i false := if_pos (by simp [hget, ho c' hget])
    rw [he, putDemand_off] at hc
    have hlook : (lmod s.ost.coils out Coil.off)[out]? = some c := hc
    rw [getElem?_lmod_self, hget] at hlook
    cases hlook
    exact ⟨off_demand c', fun _ => off_not_on c'⟩

theorem moveDriven_drives (h : s.adu? m = some a) (hd : s.layout.axis? a.axis = some d) (hy : s.axis? a.axis = some y) :
    s.MoveDrives (s.moveDriven m flow p a d) m flow p a d y := by
  have hend := floatEnd_ended a.axis s
  obtain ⟨hpmn, hhpa, hldu, hadu, hosq, htodo, -⟩ := hend.kept
  have hmod := State.Calms.modAdu m (AxisMotion.driven d flow p) (s.floatEnd a.axis)
  have hset := State.Calms.setDrive a.axis .driving ((s.floatEnd a.axis).modAdu m (AxisMotion.driven d flow p))
  obtain ⟨hldu', hadu', hhpa', host'⟩ := setDrive_kept a.axis .driving ((s.floatEnd a.axis).modAdu m (AxisMotion.driven d flow p))
  refine ⟨?_, ?_, ?_, fun w hw hf ho => ?_, hldu'.trans hldu, hset.osq.trans hosq, hhpa'.trans hhpa, (setDrive_todo _ _ _).trans htodo,
    hset.fixed.trans hend.fixed⟩
  · rw [State.moveDriven, State.adu?, hadu']
    show ((s.floatEnd a.axis).modAdu m _).adu? m = _
    rw [adu?_modAdu, if_pos rfl, floatEnd_adu?, h]
    rfl
  · rw [State.moveDriven, axis?_setDrive, if_pos rfl]
    show ((s.floatEnd a.axis).axis? a.axis).map _ = _
    rw [floatEnd_axis?, hy]
    rfl
  · rw [State.moveDriven, State.floats, hset.floats]
    exact hend.grounded
  · have hcoil : (s.floatEnd a.axis).ost.coils = (s.floatCoilOff a.axis).ost.coils := by rw [floatEnd_floating hf]; rfl
    have hoff : s.floatCoilOff a.axis = s.demandFloat a.axis w.coil false := by simp [State.floatCoilOff, hd, hw]
    intro c hc
    rw [State.moveDriven, host'] at hc
    have hc' : (s.floatEnd a.axis).ost.coils[w.coil]? = some c := hc
    rw [hcoil, hoff] at hc'
    exact demandFloat_off ho c hc'

/-- HPA tells ADU of a smaller grant (R68). -/
theorem aduReduced_granted (hq : s.hpa.grantOf m = some q) : s.aduReduced m = s.modAdu m (fun x => { x with granted := some q.flow }) := by
  simp only [State.aduReduced, hq]

end

/-! ### An axis move with a fault, and an axis move that is halted (R98, R101) -/

section
variable {s : State} {m : Nat} {a : AxisMotion} {code : FaultCode} {fresh : Bool}

theorem aduFault_moving (h : s.adu? m = some a) (hm : a.moves) (p : Nat) :
    s.aduFault m p code fresh = (s.zeroProps a.axis).aduEnd m .failed (some (.point code)) := by
  simp only [State.aduFault, h]
  rcases hm with (hs | ⟨hs, hh⟩) | hs | hs
  · rw [hs]
  · simp [hs, hh]
  · rw [hs]
  · rw [hs]

theorem aduFault_held (h : s.adu? m = some a) (hs : a.state = .halted) (hh : a.halt = some .hold) (p : Nat) :
    s.aduFault m p code fresh = if fresh = true then emit (.cause (pointFaultCause p)) s else s := by simp [State.aduFault, h, hs, hh]

theorem aduFault_over (h : s.adu? m = some a) (hs : a.state = .done ∨ a.state = .failed) (p : Nat) : s.aduFault m p code fresh = s := by
  simp only [State.aduFault, h]
  rcases hs with hs | hs <;> rw [hs]

theorem aduFault_ended (h : s.adu? m = some a) (hm : a.moves) (p : Nat) : s.MoveEnded (s.aduFault m p code fresh) m a .failed (some (.point code)) := by
  have h' : (s.zeroProps a.axis).adu? m = some a := h
  rw [aduFault_moving h hm]
  exact (aduEnd_ended h' .failed _).of_start rfl rfl rfl

/-- A move that drives or settles. -/
@[reducible] def AxisMotion.powered (a : AxisMotion) : Prop := a.state = .driving ∨ a.state = .settling

theorem not_powered_of_waits (h : a.waits) : ¬ a.powered := by
  rintro (hp | hp)
  · rcases h with h | ⟨h, -⟩
    · rw [hp] at h; cases h
    · rw [hp] at h; cases h
  · rcases h with h | ⟨h, -⟩
    · rw [hp] at h; cases h
    · rw [hp] at h; cases h

/-- A move that stands halted, before its flow is given up: its outputs at 0, its axis halted where it was driven. -/
def State.moveHalted (s : State) (m : Nat) (why : HaltCause) (a : AxisMotion) : State :=
  if a.powered then (s.haltMove m why a.axis).setDrive a.axis .halted else s.haltMove m why a.axis

theorem aduHalt_held (h : s.adu? m = some a) (hm : a.moves) : s.aduHalt m .hold = (s.moveHalted m .hold a).giveUpFlow m := by
  simp only [State.aduHalt, h, State.moveHalted, AxisMotion.powered]
  rcases hm with (hs | ⟨hs, hh⟩) | hs | hs
  · rw [hs]; rfl
  · rw [hs, hh]; rfl
  · rw [hs]; rfl
  · rw [hs]; rfl

theorem aduHalt_starved (h : s.adu? m = some a) (hs : a.state = .waitingFlow ∨ a.powered) : s.aduHalt m .noFlow = s.moveHalted m .noFlow a := by
  simp only [State.aduHalt, h, State.moveHalted, AxisMotion.powered]
  rcases hs with hs | hs | hs
  · rw [hs]; rfl
  · rw [hs]; rfl
  · rw [hs]; rfl

theorem aduHalt_other (h : s.adu? m = some a) (hm : ¬ a.moves) : s.aduHalt m .hold = s := by
  rw [AxisMotion.moves_iff, not_or, not_and] at hm
  obtain ⟨hlive, hhalt⟩ := hm
  simp only [State.aduHalt, h]
  rw [if_neg hlive, if_neg (by simpa using hhalt)]

/-- An axis move that stands halted, its flow given up or not. -/
structure State.MoveHalted (s t : State) (m : Nat) (why : HaltCause) (a : AxisMotion) : Prop where
  record  : t.adu? m = some (a.haltedBy why)
  outputs : t.still a.axis
  axis    : t.axis? a.axis = (s.axis? a.axis).map (fun y => if a.powered then { y with drive := .halted } else y)
  rest    : t.osq = s.osq ∧ t.fixed = s.fixed ∧ ∀ p, t.reservedBy p = s.reservedBy p

theorem haltMove_record (h : s.adu? m = some a) (why : HaltCause) : (s.haltMove m why a.axis).adu? m = some (a.haltedBy why) := by
  rw [State.haltMove, adu?_modAdu, if_pos rfl]
  show (s.adu? m).map _ = _
  rw [h]
  rfl

theorem moveHalted_halted (h : s.adu? m = some a) (why : HaltCause) : s.MoveHalted (s.moveHalted m why a) m why a := by
  have hstill : (s.haltMove m why a.axis).still a.axis := zeroProps_still a.axis s
  unfold State.moveHalted
  split
  · rename_i hp
    have hset := State.Calms.setDrive a.axis .halted (s.haltMove m why a.axis)
    refine ⟨?_, hset.still hstill, ?_, hset.osq, hset.fixed, fun p => reservedBy_setDrive _ _ _ p⟩
    · rw [State.adu?, setDrive_adu]
      exact haltMove_record h why
    · rw [axis?_setDrive, if_pos rfl]
      exact congrArg (fun f => Option.map f _) (funext fun y => (if_pos hp).symm)
  · rename_i hp
    refine ⟨haltMove_record h why, hstill, ?_, rfl, rfl, fun _ => rfl⟩
    simp only [if_neg hp, Option.map_id']
    rfl

theorem State.MoveHalted.giveUpFlow {t : State} {why : HaltCause} (h : s.MoveHalted t m why a) : s.MoveHalted (t.giveUpFlow m) m why a := by
  have hc := State.Calms.giveUpFlow m t
  obtain ⟨-, hadu, hpmn, -⟩ := giveUpFlow_kept m t
  obtain ⟨hosq, hfix, hres⟩ := h.rest
  refine ⟨by rw [State.adu?, hadu]; exact h.record, hc.still h.outputs, by rw [State.axis?, hpmn]; exact h.axis, hc.osq.trans hosq, hc.fixed.trans hfix, fun p => ?_⟩
  rw [State.reservedBy, hpmn]
  exact hres p

/-- What a hold leaves of the axis: a move that waited for its flow was not driven. -/
theorem State.MoveHalted.axis_of_waits {t : State} {why : HaltCause} {y : AxisDyn} (h : s.MoveHalted t m why a) (hy : s.axis? a.axis = some y) (hm : a.moves) :
    t.axis? a.axis = some (if a.waits then y else { y with drive := .halted }) := by
  rw [h.axis, hy, Option.map_some]
  refine congrArg some ?_
  rcases hm with hw | hp
  · rw [if_pos hw, if_neg (not_powered_of_waits hw)]
  · rw [if_pos hp, if_neg (fun hw => not_powered_of_waits hw hp)]

/-- The same of the loss of flow. -/
theorem State.MoveHalted.axis_of_waiting {t : State} {why : HaltCause} {y : AxisDyn} (h : s.MoveHalted t m why a) (hy : s.axis? a.axis = some y)
    (hs : a.state = .waitingFlow ∨ a.powered) : t.axis? a.axis = some (if a.state = .waitingFlow then y else { y with drive := .halted }) := by
  rw [h.axis, hy, Option.map_some]
  refine congrArg some ?_
  rcases hs with hw | hp
  · rw [if_pos hw, if_neg (not_powered_of_waits (.inl hw))]
  · rw [if_pos hp, if_neg (fun hw => not_powered_of_waits (.inl hw) hp)]

theorem moveHalted_flow (m : Nat) (why : HaltCause) (a : AxisMotion) (s : State) : (s.moveHalted m why a).hpa = s.hpa ∧ (s.moveHalted m why a).todo = s.todo := by
  unfold State.moveHalted
  split
  · obtain ⟨-, -, hhpa, -⟩ := setDrive_kept a.axis .halted (s.haltMove m why a.axis)
    exact ⟨hhpa, setDrive_todo _ _ _⟩
  · exact ⟨rfl, rfl⟩

/-- A hold gives up the flow of the move. -/
theorem aduHalt_hold_flow (h : s.adu? m = some a) (hm : a.moves) : (s.aduHalt m .hold).hpa.grantOf m = none ∧ (s.aduHalt m .hold).hpa.entryOf m = none ∧
    (s.hpa.grantOf m = none → s.hpa.entryOf m = none → (s.aduHalt m .hold).hpa = s.hpa ∧ (s.aduHalt m .hold).todo = s.todo) := by
  obtain ⟨hhpa, htodo⟩ := moveHalted_flow m .hold a s
  obtain ⟨hgrant, hentry⟩ := giveUpFlow_gone m (s.moveHalted m .hold a)
  rw [aduHalt_held h hm]
  refine ⟨hgrant, hentry, fun h1 h2 => ?_⟩
  rw [giveUpFlow_none (by rw [hhpa]; exact h1) (by rw [hhpa]; exact h2)]
  exact ⟨hhpa, htodo⟩

end

/-! ### An axis move that is re-issued (R91, R102) -/

section
variable {s : State} {m : Nat} {a : AxisMotion} {d : AxisDef} {y : AxisDyn} {p : Nat}

theorem moveSatisfied_lost (hp : s.position a.axis = none) : s.moveSatisfied a.axis a.target a.landing = false := by
  refine Bool.eq_false_iff.2 fun h => ?_
  obtain ⟨-, p, -, hp', -⟩ := moveSatisfied_iff.1 h
  rw [hp] at hp'
  cases hp'

theorem moveSatisfied_not (hd : s.layout.axis? a.axis = some d) (hp : s.position a.axis = some p)
    (h : ¬ (distanceOf a.target p ≤ d.inPos ∧ (a.landing = true → s.landed a.axis = true))) : s.moveSatisfied a.axis a.target a.landing = false := by
  refine Bool.eq_false_iff.2 fun hs => h ?_
  obtain ⟨d', p', hd', hp', hs⟩ := moveSatisfied_iff.1 hs
  rw [hd] at hd'
  rw [hp] at hp'
  cases hd'
  cases hp'
  exact hs

theorem position_eq (hy : s.axis? a.axis = some y) (hp : y.p = some p) : s.position a.axis = some p := by
  rw [State.position, hy]
  exact hp

theorem aduReissue_done (h : s.adu? m = some a) (hs : a.state = .halted) (hh : a.halt = some .hold) (ht : s.moveSatisfied a.axis a.target a.landing = true) :
    s.MoveEnded (s.aduReissue m) m a .done none := by
  have he : s.aduReissue m = s.aduEnd m .done none := by simp [State.aduReissue, h, hs, hh, ht]
  rw [he]
  exact aduEnd_ended h _ _

theorem aduReissue_failed (h : s.adu? m = some a) (hs : a.state = .halted) (hh : a.halt = some .hold) (ht : s.moveSatisfied a.axis a.target a.landing = false)
    {c : FailCause} (hr : s.moveRefused a.axis a.target = some c) : s.MoveEnded (s.aduReissue m) m a .failed (some c) := by
  have he : s.aduReissue m = s.aduEnd m .failed (some c) := by simp [State.aduReissue, h, hs, hh, ht, hr]
  rw [he]
  exact aduEnd_ended h _ _

/-- A move turned to its target anew, its axis at rest, before its request. -/
def State.moveTurned (s : State) (m : Nat) (i : Nat) : State := (s.modAdu m (fun x => { x with dir := s.moveDir x.axis x.target })).restDrive i

theorem aduReissue_turned (h : s.adu? m = some a) (hs : a.state = .halted) (hh : a.halt = some .hold) (ht : s.moveSatisfied a.axis a.target a.landing = false)
    (hr : s.moveRefused a.axis a.target = none) : s.aduReissue m = (s.moveTurned m a.axis).moveRequest m := by
  simp only [State.aduReissue, h, hs, hh, ht, hr]
  rfl

theorem moveTurned_adu? (h : s.adu? m = some a) : (s.moveTurned m a.axis).adu? m = some { a with dir := s.moveDir a.axis a.target } := by
  rw [State.moveTurned, State.restDrive, State.adu?, setDrive_adu]
  show (s.modAdu m _).adu? m = _
  rw [adu?_modAdu, if_pos rfl, h]
  rfl

theorem moveTurned_axis? (m i : Nat) (s : State) : (s.moveTurned m i).axis? i = (s.axis? i).map (fun y => { y with drive := if s.floats i = true then .float else .idle }) := by
  rw [State.moveTurned, State.restDrive, axis?_setDrive, if_pos rfl]
  rfl

theorem moveTurned_kept (m i : Nat) (s : State) : (s.moveTurned m i).hpa = s.hpa ∧ (s.moveTurned m i).todo = s.todo ∧ (s.moveTurned m i).osq = s.osq ∧
    (s.moveTurned m i).fixed = s.fixed := by
  have hset := State.Calms.restDrive i (s.modAdu m (fun x => { x with dir := s.moveDir x.axis x.target }))
  obtain ⟨-, -, hhpa, -⟩ := setDrive_kept i (if s.floats i then .float else .idle) (s.modAdu m (fun x => { x with dir := s.moveDir x.axis x.target }))
  exact ⟨hhpa, setDrive_todo _ _ _, hset.osq, hset.fixed⟩

theorem watchFor_of_fixed {s e : State} (h : e.fixed = s.fixed) (subj : Subject) : e.watchFor subj = s.watchFor subj := by
  rw [State.watchFor, State.permEntry, layout_of_fixed h]
  rfl

theorem tune_of_fixed {s e : State} (h : e.fixed = s.fixed) : e.tune = s.tune := congrArg Layout.tune (layout_of_fixed h)

/-- A move that asks for its flow: what becomes of its record and of the request list (R61, R91). -/
theorem moveRequest_asks (h : s.adu? m = some a) (hd : s.layout.axis? a.axis = some d) :
    s.moveRequest m = (s.modAdu m (s.moveAsking d)).request m .travel (commandFlow (d.base a.dir) d.qFull) (commandFlow d.vMin d.qFull) := by
  have hrec := modAdu_congr h
    (f := fun x => { x with
      state := .waitingFlow, halt := none, requested := commandFlow (d.base a.dir) d.qFull, minimum := commandFlow d.vMin d.qFull
      watched := s.watchFor (.axis x.axis x.dir) })
    (h := s.moveAsking d) rfl
  simp only [State.moveRequest, h, hd]
  rw [hrec]

/-- What a re-issued move has asked for. -/
structure State.MoveAsks (s t : State) (m : Nat) (a : AxisMotion) (d : AxisDef) (dir : AxisDir) : Prop where
  record   : t.adu? m = some (s.moveAsking d { a with dir := dir })
  axis     : t.axis? a.axis = (s.axis? a.axis).map (fun y => { y with drive := if s.floats a.axis = true then .float else .idle })
  requests : t.hpa.requests = s.hpa.requests ++
    [{ motion := m, cls := .travel, requested := commandFlow (d.base dir) d.qFull, minimum := commandFlow d.vMin d.qFull, stamp := s.hpa.arrival, passed := 0
       wait := s.tune.flowWait }]
  rest     : t.todo = s.todo ++ [.pass] ∧ t.osq = s.osq ∧ t.fixed = s.fixed

/-- The same with the flows of R61 and R91 in figures, toward a target from a position. -/
theorem State.MoveAsks.parts {t : State} (h : s.MoveAsks t m a d (s.moveDir a.axis a.target)) (hy : s.axis? a.axis = some y) (hp : s.position a.axis = some p) :
    let dir := directionTo a.target p
    let requested := (d.base dir * d.qFull + 999) / 1000
    let minimum := (d.vMin * d.qFull + 999) / 1000
    t.adu? m = some { a with
        dir := dir, state := .waitingFlow, halt := none, requested := requested, minimum := minimum, watched := s.watchFor (.axis a.axis dir) } ∧
      t.axis? a.axis = some { y with drive := if s.floats a.axis = true then .float else .idle } ∧
      t.hpa.requests = s.hpa.requests ++
        [{ motion := m, cls := .travel, requested := requested, minimum := minimum, stamp := s.hpa.arrival, passed := 0, wait := s.tune.flowWait }] ∧
      t.todo = s.todo ++ [.pass] ∧ t.osq = s.osq ∧ t.fixed = s.fixed := by
  have hdir : s.moveDir a.axis a.target = directionTo a.target p := by simp only [State.moveDir, hp]
  intro dir requested minimum
  refine ⟨?_, ?_, ?_, h.rest⟩
  · rw [h.record, hdir]
    simp only [State.moveAsking, commandFlow_eq]
    rfl
  · rw [h.axis, hy]
    rfl
  · rw [h.requests, hdir, commandFlow_eq, commandFlow_eq]

theorem aduReissue_asks (h : s.adu? m = some a) (hd : s.layout.axis? a.axis = some d) (hs : a.state = .halted) (hh : a.halt = some .hold)
    (ht : s.moveSatisfied a.axis a.target a.landing = false) (hr : s.moveRefused a.axis a.target = none) :
    s.MoveAsks (s.aduReissue m) m a d (s.moveDir a.axis a.target) := by
  obtain ⟨hhpa, htodo, hosq, hfix⟩ := moveTurned_kept m a.axis s
  have hrec := moveTurned_adu? (s := s) h
  rw [aduReissue_turned h hs hh ht hr, moveRequest_asks hrec (by rw [layout_of_fixed hfix]; exact hd)]
  refine ⟨?_, moveTurned_axis? m a.axis s, ?_, congrArg (· ++ [Task.pass]) htodo, hosq, hfix⟩
  · show ((s.moveTurned m a.axis).modAdu m _).adu? m = _
    rw [adu?_modAdu, if_pos rfl, hrec]
    simp only [Option.map_some, State.moveAsking, watchFor_of_fixed hfix]
  · show (s.moveTurned m a.axis).hpa.requests ++
      [{ motion := m, cls := .travel, requested := _, minimum := _, stamp := (s.moveTurned m a.axis).hpa.arrival, passed := 0
         wait := (s.moveTurned m a.axis).tune.flowWait }] = _
    rw [hhpa, tune_of_fixed hfix]

end

end Sys2Proof.Machine
end

section
namespace Sys2Proof.Machine

/-! ### Reports handed to the unit of a motion (R13, R25, R67, R68, R69) -/

section
variable {s : State} {m p : Nat} {g : GroupMotion} {x : Member} {code : FaultCode} {fresh : Bool}

theorem granted_group (hm : m ≠ Config.jogMotion) (hg : s.ldu? m = some g) : runTask (.granted m) s = s.lduGrant m := by
  simp only [runTask, State.handGrant, if_neg hm, hg]
  rfl

theorem granted_move {a : AxisMotion} (hm : m ≠ Config.jogMotion) (hg : s.ldu? m = none) (ha : s.adu? m = some a) : runTask (.granted m) s = s.aduGrant m := by
  simp only [runTask, State.handGrant, if_neg hm, hg, ha]
  rfl

theorem moved_group (hm : m ≠ Config.jogMotion) (hr : s.reservedBy p = some m) : runTask (.lockMoved p) s = s.lduMoved m p := by
  simp only [runTask, State.tellMoved, hr, if_neg hm]

theorem faulted_move (hm : m ≠ Config.jogMotion) (hr : s.reservedBy p = some m) (hg : s.ldu? m = none) :
    runTask (.faulted p code fresh) s = s.aduFault m p code fresh := by
  simp only [runTask, State.tellFault, hr, if_neg hm, lduFault_absent hg]

theorem adu_lduHalt (m : Nat) (why : HaltCause) (s : State) : (s.lduHalt m why).adu = s.adu := by
  rcases lduHalt_cases m why s with h | ⟨g, h | h⟩
  · rw [h]
  · obtain ⟨-, hadu, -⟩ := haltGroup_kept m why g s
    rw [h, hadu]
  · obtain ⟨-, hadu, -⟩ := haltGroup_kept m why g s
    obtain ⟨-, hadu', -⟩ := giveUpFlow_kept m (s.haltGroup m why g)
    rw [h, hadu', hadu]

theorem withdrawn_group (hm : m ≠ Config.jogMotion) (ha : s.adu? m = none) : runTask (.withdrawn m) s = s.lduHalt m .hold := by
  have ha' : (s.lduHalt m .hold).adu? m = none := by rw [State.adu?, adu_lduHalt]; exact ha
  simp only [runTask, State.tellWithdrawn, if_neg hm, State.haltMotion, aduHalt_absent ha']

theorem withdrawn_move (hm : m ≠ Config.jogMotion) (hg : s.ldu? m = none) : runTask (.withdrawn m) s = s.aduHalt m .hold := by
  simp only [runTask, State.tellWithdrawn, if_neg hm, State.haltMotion, lduHalt_absent hg]

theorem revoked_group (hm : m ≠ Config.jogMotion) : runTask (.revoked m) s = (s.lduHalt m .noFlow).aduHalt m .noFlow := by
  simp only [runTask, State.tellRevoked, if_neg hm, State.haltMotion]

theorem revoked_move (hm : m ≠ Config.jogMotion) (hg : s.ldu? m = none) : runTask (.revoked m) s = s.aduHalt m .noFlow := by
  simp only [runTask, State.tellRevoked, if_neg hm, State.haltMotion, lduHalt_absent hg]

/-- A reserved point is present. -/
theorem present_of_reservedBy (hr : s.reservedBy p = some m) : (tget s.pmn.points p).isSome := by
  obtain ⟨y, hy, -⟩ := Option.bind_eq_some_iff.1 hr
  exact Option.isSome_iff_exists.2 ⟨y, hy⟩

/-- A lock that LDU finds in CONFLICT has its fault (R80). -/
theorem lduMoved_conflict_fault (hg : s.ldu? m = some g) (hx : g.member? p = some x) (hl : g.state = .driving ∨ g.waits) (hc : s.confirmed p = .conflict)
    (hs : x.state ≠ .failed) (hr : s.reservedBy p = some m) : (s.lduMoved m p).faultOf p = some ((s.faultOf p).getD .sensorConflict) := by
  obtain ⟨hgone, -⟩ := lduFail_gone (code := .sensorConflict) hg hx hs (waits_not_ended hl)
  rw [lduMoved_conflict hg hx hl hc]
  exact (hgone.report (present_of_reservedBy hr)).kept

theorem State.GoesOn.parts {t : State} (h : s.GoesOn t m g) : (¬ g.idle → t.ldu? m = some g) ∧ (g.idle → g.failedPoints = [] → s.GroupEnded t m .done none []) ∧
    (g.idle → g.failedPoints ≠ [] → s.GroupEnded t m .failed g.firstCause g.failedPoints) := ⟨h.moving, h.done, h.failed⟩

theorem State.MemberFails.parts {t : State} (h : s.MemberFails t m p code g) : s.LockOff t m p ∧
    (g.policy = .stopGroup → s.GroupEnded t m .failed (some (.point code)) [p]) ∧
    (g.policy = .carryOn → (¬ (g.memberFailed p code).idle → t.ldu? m = some (g.memberFailed p code)) ∧
      ((g.memberFailed p code).idle → (g.memberFailed p code).failedPoints = [] → s.GroupEnded t m .done none []) ∧
      ((g.memberFailed p code).idle → (g.memberFailed p code).failedPoints ≠ [] →
        s.GroupEnded t m .failed (g.memberFailed p code).firstCause (g.memberFailed p code).failedPoints)) :=
  ⟨h.coils, h.stopped, fun hc => (h.carried hc).parts⟩

/-- A revocation halts a group drive for want of flow, and HPA, which has taken the grant, is left as it is (R84). -/
theorem revoked_group_halted (hm : m ≠ Config.jogMotion) (hg : s.ldu? m = some g) (hs : g.state = .waitingFlow ∨ g.state = .driving) :
    s.GroupHalted (runTask (.revoked m) s) m .noFlow g ∧ (runTask (.revoked m) s).hpa = s.hpa := by
  obtain ⟨hhpa, -⟩ := haltGroup_kept m .noFlow g s
  obtain ⟨hldu, hres, hcalm⟩ := aduHalt_kept m .noFlow (s.haltGroup m .noFlow g)
  rw [revoked_group hm, lduHalt_starved hg hs]
  exact ⟨(haltGroup_halted hg .noFlow).later hcalm hldu hres, (aduHalt_starved_hpa m _).trans hhpa⟩

/-- A member that has failed already changes nothing while others move. -/
theorem lduFault_again (hg : s.ldu? m = some g) (hl : g.state = .driving ∨ g.waits) (hx : g.member? p = some x) (hs : x.state = .failed) (hi : ¬ g.idle) :
    s.lduFault m p code fresh = s := by
  rw [lduFault_live hg hl, lduFail_failed hg hx hs, lduCheck_moving hg hi]

end

/-! ### O60 -/

/-- Settles O60: each report by the rule of the unit that takes it, LDU's first, then ADU's. -/
theorem unitsDriveOnTheirGrants : Obligations.UnitsDriveOnTheirGrants := by
  refine ⟨fun m g s hm hg => ⟨fun q hq => ⟨fun hw hb => ?_, fun hw c hb => ?_, fun hs => ?_, fun hw hd hs => ?_⟩,
    fun p x hr hx hl => ⟨fun hc hs => ?_, fun hh hs => ?_, fun hn hc hs => ?_, fun hc hs => ?_⟩,
    fun p x code fresh hr hx ha => ⟨fun hl hs => ?_, fun hl hs hi => ?_, fun hs hh => ?_, fun hs => ?_⟩,
    fun ha => ⟨fun hl => ?_, fun hd hw => ?_⟩, fun hs => ?_,
    fun hs hh hn => ⟨fun hb => ?_, fun p rest hb hp => ?_, fun hp h hrec => ?_⟩⟩,
    fun m a d y p s hm hg ha hd hy hp => ⟨fun q hq => ⟨fun hw hb => ?_, fun hw c hb => ?_, fun hs => ?_, fun hw hdr hs => ?_, ?_⟩,
      ⟨fun code fresh hr => ⟨fun hl => ?_, fun hs hh => ?_, fun hs => ?_⟩, fun hl => ?_, fun hl => ?_⟩, fun hs => ?_,
      fun hs hh => ⟨fun ht => ?_, fun ht hf => ?_, fun ht hf hw => ?_, fun ht hf hw => ?_⟩⟩,
    fun m a s hm ha hs hh hp => ?_⟩
  -- LDU: the handover of a grant
  · have hdrives := lduDrive_drives (flow := q.flow) hg
    obtain ⟨hadu, hosq, hhpa, hfix⟩ := hdrives.rest
    rw [granted_group hm hg, lduGrant_drives hg hq hw hb]
    exact ⟨hdrives.record, hdrives.coils, hdrives.others, hadu, hosq, hhpa, hfix⟩
  · exact (granted_group hm hg).trans (lduGrant_broken hg hq hw hb)
  · exact (granted_group hm hg).trans (lduGrant_stands hg hq hs)
  · obtain ⟨hldu, -, hpmn, host⟩ := giveUpFlow_kept m s
    obtain ⟨hgone, hpass⟩ := giveUpFlow_released hq
    rw [granted_group hm hg, lduGrant_released hg hq hw hd hs]
    exact ⟨hgone, hpass, hldu, host, hpmn⟩
  -- LDU: a lock whose confirmed state changes
  · have hfault := lduMoved_conflict_fault hg hx hl hc hs hr
    have hfails := lduFail_fails (code := .sensorConflict) (report := true) hg hx hs (waits_not_ended hl)
    rw [← lduMoved_conflict hg hx hl hc] at hfails
    rw [moved_group hm hr]
    exact ⟨hfault, hfails.parts⟩
  · have hgoes := lduMoved_arrives hg hx hl hh hs
    rw [moved_group hm hr]
    exact ⟨fun d hd ho => lduMoved_quiet hg hx hl hh hs hr hd ho, hgoes.parts⟩
  · obtain ⟨hrec, hcoil⟩ := lduMoved_leaves hg hx hl hn hc hs
    rw [moved_group hm hr]
    exact ⟨hrec, hcoil⟩
  · exact (moved_group hm hr).trans (lduMoved_same hg hx hc hs)
  -- LDU: a fault of a member
  · rw [faulted_group hm hr ha, lduFault_live hg hl]
    exact (lduFail_fails hg hx hs (waits_not_ended hl)).parts
  · exact (faulted_group hm hr ha).trans (lduFault_again hg hl hx hs hi)
  · exact (faulted_group hm hr ha).trans (lduFault_held hg hs hh)
  · exact (faulted_group hm hr ha).trans (lduFault_over hg hs)
  -- LDU: its flow withdrawn or its grant revoked
  · have hhalt := lduHalt_hold_halted hg hl
    obtain ⟨hgrant, hentry, hsame⟩ := lduHalt_hold_flow hg hl
    obtain ⟨hosq, hfix, hres⟩ := hhalt.rest
    rw [withdrawn_group hm ha]
    exact ⟨hhalt.record, hhalt.coils, hgrant, hentry, hsame, hosq, hfix, hres⟩
  · exact (withdrawn_group hm ha).trans (lduHalt_other hg hd hw)
  · obtain ⟨hhalt, hhpa⟩ := revoked_group_halted hm hg hs
    obtain ⟨hosq, hfix, hres⟩ := hhalt.rest
    exact ⟨hhalt.record, hhalt.coils, hhpa, hosq, hfix, hres⟩
  -- LDU: the re-issue
  · refine ⟨(lduReissue_clean hg hs hh hb).parts, fun hi => ?_⟩
    rw [lduReissue_asks hg hs hh hb hi]
    exact ⟨rfl, rfl, rfl, rfl⟩
  · exact lduReissue_stopped hg hs hh hn hb hp
  · exact lduReissue_carried hg hs hh hn hp hrec
  -- ADU: the handover of a grant, and its reduction
  · have hdrives := moveDriven_drives (m := m) (flow := q.flow) (p := p) ha hd hy
    have hgrant := (granted_move hm hg ha).trans ((aduGrant_starts ha hq hw hb).trans (aduStart_eq ha hd hy hp))
    exact ⟨s.moveDriven m q.flow p a d, hdrives.record, hdrives.axis, hdrives.grounded, hdrives.coil, hdrives.ldu, hdrives.osq, hdrives.hpa, hdrives.todo,
      hdrives.fixed, fun hrun => hgrant.trans (if_pos hrun), fun hrun => hgrant.trans (if_neg (by simp [hrun]))⟩
  · exact (granted_move hm hg ha).trans (aduGrant_broken ha hq hw hb)
  · exact (granted_move hm hg ha).trans (aduGrant_stands ha hq hs)
  · obtain ⟨-, hadu, hpmn, host⟩ := giveUpFlow_kept m s
    obtain ⟨hgone, hpass⟩ := giveUpFlow_released hq
    rw [granted_move hm hg ha, aduGrant_released ha hq hw hdr hs]
    exact ⟨hgone, hpass, hadu, host, hpmn⟩
  · exact aduReduced_granted hq
  -- ADU: a fault of the axis
  · rw [faulted_move hm hr hg]
    exact aduFault_ended ha hl _
  · exact (faulted_move hm hr hg).trans (aduFault_held ha hs hh _)
  · exact (faulted_move hm hr hg).trans (aduFault_over ha hs _)
  -- ADU: its flow withdrawn or its grant revoked
  · have hhalt := (moveHalted_halted ha .hold).giveUpFlow
    obtain ⟨hgrant, hentry, hsame⟩ := aduHalt_hold_flow ha hl
    obtain ⟨hosq, hfix, hres⟩ := hhalt.rest
    rw [← aduHalt_held ha hl] at hhalt hosq hfix hres
    rw [withdrawn_move hm hg]
    exact ⟨hhalt.record, hhalt.outputs, hgrant, hentry, hsame, hhalt.axis_of_waits hy hl, hosq, hfix, hres⟩
  · exact (withdrawn_move hm hg).trans (aduHalt_other ha hl)
  · have hhalt := moveHalted_halted ha .noFlow
    obtain ⟨hosq, hfix, -⟩ := hhalt.rest
    obtain ⟨hhpa, -⟩ := moveHalted_flow m .noFlow a s
    rw [revoked_move hm hg, aduHalt_starved ha hs]
    exact ⟨hhalt.record, hhalt.outputs, hhalt.axis_of_waiting hy hs, hhpa, hosq, hfix⟩
  -- ADU: the re-issue
  · exact aduReissue_done ha hs hh (moveSatisfied_iff.2 ⟨d, p, hd, position_eq hy hp, ht⟩)
  · exact aduReissue_failed ha hs hh (moveSatisfied_not hd (position_eq hy hp) ht) (moveRefused_faulted (.inr hf))
  · exact aduReissue_failed ha hs hh (moveSatisfied_not hd (position_eq hy hp) ht) (moveRefused_protected (by rw [position_eq hy hp]; simp) hf hw)
  · have hasks := aduReissue_asks ha hd hs hh (moveSatisfied_not hd (position_eq hy hp) ht) (moveRefused_none (position_eq hy hp) hf hw)
    exact hasks.parts hy (position_eq hy hp)
  · exact aduReissue_failed ha hs hh (moveSatisfied_lost hp) (moveRefused_faulted (.inl hp))

end Sys2Proof.Machine
end
